-- ==== Sys2Proof/Word.lean ====
section
/-! DEFINITION. The one word type of the part: the byte of the till port and of the concourse link. -/

namespace Sys2Proof

/-- A byte as it crosses the till port or the pair (R184, R194). -/
abbrev Byte := BitVec 8

end Sys2Proof
end

