-- ==== Sys2Proof/Config.lean ====
section
/-! DEFINITION. What the manual leaves open and the model leaves free: constants without a body. -/

namespace Sys2Proof

/-- Whether a reply that gives a timer in whole seconds (R191, R192) rounds a part second up. The manual states no
rounding: a free value, applied to the timer's milliseconds. DESIGN CHOICE, log entry 4; safe. -/
opaque Config.roundUp : Nat → Bool

end Sys2Proof
end

