-- ==== Sys2Proof/Machine/Params.lean ====
section
/-! DEFINITION. The numbers the manual fixes: capacities, ranges, times in milliseconds. -/

namespace Sys2Proof.Machine

/-- Card places (R1). -/
def cardPlaces : Nat := 16384
/-- Request-table places (R23). -/
def grantPlaces : Nat := 1024
/-- OPEN holds (R23). -/
def openHoldLimit : Nat := 256
/-- OPEN holds of one card (R1). -/
def cardHoldLimit : Nat := 4
/-- Tracker places (R66). -/
def trackerPlaces : Nat := 32
/-- Till slots (R64). -/
def slotCount : Nat := 8
/-- Frame slots (R165). -/
def frameSlots : Nat := 16
/-- Link queue places (R47, R54). -/
def queuePlaces : Nat := 16
/-- Collided attempts after which a frame is dropped (R49). -/
def attemptLimit : Nat := 16
/-- Notices the queue holds (R177). -/
def noticePlaces : Nat := 32
/-- The largest transaction amount (R72). -/
def maxAmount : Nat := 9999999
/-- The largest serial (R1). -/
def maxSerial : Nat := 99999999
/-- The largest position figure (R90). -/
def figureLimit : Nat := 999999999999
/-- The largest period (R89). -/
def maxPeriod : Nat := 16777215
/-- The largest hold tag (R25). -/
def maxTag : Nat := 16777215
/-- The largest request number (R166). -/
def maxReqNo : Nat := 65535
/-- The request counter's step (R166). -/
def counterStepSize : Nat := 256
/-- Offers of a request frame (R68). -/
def offerLimit : Nat := 4
/-- The journal reserve (R135). -/
def reserveSlots : Nat := 512
/-- Journal blocks (R130). -/
def blockCount : Nat := 32
/-- Slots of a journal block (R130). -/
def blockSlots : Nat := 512
/-- Erases a block lasts (R141). -/
def eraseLimit : Nat := 100000
/-- Usable blocks the station needs (R141). -/
def minUsable : Nat := 4
/-- Entries of a statement run (R122). -/
def runLimit : Nat := 64
/-- The answer wait, in milliseconds (R68). -/
def answerWait : Nat := 400
/-- The PRESENCE timer, in milliseconds (R51). -/
def presencePeriod : Nat := 5000
/-- The silence time at which an entry becomes ABSENT, in milliseconds (R60). -/
def silenceLimit : Nat := 15000
/-- Milliseconds in a second. -/
def second : Nat := 1000

end Sys2Proof.Machine
end

