-- ==== Sys2Proof/Syntax.lean ====
section
/-! DEFINITION. The commands of the CB-812: one constructor for each row of spec/opcode_table.json, with its operands.
Host commands carry the arguments of R190; an event carries what names its occasion. -/

namespace Sys2Proof

/-- A card identifier SS-NNNNNNNN-CC (R3, R186): home station, serial, check value. -/
structure CardId where
  ss : Nat
  serial : Nat
  cc : Nat
  deriving DecidableEq, Repr

/-- How a store program ends (R158): read back equal, or different. A failed program leaves its place as it was before or
torn: the manual does not say which, so the event says it (log entry 8). -/
inductive ProgramResult where
  | completed
  | failedUnchanged
  | failedTorn
  deriving DecidableEq, Repr

/-- The commands. The comment of each constructor names its row and its rule. -/
inductive Instr where
  /-- STATUS, 0x01 (R187); `protectN` is the level sampled on PROTECT_N (R184). -/
  | status (protectN : Bool)
  /-- START, 0x02 (R169, R170). -/
  | start (station mall feeRate fixedFee ceiling holdLife closeLimit : Nat)
  /-- CLOSE, 0x40 (R95). -/
  | close
  /-- ROSTER_READ, 0x41 (R187). -/
  | rosterRead
  /-- ISSUE, 0x10 (R10, R11). -/
  | issue (slot amount : Nat) (reloadable : Bool) (tillRef : Option Nat)
  /-- REDEEM, 0x11 (R31, R72 to R74). -/
  | redeem (slot : Nat) (card : CardId) (amount : Nat) (allowPartial : Bool) (tillRef : Option Nat)
  /-- COMPLETE, 0x12 (R36, R77). -/
  | complete (slot amount : Nat)
  /-- CANCEL, 0x13 (R37, R79). -/
  | cancel (slot : Nat)
  /-- TOPUP, 0x14 (R12, R80). -/
  | topup (slot : Nat) (card : CardId) (amount : Nat) (tillRef : Option Nat)
  /-- REFUND, 0x15 (R12, R80). -/
  | refund (slot : Nat) (card : CardId) (amount : Nat) (tillRef : Option Nat)
  /-- ENQUIRE, 0x16 (R17, R82). -/
  | enquire (slot : Nat) (card : CardId)
  /-- FREEZE, 0x17 (R18, R82). -/
  | freeze (slot : Nat) (card : CardId)
  /-- UNFREEZE, 0x18 (R19). -/
  | unfreeze (slot : Nat) (card : CardId) (tillRef : Option Nat) (protectN : Bool)
  /-- RANGE_LOCK, 0x19 (R8). -/
  | rangeLock (lock low high : Nat) (active : Bool) (protectN : Bool)
  /-- SLOT_READ, 0x20 (R65). -/
  | slotRead (slot : Nat)
  /-- SLOT_FREE, 0x21 (R84). -/
  | slotFree (slot : Nat)
  /-- TAKE_NOTICE, 0x30 (R180). -/
  | takeNotice
  /-- SET_MASK, 0x31 (R178). -/
  | setMask (mask : Nat)
  /-- POSITION_READ, 0x42 (R93). -/
  | positionRead (generation station : Nat)
  /-- CURSOR_SET, 0x50 (R146, R147). -/
  | cursorSet (cursor startIndex count blockLen direction endAction mode filter : Nat) (notice : Bool)
  /-- CURSOR_READ, 0x51 (R148). -/
  | cursorRead (cursor : Nat)
  /-- ARCHIVE_ACK, 0x52 (R155). -/
  | archiveAck (index : Nat)
  /-- BAD_COMMAND: an opcode that names no command (R184). -/
  | badCommand (opcode : Nat)
  /-- CURSOR_ENTRY_READ: the last byte of an entry record has been clocked out (R150). -/
  | cursorEntryRead
  /-- NOTICE_RECORD_CLOCKED: the last byte of a chosen notice record has been clocked out (R180). -/
  | noticeRecordClocked
  /-- NOTICES_LOST_CLEARED: the STATUS byte with the notices-lost flag has been clocked out (R182). -/
  | noticesLostCleared
  /-- FRAME_RECEIVED: a frame arrives on the pair, as its bytes (R52, R194). -/
  | frameReceived (bytes : List Byte)
  /-- PRESENCE: hand-over of the receive queue's head, a PRESENCE frame (R55, R59). -/
  | presence
  /-- HOLD_REQ: hand-over (R26). -/
  | holdReq
  /-- SETTLE_REQ: hand-over (R32). -/
  | settleReq
  /-- CREDIT_REQ: hand-over (R13). -/
  | creditReq
  /-- STATUS_REQ: hand-over (R17, R18). -/
  | statusReq
  /-- HOLD_ANS: hand-over (R75). -/
  | holdAns
  /-- SETTLE_ANS: hand-over (R78, R79). -/
  | settleAns
  /-- CREDIT_ANS: hand-over (R81). -/
  | creditAns
  /-- STATUS_ANS: hand-over (R82). -/
  | statusAns
  /-- POSITION: hand-over (R102). -/
  | position
  /-- ATTEMPT_BEGIN: the pair has been quiet for one link slot (R47). -/
  | attemptBegin
  /-- ATTEMPT_INTACT: the whole frame was sent (R47). -/
  | attemptIntact
  /-- ATTEMPT_COLLIDED: a collision was detected; `draw` is the random number of the backoff (R48). -/
  | attemptCollided (draw : Nat)
  /-- BACKOFF_END: the drawn wait is over (R48). -/
  | backoffEnd
  /-- PRESENCE_TIMER: 5 s since the last PRESENCE was offered (R51). -/
  | presenceTimer
  /-- OWED_FRAME_PLACED: a frame owed by recovery finds room in the transmit queue (R50, R170). -/
  | owedFramePlaced
  /-- SILENCE_TIMEOUT: the silence time of a roster entry reaches 15 s (R60). -/
  | silenceTimeout (station : Nat)
  /-- HOLD_EXPIRY: the life of the OPEN hold with this tag runs out (R38). -/
  | holdExpiry (tag : Nat)
  /-- HELD_BACK_EXPIRY: an expiry held back by a full frame area takes a frame slot (R39). -/
  | heldBackExpiry (tag : Nat)
  /-- HOLD_TIMER_EXPIRY: the hold timer of a HELD slot runs out (R76). -/
  | holdTimerExpiry (slot : Nat)
  /-- ANSWER_WAIT_EXPIRY: the answer wait of the tracker entry (home, request number) runs out (R68). -/
  | answerWaitExpiry (home reqNo : Nat)
  /-- IN_DOUBT_MOVE: a waiting move to IN_DOUBT takes a frame slot (R71). -/
  | inDoubtMove (home reqNo : Nat)
  /-- DEFERRED_RELEASE: a waiting release of an own hold takes a frame slot (R37, R85). -/
  | deferredRelease (tag : Nat)
  /-- COUNTER_STEP: a request-counter step takes a frame slot (R166). -/
  | counterStep
  /-- CLOSE_BEGIN: close begin is examined (R96, R97). -/
  | closeBegin
  /-- CLOSE_DEADLINE: the close deadline passes (R107). -/
  | closeDeadline
  /-- CLOSE_COMPLETION: close completion is examined (R109, R110). -/
  | closeCompletion
  /-- PROGRAM_COMPLETE: the program under way ends and is read back (R158). -/
  | programComplete (result : ProgramResult)
  /-- ERASE_BEGIN: the erase scheduler begins an erase (R139). -/
  | eraseBegin
  /-- ERASE_COMPLETE: the erase under way ends, without failure or with one (R139, R141). -/
  | eraseComplete (ok : Bool)
  /-- RESET: RESET_N goes low or the supply is lost (R168). -/
  | reset
  /-- RESET_RELEASE: RESET_N rises with the supply good, or the supply becomes good (R168). -/
  | resetRelease
  /-- RECOVERY_END: recovery builds the working copy and ends (R174). -/
  | recoveryEnd
  /-- CURSOR_RECORD_CHOSEN: the read header or an END record has been clocked out (R148). -/
  | cursorRecordChosen
  deriving DecidableEq, Repr

end Sys2Proof
end

