-- ==== Sys2Proof/Machine/Records.lean ====
section
/-! DEFINITION. The records the manual's tables define: card records, request-table entries, link frames, tracker entries,
position rows, journal entries, cursors, notices, intent frames, programs. Plain data only. -/

namespace Sys2Proof.Machine

/-- A sparse table: (place, content) with places strictly rising; a place that is not listed is blank. -/
abbrev Tab (α : Type) := List (Nat × α)

/-- The station states of R167, and the time the part is held in reset (R168). -/
inductive StationState where
  | held | recovering | idle | trading | halted
  deriving DecidableEq, Repr

/-- The fault codes of R171. -/
inductive FaultCode where
  | programFailed | stationClash | journalWorn | frameFormat | recoveryFailed
  deriving DecidableEq, Repr

/-- What START gives and a reset loses (R169). Hold life and close limit are in seconds, after clamping. -/
structure StartConf where
  feeRate : Nat
  fixedFee : Nat
  ceiling : Nat
  holdLife : Nat
  closeLimit : Nat
  deriving DecidableEq, Repr

/-- The identity record (R157). -/
structure Identity where
  station : Nat
  mall : Nat
  serialCounter : Nat
  tagCounter : Nat
  highWater : Nat
  deriving DecidableEq, Repr

/-! ### Chapter 1 -/

/-- A card's own state (R1). -/
inductive CardState where
  | active | frozen
  deriving DecidableEq, Repr

/-- A card record (R1). -/
structure Card where
  serial : Nat
  state : CardState
  available : Nat
  held : Nat
  openHolds : Nat
  reloadable : Bool
  lastActivity : Nat
  deriving DecidableEq, Repr

/-- A range lock (R7). -/
structure RangeLock where
  low : Nat
  high : Nat
  active : Bool
  deriving DecidableEq, Repr

/-- A range lock on a blank store: inactive, serials 0 (R7). -/
def RangeLock.blank : RangeLock := ⟨0, 0, false⟩

/-! ### Chapter 2 -/

/-- The state of a HOLD entry; CAPTURED carries the captured amount c (R22). -/
inductive HoldState where
  | isOpen
  | captured (c : Nat)
  | released
  | expired
  deriving DecidableEq, Repr

/-- The credit kinds (R22, R45). -/
inductive CreditKind where
  | topup | refund
  deriving DecidableEq, Repr

/-- The fields of a request-table entry that its kind decides (R22). A CREDIT entry's state is always APPLIED. -/
inductive GrantBody where
  | hold (tag g : Nat) (state : HoldState)
  | credit (kind : CreditKind) (amount : Nat)
  deriving DecidableEq, Repr

/-- A request-table entry as it is stored (R22). The remaining life of an OPEN hold is kept apart, in working memory. -/
structure Grant where
  requester : Nat
  reqNo : Option Nat
  serial : Nat
  period : Nat
  body : GrantBody
  deriving DecidableEq, Repr

/-! ### Reasons, outcomes and answers -/

/-- Reason codes 1 to 8 (R186); "none" is the absent option. -/
inductive Reason where
  | period | unknownCard | frozen | overCeiling | busy | limit | insufficient | locked
  deriving DecidableEq, Repr

/-- The outcome codes (R186). -/
inductive OutcomeCode where
  | approved | partially | declined | captured | released | releaseAssumed | captureRefused | inDoubt | credited
  | noAnswer | holdLapsed | issued | status | unfrozen
  deriving DecidableEq, Repr

/-- A card's state as an enquiry reports it, and BUSY as a STATUS_ANS may carry it (R17, R18, R45). -/
inductive CardView where
  | active | frozen | locked | unknown | busy
  deriving DecidableEq, Repr

/-- HOLD_ANS outcomes (R45). -/
inductive HoldAnswer where
  | granted | partially | declined
  deriving DecidableEq, Repr

/-- SETTLE actions (R45). -/
inductive SettleAction where
  | capture | release
  deriving DecidableEq, Repr

/-- SETTLE_ANS outcomes (R45). -/
inductive SettleAnswer where
  | done | tooLate
  deriving DecidableEq, Repr

/-- CREDIT_ANS outcomes (R45). -/
inductive CreditAnswer where
  | applied | declined
  deriving DecidableEq, Repr

/-- STATUS_REQ actions (R45). -/
inductive StatusAction where
  | enquire | freeze
  deriving DecidableEq, Repr

/-! ### Chapter 5 figures -/

/-- The six bilateral figures of a row, in the order a POSITION frame carries them (R45, R90). -/
structure Figures where
  ra : Nat
  ta : Nat
  fa : Nat
  ri : Nat
  ti : Nat
  fi : Nat
  deriving DecidableEq, Repr

/-- Six zeros. -/
def Figures.zero : Figures := ⟨0, 0, 0, 0, 0, 0⟩

/-- The own row's figures RO, TO, FO and KO (R90). -/
structure OwnFigures where
  ro : Nat
  tO : Nat
  fo : Nat
  ko : Nat
  deriving DecidableEq, Repr

/-! ### Chapter 3 -/

/-- The payload of each kind of link frame (R45). -/
inductive Payload where
  | presence (halted : Bool) (period target : Nat) (closing : Bool)
  | holdReq (serial amount : Nat) (allowPartial : Bool)
  | holdAns (outcome : HoldAnswer) (amount tag : Nat) (reason : Option Reason)
  | settleReq (action : SettleAction) (tag serial amount : Nat)
  | settleAns (outcome : SettleAnswer) (action : SettleAction) (amount : Nat)
  | creditReq (kind : CreditKind) (serial amount : Nat)
  | creditAns (outcome : CreditAnswer) (reason : Option Reason)
  | statusReq (action : StatusAction) (serial : Nat)
  | statusAns (view : CardView) (available held : Nat)
  | position (period : Nat) (figures : Figures) (haveYours : Bool)
  deriving DecidableEq, Repr

/-- A link frame's header, less the mall id and the check, and its payload (R44). -/
structure LinkFrame where
  src : Nat
  dst : Nat
  stamp : Nat
  reqNo : Nat
  payload : Payload
  deriving DecidableEq, Repr

/-- A frame in the transmit queue with its attempt count (R47, R48). -/
structure TxFrame where
  dst : Nat
  stamp : Nat
  reqNo : Nat
  payload : Payload
  attempts : Nat
  deriving DecidableEq, Repr

/-- What the sender is doing: nothing, attempting the head frame, waiting out a backoff of link slots, or ending an attempt
whose frame was discarded on entry to HALTED (R47, R48, R63). -/
inductive TxPhase where
  | quiet
  | attempting
  | backoff (slots : Nat)
  | abandoned
  deriving DecidableEq, Repr

/-- Roster states (R58). -/
inductive Presence where
  | absent | present | halted
  deriving DecidableEq, Repr

/-- A roster entry; the silence time is in milliseconds, 0 to 15,000 (R58). -/
structure RosterEntry where
  state : Presence
  lastPeriod : Nat
  target : Nat
  silence : Nat
  deriving DecidableEq, Repr

/-- A roster entry after reset (R58). -/
def RosterEntry.blank : RosterEntry := ⟨.absent, 0, 0, 0⟩

/-! ### Chapter 4 -/

/-- Till slot states other than FREE: a FREE slot holds no field and is not listed (R64). -/
inductive SlotState where
  | authorising | held | settling | crediting | enquiring | issuing | outcome
  deriving DecidableEq, Repr

/-- The operation of a slot (R64). -/
inductive Operation where
  | issue | redeem | complete | cancel | topup | refund | enquire | freeze | unfreeze
  deriving DecidableEq, Repr

/-- The hold a slot stands on (R64). -/
structure HoldRef where
  tag : Nat
  period : Nat
  g : Nat
  deriving DecidableEq, Repr

/-- An outcome record (R64). -/
structure OutcomeRec where
  code : OutcomeCode
  amount : Nat
  card : CardId
  availableAfter : Option Nat
  reason : Option Reason
  view : Option CardView
  held : Nat
  deriving DecidableEq, Repr

/-- A till slot that is not FREE (R64). The hold timer is in milliseconds. -/
structure Slot where
  state : SlotState
  op : Operation
  card : CardId
  amount : Nat
  allowPartial : Bool
  tillRef : Option Nat
  hold : Option HoldRef
  timer : Option Nat
  link : Option (Nat × Nat)
  outcome : Option OutcomeRec
  deriving DecidableEq, Repr

/-- The kinds of tracker entry (R66). -/
inductive TrackKind where
  | hold
  | capture
  | release
  | credit (kind : CreditKind)
  | status (action : StatusAction)
  deriving DecidableEq, Repr

/-- Tracker entry states (R66). -/
inductive TrackState where
  | sent | inDoubt
  deriving DecidableEq, Repr

/-- The fields of a tracker entry that a stored entry keeps in the store (R66). -/
structure TrackRec where
  kind : TrackKind
  home : Nat
  reqNo : Nat
  period : Nat
  serial : Nat
  amount : Nat
  tag : Option Nat
  state : TrackState
  deriving DecidableEq, Repr

/-- A tracker entry in working memory (R66). `timer` is the answer wait in milliseconds, absent while none runs; `orphan` is
the mark of R86, with the state the entry had when it was made orphan (R125); `moveWaiting` says that the move to IN_DOUBT
waits for a frame slot (R71); `allowPartial` keeps a HOLD_REQ's payload the same on every attempt (R68). -/
structure Track where
  data : TrackRec
  attempts : Nat
  timer : Option Nat
  slot : Option Nat
  abandoned : Bool
  orphan : Option TrackState
  moveWaiting : Bool
  allowPartial : Bool
  deriving DecidableEq, Repr

/-! ### Chapter 5 -/

/-- The two generation slots (R89). -/
inductive Side where
  | a | b
  deriving DecidableEq, Repr

/-- The generation record (R89). -/
structure GenRec where
  openSide : Side
  openPeriod : Nat
  closing : Bool
  lastClosed : Nat
  deriving DecidableEq, Repr

/-- The generation record of a blank store (R89). -/
def GenRec.blank : GenRec := ⟨.a, 1, false, 0⟩

/-- A position row: the bilateral figures of a counterpart row, or the own figures of the own row (R90). -/
structure Row where
  tag : Nat
  fig : Figures
  ka : Nat
  mirror : Option Figures
  haveYours : Bool
  own : OwnFigures
  deriving DecidableEq, Repr

/-- A row that reads all zero, with the given period tag (R91). -/
def Row.zero (tag : Nat) : Row := ⟨tag, .zero, 0, none, false, ⟨0, 0, 0, 0⟩⟩

/-- Row states of the closing generation (R98). -/
inductive RowState where
  | pending | awaiting | confirmed | disputed | empty | silent
  deriving DecidableEq, Repr

/-- A closing counterpart row's volatile part (R98). -/
structure CloseRow where
  state : RowState
  final : Bool
  deriving DecidableEq, Repr

/-- What working memory holds of a close under way: row states, own row finality, the deadline in milliseconds (absent once
completion has run), and the completion mark (R98, R106, R110). -/
structure CloseView where
  rows : Tab CloseRow
  ownFinal : Bool
  deadline : Option Nat
  completed : Bool
  deriving DecidableEq, Repr

/-! ### Chapters 6 and 7 -/

/-- Journal entry kinds, in the order of R128. -/
inductive JournalKind where
  | issue | topupOwn | refundOwn | captureOwn | captureHome | captureAcq | creditHome | creditAcq | freeze | unfreeze
  | rangeLock | statement | statementException
  deriving DecidableEq, Repr

/-- The outcome field of a journal entry: a credit kind, or SET / CLEARED with the lock number (R128). -/
inductive JournalOutcome where
  | credit (kind : CreditKind)
  | lock (set : Bool) (number : Nat)
  deriving DecidableEq, Repr

/-- The optional fields of a journal entry that is no statement entry (R127, R128). -/
structure PlainBody where
  card : Option CardId := none
  amount : Option Nat := none
  counterpart : Option Nat := none
  tag : Option Nat := none
  reqNo : Option Nat := none
  tillRef : Option Nat := none
  outcome : Option JournalOutcome := none
  deriving DecidableEq, Repr

/-- The head entry of a statement (R123). -/
structure StatementHead where
  payout : Int
  fee : Nat
  basis : Nat
  count : Nat
  withheld : Int
  confirmed : Nat
  disputed : Nat
  empty : Nat
  silent : Nat
  orphans : Nat
  listed : Nat
  ro : Nat
  tO : Nat
  fo : Nat
  liability : Nat
  feeRate : Nat
  fixedFee : Nat
  deriving DecidableEq, Repr

/-- A row exception entry (R124). -/
structure RowException where
  station : Nat
  state : RowState
  ownFinal : Bool
  ours : Figures
  net : Int
  mirror : Option Figures
  deriving DecidableEq, Repr

/-- The request kinds of an orphan (R125, R176). -/
inductive OrphanKind where
  | capture | topup | refund
  deriving DecidableEq, Repr

/-- An orphan exception entry (R125). -/
structure OrphanException where
  station : Nat
  kind : OrphanKind
  reqNo : Nat
  card : CardId
  amount : Nat
  tag : Option Nat
  lastState : TrackState
  deriving DecidableEq, Repr

/-- The body of a journal entry, by kind (R127). -/
inductive JournalBody where
  | plain (b : PlainBody)
  | head (h : StatementHead)
  | row (r : RowException)
  | orphan (o : OrphanException)
  deriving DecidableEq, Repr

/-- A journal entry (R127). Its check is what makes a place whole; it is not a field here. -/
structure JournalEntry where
  index : Nat
  kind : JournalKind
  period : Nat
  body : JournalBody
  deriving DecidableEq, Repr

/-- Journal block states (R130). -/
inductive BlockState where
  | erased | inUse | full | erasing | bad
  deriving DecidableEq, Repr

/-- A journal block: its state and its erase count (R130, R133). -/
structure Block where
  state : BlockState
  eraseCount : Nat
  deriving DecidableEq, Repr

/-- The journal control record (R133). -/
structure ControlRec where
  oldest : Nat
  archived : Nat
  next : Nat
  blocks : List Block
  deriving DecidableEq, Repr

/-! ### Chapter 8 -/

/-- Cursor states (R144). -/
inductive CursorState where
  | idle | ready | paused | ended
  deriving DecidableEq, Repr

/-- Cursor directions (R144). -/
inductive Direction where
  | forward | backward
  deriving DecidableEq, Repr

/-- Cursor end actions (R144). -/
inductive EndAction where
  | stop | reload
  deriving DecidableEq, Repr

/-- Cursor modes (R144). -/
inductive CursorMode where
  | single | successive | block
  deriving DecidableEq, Repr

/-- Cursor filters (R144, R149). -/
inductive CursorFilter where
  | all | money | statements | status
  deriving DecidableEq, Repr

/-- An export cursor (R144). -/
structure Cursor where
  state : CursorState
  start : Nat
  current : Nat
  count : Nat
  setCount : Nat
  blockLen : Nat
  direction : Direction
  endAction : EndAction
  mode : CursorMode
  filter : CursorFilter
  notice : Bool
  paused : Bool
  buffer : List JournalEntry
  deriving DecidableEq, Repr

/-- A cursor after reset: IDLE, every other field cleared (R144; log entry 7 for the cleared choices). -/
def Cursor.blank : Cursor :=
  ⟨.idle, 0, 0, 0, 0, 0, .forward, .stop, .single, .all, false, false, []⟩

/-! ### Chapter 10 -/

/-- Notice kinds, in the order of R176. -/
inductive NoticeKind where
  | fault | slotOutcome | resolved | orphaned | closeBegun | closeDone | rowDisputed | journalReserve | journalClear
  | blockRetired | stationPresent | stationAbsent | stationHalted | cursorPaused | cursorEnded
  deriving DecidableEq, Repr

/-- A notice's subject: none, a number (slot, station, cursor, block or period), or a request number (none for own work) with
a card identifier (R176, R191). -/
inductive Subject where
  | none
  | number (n : Nat)
  | work (reqNo : Option Nat) (card : CardId)
  deriving DecidableEq, Repr

/-- What a notice says: kind, subject and code (R176). The kind fixes the level. -/
structure NoticeRec where
  kind : NoticeKind
  subject : Subject
  code : Nat
  deriving DecidableEq, Repr

/-- A queued notice. `seq` is its number in posting order, the model's own name for it (log entry 20). -/
structure Notice where
  seq : Nat
  data : NoticeRec
  deriving DecidableEq, Repr

/-! ### Chapter 9 -/

/-- A place of the store that is not blank: a whole content, or torn (R157, R158). -/
inductive Cell (α : Type) where
  | whole (content : α)
  | torn
  deriving DecidableEq, Repr

/-- The formats of intent frames (R160). -/
inductive FrameFormat where
  | issue | holdGrant | holdSettle | holdExpire | creditApply | statusChange | acqBook | trackerStore | rangeSet
  | counterStep | closeBegin | closeEnd | mirrorStore | archiveStore | identityWrite
  deriving DecidableEq, Repr

/-- A write-back's target with its key and full new content (R160). A tracker place may be written free. -/
inductive Target where
  | card (place : Nat) (content : Card)
  | grant (place : Nat) (content : Grant)
  | row (side : Side) (station : Nat) (content : Row)
  | tracker (place : Nat) (content : Option TrackRec)
  | lock (number : Nat) (content : RangeLock)
  | identity (content : Identity)
  | generation (content : GenRec)
  | journal (entries : List JournalEntry)
  | control (content : ControlRec)
  deriving DecidableEq, Repr

/-- A write-back: valid, or carried and not written (R160). -/
structure WriteBack where
  valid : Bool
  target : Target
  deriving DecidableEq, Repr

/-- What a frame announces once stored (R160, R162). A slot outcome says whether the slot enters HELD (with its hold) or
OUTCOME, and carries the request number a RESOLVED notice would give (R174). -/
inductive Continuation where
  | none
  | answer (dst reqNo : Nat) (payload : Payload)
  | request (home reqNo stamp : Nat) (payload : Payload)
  | slotOutcome (slot : Nat) (reqNo : Option Nat) (holds : Option HoldRef) (outcome : OutcomeRec)
  | notice (n : NoticeRec)
  deriving DecidableEq, Repr

/-- An intent frame (R160). Its check word and its state are the frame slot's (see `FrameSlot`). -/
structure Frame where
  number : Nat
  format : FrameFormat
  writeBacks : List WriteBack
  continuation : Continuation
  deriving DecidableEq, Repr

/-- A frame slot of the store that has been programmed: a whole frame STORED or DONE, a frame whose done mark is torn (it
reads as STORED), a whole frame whose format or a target kind is not one the part knows, with its number and whether it reads
as STORED, or a torn frame (R157, R160, R163, R172). The part itself writes no unknown frame (log entry 27). -/
inductive FrameSlot where
  | stored (f : Frame)
  | done (f : Frame)
  | doneTorn (f : Frame)
  | unknown (number : Nat) (stored : Bool)
  | torn
  deriving DecidableEq, Repr

/-- A copy of the journal control record with its write count (R157). -/
structure ControlCopy where
  writes : Nat
  content : ControlRec
  deriving DecidableEq, Repr

/-- The durable store (R157). Places not listed are blank. Rows of slot A are places 1 to 63, rows of slot B 65 to 127. -/
structure Store where
  identity : Option (Cell Identity)
  cards : Tab (Cell Card)
  locks : Tab (Cell RangeLock)
  grants : Tab (Cell Grant)
  trackers : Tab (Cell TrackRec)
  gen : Option (Cell GenRec)
  rows : Tab (Cell Row)
  journal : Tab (Cell JournalEntry)
  controlA : Option (Cell ControlCopy)
  controlB : Option (Cell ControlCopy)
  frames : Tab FrameSlot
  deriving DecidableEq, Repr

/-- A store in which nothing has ever been written (R157). -/
def Store.blank : Store := ⟨none, [], [], [], [], none, [], [], none, none, []⟩

/-- Why a control-record program stands in the queue: it marks an erase's beginning or end, or belongs to a frame (R139). -/
inductive ControlUse where
  | eraseBegin | eraseEnd | frame
  deriving DecidableEq, Repr

/-- A program: it writes one place whole (R158, R159). -/
inductive Program where
  | frame (slot : Nat) (f : Frame)
  | target (t : Target)
  | entry (position : Nat) (e : JournalEntry)
  | control (copyB : Bool) (content : ControlCopy) (use : ControlUse)
  | done (slot : Nat)
  | clearFrame (slot : Nat)
  deriving DecidableEq, Repr

/-- A frame that is pending: accepted, its done mark not yet programmed (R161). `slotFreed` says that the slot its outcome is
for has been freed since (R162). -/
structure PendingFrame where
  slot : Nat
  frame : Frame
  stored : Bool
  slotFreed : Bool
  deriving DecidableEq, Repr

/-- What a wait holds back (R164). -/
inductive HeldItem where
  | answer (dst reqNo : Nat) (payload : Payload)
  | slotOutcome (slot : Nat) (outcome : OutcomeRec)
  | request (home reqNo : Nat)
  | positionSend (station period : Nat)
  | notice (n : NoticeRec)
  deriving DecidableEq, Repr

/-- A wait: the numbers of the frames still to be stored, and the item held back (R164). -/
structure Wait where
  frames : List Nat
  item : HeldItem
  deriving DecidableEq, Repr

/-- The erase under way: its control-record program not yet completed, or the erase itself with the milliseconds it has run
(R139, R140). -/
inductive ErasePhase where
  | marking
  | running (spent : Nat)
  deriving DecidableEq, Repr

/-- An erase under way (R139). -/
structure Erase where
  block : Nat
  phase : ErasePhase
  deriving DecidableEq, Repr

/-- Where recovery stands: erasing the block found ERASING, or completing stored frames (R172, R173). -/
inductive RecoveryPhase where
  | erasing
  | completing
  deriving DecidableEq, Repr

/-- Recovery under way: its phase, the fault that stopped it, and the continuations owed so far in frame-number order (R172
to R174). -/
structure Recovery where
  phase : RecoveryPhase
  fault : Option FaultCode
  owed : List Continuation
  deriving DecidableEq, Repr

/-! ### Chapter 11 -/

/-- The record a CURSOR_READ stream is clocking out (R148 to R153). -/
inductive ReadItem where
  | header
  | entry (e : JournalEntry)
  | again (e : JournalEntry)
  | endRecord
  deriving DecidableEq, Repr

/-- A CURSOR_READ under way. `given` is the entry a SINGLE read has given; `complete` says the block is complete; `nextAgain`
is the place in the block buffer of the next repeat; `endOnly` says the rest of the read gives END records (R151, R153). -/
structure CursorStream where
  cursor : Nat
  item : ReadItem
  given : Option JournalEntry
  complete : Bool
  nextAgain : Nat
  endOnly : Bool
  deriving DecidableEq, Repr

/-- What the present select period still stands on (R150, R180, R182). -/
inductive Session where
  | none
  | statusFlag
  | notice (seq : Nat)
  | cursor (c : CursorStream)
  deriving DecidableEq, Repr

end Sys2Proof.Machine
end

