-- ==== Sys2Proof/Machine/Bytes.lean ====
section
/-! DEFINITION. Numbers as bytes, most significant first (R186), the CRC-16 of R193, and timers as whole seconds. -/

namespace Sys2Proof.Machine

/-- A number as `n` bytes, most significant byte first; what does not fit is cut off (R186). -/
def toBytes : Nat → Nat → List Byte
  | 0, _ => []
  | n + 1, v => BitVec.ofNat 8 (v / 256 ^ n) :: toBytes n v

/-- The number that bytes spell, most significant byte first (R186). -/
def ofBytes (bs : List Byte) : Nat := bs.foldl (fun acc b => acc * 256 + b.toNat) 0

/-- A signed number as `n` bytes in two's complement (R186). -/
def intBytes (n : Nat) (v : Int) : List Byte := toBytes n (v % (256 ^ n : Nat)).toNat

/-- A yes-or-no field as the part itself sends it: 0 for no and 1 for yes. R186 lets a yes be any value but 0, and that the
part sends 1, in replies, journal records and link frames alike, is the model's choice (DESIGN CHOICE, log entry 55). -/
def boolByte (b : Bool) : List Byte := toBytes 1 (if b then 1 else 0)

/-- `n` zero bytes. -/
def zeroBytes (n : Nat) : List Byte := List.replicate n 0

/-- One bit of the CRC: shift out the top bit and subtract the polynomial x^16 + x^12 + x^5 + 1 (R193). -/
def crcShift (crc : Nat) : Nat :=
  if crc / 32768 % 2 = 1 then ((crc * 2) % 65536) ^^^ 0x1021 else (crc * 2) % 65536

/-- One byte of the CRC, most significant bit first. -/
def crcByte (crc : Nat) (b : Byte) : Nat :=
  crcShift (crcShift (crcShift (crcShift (crcShift (crcShift (crcShift (crcShift (crc ^^^ (b.toNat * 256)))))))))

/-- The CRC-16 of R193: initial value 0xFFFF, no reflection, no final XOR. -/
def crc16 (bs : List Byte) : Nat := bs.foldl crcByte 0xFFFF

/-- A timer in whole seconds, as a reply gives it (R191, R192). An exact number of seconds reads exactly; a part second is
rounded down or up, which the manual leaves open (log entry 4). -/
def wholeSeconds (ms : Nat) : Nat :=
  if ms % second = 0 then ms / second
  else ms / second + (if Config.roundUp ms then 1 else 0)

end Sys2Proof.Machine
end

