-- ==== Sys2Proof/Machine/Operands.lean ====
section
/-! DEFINITION. Operand forms: card identifiers (R3, R186), period stamps (R46, R56), enumerated arguments (R146, R186). -/

namespace Sys2Proof.Machine

/-- The check value CC of a card (R3). -/
def checkValue (ss serial : Nat) : Nat := 98 - (ss * 10 ^ 8 + serial) * 100 % 97

/-- The identifier of a card (R3). -/
def cardId (ss serial : Nat) : CardId := ⟨ss, serial, checkValue ss serial⟩

/-- The validity test of an identifier (R186). -/
def cardValid (c : CardId) : Bool :=
  1 ≤ c.ss && c.ss ≤ 63 && 1 ≤ c.serial && c.serial ≤ maxSerial && 2 ≤ c.cc && c.cc ≤ 98
    && (c.ss * 10 ^ 10 + c.serial * 100 + c.cc) % 97 = 1

/-- The period stamp of a period: its low 8 bits (R44). -/
def stampOf (period : Nat) : Nat := period % 256

/-- A stamp extended to a full period against the receiver's open period: the number with that remainder by 256 from 128
below the open period to 127 above it (R56). It may be 0 or below. -/
def extendStamp (openPeriod stamp : Nat) : Int :=
  (openPeriod : Int) + (((stamp : Int) - openPeriod + 128) % 256 - 128)

/-- The direction an argument names (R144, R186). -/
def directionArg : Nat → Option Direction
  | 1 => some .forward
  | 2 => some .backward
  | _ => none

/-- The end action an argument names. -/
def endActionArg : Nat → Option EndAction
  | 1 => some .stop
  | 2 => some .reload
  | _ => none

/-- The mode an argument names. -/
def modeArg : Nat → Option CursorMode
  | 1 => some .single
  | 2 => some .successive
  | 3 => some .block
  | _ => none

/-- The filter an argument names. -/
def filterArg : Nat → Option CursorFilter
  | 1 => some .all
  | 2 => some .money
  | 3 => some .statements
  | 4 => some .status
  | _ => none

/-- A value clamped to a range (R169). -/
def clamp (lo hi v : Nat) : Nat := if v < lo then lo else if hi < v then hi else v

/-- The next number of a cycle 1 to `top` (R25, R166). -/
def cycleNext (top n : Nat) : Nat := if n ≥ top then 1 else n + 1

end Sys2Proof.Machine
end

