-- ==== Sys2Proof/Machine/LinkCodec.lean ====
section
/-! DEFINITION. Link frames as bytes (R44, R45, R194), and the codes of their enumerated fields (R186). -/

namespace Sys2Proof.Machine

/-! ### Codes -/

/-- The code of a reason (R186); 0 for none. -/
def reasonCode : Option Reason → Nat
  | none => 0
  | some .period => 1
  | some .unknownCard => 2
  | some .frozen => 3
  | some .overCeiling => 4
  | some .busy => 5
  | some .limit => 6
  | some .insufficient => 7
  | some .locked => 8

/-- The reason a HOLD_ANS may carry under a code (R45, R186): none for a code the kind does not list. -/
def holdReasonOf : Nat → Option (Option Reason)
  | 0 => some none
  | 1 => some (some .period)
  | 2 => some (some .unknownCard)
  | 3 => some (some .frozen)
  | 5 => some (some .busy)
  | 6 => some (some .limit)
  | 7 => some (some .insufficient)
  | _ => none

/-- The reason a CREDIT_ANS may carry under a code (R45, R186). -/
def creditReasonOf : Nat → Option (Option Reason)
  | 0 => some none
  | 1 => some (some .period)
  | 2 => some (some .unknownCard)
  | 3 => some (some .frozen)
  | 4 => some (some .overCeiling)
  | 5 => some (some .busy)
  | 6 => some (some .limit)
  | _ => none

/-- HOLD_ANS outcome codes (R45 order). -/
def holdAnswerCode : HoldAnswer → Nat
  | .granted => 1
  | .partially => 2
  | .declined => 3

/-- The HOLD_ANS outcome under a code. -/
def holdAnswerOf : Nat → Option HoldAnswer
  | 1 => some .granted
  | 2 => some .partially
  | 3 => some .declined
  | _ => none

/-- SETTLE action codes (R45 order). -/
def actionCode : SettleAction → Nat
  | .capture => 1
  | .release => 2

/-- The SETTLE action under a code. -/
def actionOf : Nat → Option SettleAction
  | 1 => some .capture
  | 2 => some .release
  | _ => none

/-- SETTLE_ANS outcome codes (R45 order). -/
def settleAnswerCode : SettleAnswer → Nat
  | .done => 1
  | .tooLate => 2

/-- The SETTLE_ANS outcome under a code. -/
def settleAnswerOf : Nat → Option SettleAnswer
  | 1 => some .done
  | 2 => some .tooLate
  | _ => none

/-- Credit kind codes (R45 order). -/
def creditKindCode : CreditKind → Nat
  | .topup => 1
  | .refund => 2

/-- The credit kind under a code. -/
def creditKindOf : Nat → Option CreditKind
  | 1 => some .topup
  | 2 => some .refund
  | _ => none

/-- CREDIT_ANS outcome codes (R45 order). -/
def creditAnswerCode : CreditAnswer → Nat
  | .applied => 1
  | .declined => 2

/-- The CREDIT_ANS outcome under a code. -/
def creditAnswerOf : Nat → Option CreditAnswer
  | 1 => some .applied
  | 2 => some .declined
  | _ => none

/-- STATUS_REQ action codes (R45 order). -/
def statusActionCode : StatusAction → Nat
  | .enquire => 1
  | .freeze => 2

/-- The STATUS_REQ action under a code. -/
def statusActionOf : Nat → Option StatusAction
  | 1 => some .enquire
  | 2 => some .freeze
  | _ => none

/-- Card state codes of a STATUS_ANS (R45 order). -/
def viewCode : CardView → Nat
  | .active => 1
  | .frozen => 2
  | .locked => 3
  | .unknown => 4
  | .busy => 5

/-- The card state under a code. -/
def viewOf : Nat → Option CardView
  | 1 => some .active
  | 2 => some .frozen
  | 3 => some .locked
  | 4 => some .unknown
  | 5 => some .busy
  | _ => none

/-- PRESENCE station state codes: TRADING 1, HALTED 2 (R45 order). -/
def presenceOf : Nat → Option Bool
  | 1 => some false
  | 2 => some true
  | _ => none

/-- Six figures of 5 bytes each. -/
def figureBytes (f : Figures) : List Byte :=
  toBytes 5 f.ra ++ toBytes 5 f.ta ++ toBytes 5 f.fa ++ toBytes 5 f.ri ++ toBytes 5 f.ti ++ toBytes 5 f.fi

/-! ### Frames -/

/-- A frame's kind code, 1 to 10 in R45 order (R194). -/
def kindCode : Payload → Nat
  | .presence .. => 1
  | .holdReq .. => 2
  | .holdAns .. => 3
  | .settleReq .. => 4
  | .settleAns .. => 5
  | .creditReq .. => 6
  | .creditAns .. => 7
  | .statusReq .. => 8
  | .statusAns .. => 9
  | .position .. => 10

/-- The payload bytes (R194). -/
def payloadBytes : Payload → List Byte
  | .presence halted period target closing =>
    toBytes 1 (if halted then 2 else 1) ++ toBytes 3 period ++ toBytes 3 target ++ boolByte closing
  | .holdReq serial amount allowPartial => toBytes 4 serial ++ toBytes 3 amount ++ boolByte allowPartial
  | .holdAns outcome amount tag reason =>
    toBytes 1 (holdAnswerCode outcome) ++ toBytes 3 amount ++ toBytes 3 tag ++ toBytes 1 (reasonCode reason)
  | .settleReq action tag serial amount =>
    toBytes 1 (actionCode action) ++ toBytes 3 tag ++ toBytes 4 serial ++ toBytes 3 amount
  | .settleAns outcome action amount =>
    toBytes 1 (settleAnswerCode outcome) ++ toBytes 1 (actionCode action) ++ toBytes 3 amount
  | .creditReq kind serial amount => toBytes 1 (creditKindCode kind) ++ toBytes 4 serial ++ toBytes 3 amount
  | .creditAns outcome reason => toBytes 1 (creditAnswerCode outcome) ++ toBytes 1 (reasonCode reason)
  | .statusReq action serial => toBytes 1 (statusActionCode action) ++ toBytes 4 serial
  | .statusAns view available held => toBytes 1 (viewCode view) ++ toBytes 3 available ++ toBytes 3 held
  | .position period figures haveYours => toBytes 3 period ++ figureBytes figures ++ boolByte haveYours

/-- A frame's bytes before its check (R194). -/
def frameBody (mall : Nat) (f : LinkFrame) : List Byte :=
  toBytes 2 mall ++ toBytes 1 f.src ++ toBytes 1 f.dst ++ toBytes 1 (kindCode f.payload) ++ toBytes 1 f.stamp
    ++ toBytes 2 f.reqNo ++ toBytes 1 (payloadBytes f.payload).length ++ payloadBytes f.payload

/-- A frame as it is sent, with its check (R194). -/
def encodeFrame (mall : Nat) (f : LinkFrame) : List Byte :=
  frameBody mall f ++ toBytes 2 (crc16 (frameBody mall f))

/-- The number in `n` bytes from byte `k` on. -/
def fieldAt (bs : List Byte) (k n : Nat) : Nat := ofBytes ((bs.drop k).take n)

/-- The six figures from byte `k` on. -/
def figuresAt (bs : List Byte) (k : Nat) : Figures :=
  ⟨fieldAt bs k 5, fieldAt bs (k + 5) 5, fieldAt bs (k + 10) 5, fieldAt bs (k + 15) 5, fieldAt bs (k + 20) 5,
    fieldAt bs (k + 25) 5⟩

/-- The payload length a kind has (R194). -/
def payloadLength : Nat → Option Nat
  | 1 => some 8
  | 2 => some 8
  | 3 => some 8
  | 4 => some 11
  | 5 => some 5
  | 6 => some 8
  | 7 => some 2
  | 8 => some 5
  | 9 => some 7
  | 10 => some 34
  | _ => none

/-- A payload of the right length read by its kind; none when an enumerated field holds no value of its list (R194). A
yes-or-no field is yes for any value but 0 (R186; log entry 32). -/
def decodePayload (kind : Nat) (p : List Byte) : Option Payload :=
  match kind with
  | 1 => (presenceOf (fieldAt p 0 1)).map fun h =>
      .presence h (fieldAt p 1 3) (fieldAt p 4 3) (fieldAt p 7 1 != 0)
  | 2 => some (.holdReq (fieldAt p 0 4) (fieldAt p 4 3) (fieldAt p 7 1 != 0))
  | 3 => (holdAnswerOf (fieldAt p 0 1)).bind fun o => (holdReasonOf (fieldAt p 7 1)).map fun r =>
      .holdAns o (fieldAt p 1 3) (fieldAt p 4 3) r
  | 4 => (actionOf (fieldAt p 0 1)).map fun a =>
      .settleReq a (fieldAt p 1 3) (fieldAt p 4 4) (fieldAt p 8 3)
  | 5 => (settleAnswerOf (fieldAt p 0 1)).bind fun o => (actionOf (fieldAt p 1 1)).map fun a =>
      .settleAns o a (fieldAt p 2 3)
  | 6 => (creditKindOf (fieldAt p 0 1)).map fun k => .creditReq k (fieldAt p 1 4) (fieldAt p 5 3)
  | 7 => (creditAnswerOf (fieldAt p 0 1)).bind fun o => (creditReasonOf (fieldAt p 1 1)).map fun r =>
      .creditAns o r
  | 8 => (statusActionOf (fieldAt p 0 1)).map fun a => .statusReq a (fieldAt p 1 4)
  | 9 => (viewOf (fieldAt p 0 1)).map fun v => .statusAns v (fieldAt p 1 3) (fieldAt p 4 3)
  | 10 => some (.position (fieldAt p 0 3) (figuresAt p 3) (fieldAt p 33 1 != 0))
  | _ => none

/-- The frame check: the last two bytes are the CRC over all earlier bytes (R52, R194). -/
def frameCheckOk (bs : List Byte) : Bool :=
  2 ≤ bs.length && fieldAt bs (bs.length - 2) 2 = crc16 (bs.take (bs.length - 2))

/-- The mall id a frame carries (R194). -/
def frameMall (bs : List Byte) : Nat := fieldAt bs 0 2

/-- The header fields agree with the kind: source, request number and destination (R44). -/
def headerValid (f : LinkFrame) : Bool :=
  1 ≤ f.src && f.src ≤ 63 &&
  (match f.payload with
   | .presence .. => f.reqNo = 0 && f.dst = 0
   | .position .. => f.reqNo = 0 && 1 ≤ f.dst && f.dst ≤ 63
   | _ => 1 ≤ f.reqNo && 1 ≤ f.dst && f.dst ≤ 63)

/-- A frame read from its bytes; none when it is not valid (R44, R194). The check and the mall id are tested apart (R52). -/
def decodeFrame (bs : List Byte) : Option LinkFrame :=
  match payloadLength (fieldAt bs 4 1) with
  | none => none
  | some n =>
    if bs.length = 11 + n ∧ fieldAt bs 8 1 = n then
      match decodePayload (fieldAt bs 4 1) ((bs.drop 9).take n) with
      | none => none
      | some p =>
        let f : LinkFrame := ⟨fieldAt bs 2 1, fieldAt bs 3 1, fieldAt bs 5 1, fieldAt bs 6 2, p⟩
        if headerValid f then some f else none
    else none

end Sys2Proof.Machine
end

