-- ==== Sys2Proof/WellFormed.lean ====
section
/-! DEFINITION. When a command is well formed: every argument of a host command fits the bytes its layout gives it (R190),
and every operand of an event names something the part could have. Values inside those widths but outside a command's range
are well formed: the part refuses them with a port status (R185). -/

namespace Sys2Proof

/-- An argument of `n` bytes (R186). -/
def fits (n v : Nat) : Bool := v < 256 ^ n

/-- A card identifier's three fields fit their six bytes (R186). -/
def CardId.fits (c : CardId) : Bool :=
  Sys2Proof.fits 1 c.ss && Sys2Proof.fits 4 c.serial && Sys2Proof.fits 1 c.cc

/-- A till reference, when present, fits its four bytes (R188). -/
def refFits (r : Option Nat) : Bool := r.all (Sys2Proof.fits 4)

/-- The opcodes that name a command (R187 to R189). -/
def knownOpcodes : List Nat :=
  [0x01, 0x02, 0x10, 0x11, 0x12, 0x13, 0x14, 0x15, 0x16, 0x17, 0x18, 0x19, 0x20, 0x21, 0x30, 0x31, 0x40, 0x41, 0x42,
   0x50, 0x51, 0x52]

/-- A station number of the mall, 1 to 63 (R44). -/
def stationNumber (j : Nat) : Bool := 1 ≤ j && j ≤ 63

/-- The check of each command's operands. -/
def Instr.wellFormed : Instr → Bool
  | .status _ | .close | .rosterRead | .takeNotice => true
  | .start st ml fr ff ce hl cl =>
    fits 1 st && fits 2 ml && fits 2 fr && fits 1 ff && fits 3 ce && fits 2 hl && fits 2 cl
  | .issue sl am _ r => fits 1 sl && fits 3 am && refFits r
  | .redeem sl c am _ r => fits 1 sl && c.fits && fits 3 am && refFits r
  | .complete sl am => fits 1 sl && fits 3 am
  | .cancel sl | .slotRead sl | .slotFree sl => fits 1 sl
  | .topup sl c am r | .refund sl c am r => fits 1 sl && c.fits && fits 3 am && refFits r
  | .enquire sl c | .freeze sl c => fits 1 sl && c.fits
  | .unfreeze sl c r _ => fits 1 sl && c.fits && refFits r
  | .rangeLock n lo hi _ _ => fits 1 n && fits 4 lo && fits 4 hi
  | .setMask m => fits 1 m
  | .positionRead g st => fits 1 g && fits 1 st
  | .cursorSet c i n b d e m f _ =>
    fits 1 c && fits 4 i && fits 2 n && fits 1 b && fits 1 d && fits 1 e && fits 1 m && fits 1 f
  | .cursorRead c => fits 1 c
  | .archiveAck i => fits 4 i
  | .badCommand op => fits 1 op && !knownOpcodes.contains op
  | .attemptCollided d => d < 64
  | .silenceTimeout j => stationNumber j
  | .holdExpiry t | .heldBackExpiry t | .deferredRelease t => 1 ≤ t && t ≤ 16777215
  | .holdTimerExpiry sl => sl < 8
  | .answerWaitExpiry h n | .inDoubtMove h n => stationNumber h && 1 ≤ n && n ≤ 65535
  | .cursorEntryRead | .noticeRecordClocked | .noticesLostCleared | .frameReceived _
  | .presence | .holdReq | .settleReq | .creditReq | .statusReq | .holdAns | .settleAns | .creditAns | .statusAns
  | .position | .attemptBegin | .attemptIntact | .backoffEnd | .presenceTimer | .owedFramePlaced | .counterStep
  | .closeBegin | .closeDeadline | .closeCompletion | .programComplete _ | .eraseBegin | .eraseComplete _ | .reset
  | .resetRelease | .recoveryEnd | .cursorRecordChosen => true

end Sys2Proof
end

