-- ==== Sys2Proof/Decode.lean ====
section
/-! DEFINITION. From bytes to commands. The opcode table gives its rows no bits, so no word spells a row; the till port's select
periods do spell host commands (R184, R190), read here, and an encoder beside the reader. -/

namespace Sys2Proof

/-- The command a table word spells: the table gives no row any bits (log entry 25). -/
def decodeTableWord (_nbits _w : Nat) : Option Instr := none

/-- How many argument bytes follow an opcode; none for an opcode that names no command (R184, R190). -/
def argBytes : Nat → Option Nat
  | 0x01 | 0x40 | 0x41 | 0x30 => some 0
  | 0x02 => some 13
  | 0x10 => some 9
  | 0x11 => some 15
  | 0x12 => some 4
  | 0x13 | 0x20 | 0x21 => some 1
  | 0x14 | 0x15 => some 15
  | 0x16 | 0x17 => some 7
  | 0x18 => some 12
  | 0x19 => some 10
  | 0x31 => some 1
  | 0x42 => some 2
  | 0x50 => some 13
  | 0x51 => some 1
  | 0x52 => some 4
  | _ => none

/-- A card identifier in its six bytes (R186). -/
def cardAt (a : List Byte) (k : Nat) : CardId :=
  ⟨Machine.fieldAt a k 1, Machine.fieldAt a (k + 1) 4, Machine.fieldAt a (k + 5) 1⟩

/-- Bit `b` of the flag byte at `k` (R190). -/
def flagAt (a : List Byte) (k b : Nat) : Bool := Machine.fieldAt a k 1 / 2 ^ b % 2 = 1

/-- A till reference: its flag bit and its four bytes (R188). -/
def refAt (a : List Byte) (k : Nat) : Option Nat := if flagAt a k 1 then some (Machine.fieldAt a (k + 1) 4) else none

/-- A yes-or-no argument (R186). -/
def yesAt (a : List Byte) (k : Nat) : Bool := Machine.fieldAt a k 1 != 0

/-- The command an opcode and its argument bytes spell; `level` is PROTECT_N as the command is taken (R184, R187 to R190). -/
def commandOf (level : Bool) (op : Nat) (a : List Byte) : Instr :=
  let n := fun k w => Machine.fieldAt a k w
  match op with
  | 0x01 => .status level
  | 0x02 => .start (n 0 1) (n 1 2) (n 3 2) (n 5 1) (n 6 3) (n 9 2) (n 11 2)
  | 0x40 => .close
  | 0x41 => .rosterRead
  | 0x10 => .issue (n 0 1) (n 1 3) (flagAt a 4 0) (refAt a 4)
  | 0x11 => .redeem (n 0 1) (cardAt a 1) (n 7 3) (flagAt a 10 0) (refAt a 10)
  | 0x12 => .complete (n 0 1) (n 1 3)
  | 0x13 => .cancel (n 0 1)
  | 0x14 => .topup (n 0 1) (cardAt a 1) (n 7 3) (refAt a 10)
  | 0x15 => .refund (n 0 1) (cardAt a 1) (n 7 3) (refAt a 10)
  | 0x16 => .enquire (n 0 1) (cardAt a 1)
  | 0x17 => .freeze (n 0 1) (cardAt a 1)
  | 0x18 => .unfreeze (n 0 1) (cardAt a 1) (refAt a 7) level
  | 0x19 => .rangeLock (n 0 1) (n 1 4) (n 5 4) (yesAt a 9) level
  | 0x20 => .slotRead (n 0 1)
  | 0x21 => .slotFree (n 0 1)
  | 0x30 => .takeNotice
  | 0x31 => .setMask (n 0 1)
  | 0x42 => .positionRead (n 0 1) (n 1 1)
  | 0x50 => .cursorSet (n 0 1) (n 1 4) (n 5 2) (n 7 1) (n 8 1) (n 9 1) (n 10 1) (n 11 1) (yesAt a 12)
  | 0x51 => .cursorRead (n 0 1)
  | 0x52 => .archiveAck (n 0 4)
  | _ => .badCommand op

/-- The command a select period gives, with PROTECT_N at `level`: none when select rises before the last argument byte; bytes
after it are ignored (R184). -/
def decodeTill (level : Bool) (bytes : List Byte) : Option Instr :=
  match bytes with
  | [] => none
  | b :: rest =>
    match argBytes b.toNat with
    | none => some (.badCommand b.toNat)
    | some k => if k ≤ rest.length then some (commandOf level b.toNat (rest.take k)) else none

/-! ### The encoder -/

/-- The flag byte and the reference bytes (R188, R190). -/
def refBytes (bit0 : Bool) (r : Option Nat) : List Byte :=
  Machine.toBytes 1 ((if bit0 then 1 else 0) + (if r.isSome then 2 else 0)) ++ Machine.toBytes 4 (r.getD 0)

/-- A card identifier's six bytes (R186). -/
def idBytes (c : CardId) : List Byte :=
  Machine.toBytes 1 c.ss ++ Machine.toBytes 4 c.serial ++ Machine.toBytes 1 c.cc

/-- The opcode of a host command (R187 to R189). -/
def opcodeOf : Instr → Option Nat
  | .status _ => some 0x01
  | .start .. => some 0x02
  | .close => some 0x40
  | .rosterRead => some 0x41
  | .issue .. => some 0x10
  | .redeem .. => some 0x11
  | .complete .. => some 0x12
  | .cancel .. => some 0x13
  | .topup .. => some 0x14
  | .refund .. => some 0x15
  | .enquire .. => some 0x16
  | .freeze .. => some 0x17
  | .unfreeze .. => some 0x18
  | .rangeLock .. => some 0x19
  | .slotRead _ => some 0x20
  | .slotFree _ => some 0x21
  | .takeNotice => some 0x30
  | .setMask _ => some 0x31
  | .positionRead .. => some 0x42
  | .cursorSet .. => some 0x50
  | .cursorRead _ => some 0x51
  | .archiveAck _ => some 0x52
  | .badCommand op => some op
  | .cursorEntryRead | .noticeRecordClocked | .noticesLostCleared | .frameReceived _
  | .presence | .holdReq | .settleReq | .creditReq | .statusReq | .holdAns | .settleAns | .creditAns | .statusAns
  | .position | .attemptBegin | .attemptIntact | .attemptCollided _ | .backoffEnd | .presenceTimer | .owedFramePlaced
  | .silenceTimeout _ | .holdExpiry _ | .heldBackExpiry _ | .holdTimerExpiry _ | .answerWaitExpiry .. | .inDoubtMove ..
  | .deferredRelease _ | .counterStep | .closeBegin | .closeDeadline | .closeCompletion | .programComplete _
  | .eraseBegin | .eraseComplete _ | .reset | .resetRelease | .recoveryEnd | .cursorRecordChosen => none

/-- The argument bytes of a host command (R190). -/
def argumentBytes : Instr → List Byte
  | .start st ml fr ff ce hl cl =>
    Machine.toBytes 1 st ++ Machine.toBytes 2 ml ++ Machine.toBytes 2 fr ++ Machine.toBytes 1 ff ++ Machine.toBytes 3 ce
      ++ Machine.toBytes 2 hl ++ Machine.toBytes 2 cl
  | .issue sl am re r => Machine.toBytes 1 sl ++ Machine.toBytes 3 am ++ refBytes re r
  | .redeem sl c am pa r => Machine.toBytes 1 sl ++ idBytes c ++ Machine.toBytes 3 am ++ refBytes pa r
  | .complete sl am => Machine.toBytes 1 sl ++ Machine.toBytes 3 am
  | .topup sl c am r | .refund sl c am r =>
    Machine.toBytes 1 sl ++ idBytes c ++ Machine.toBytes 3 am ++ refBytes false r
  | .enquire sl c | .freeze sl c => Machine.toBytes 1 sl ++ idBytes c
  | .unfreeze sl c r _ => Machine.toBytes 1 sl ++ idBytes c ++ refBytes false r
  | .rangeLock k lo hi ac _ =>
    Machine.toBytes 1 k ++ Machine.toBytes 4 lo ++ Machine.toBytes 4 hi ++ Machine.boolByte ac
  | .cancel k | .slotRead k | .slotFree k | .setMask k | .cursorRead k => Machine.toBytes 1 k
  | .positionRead g st => Machine.toBytes 1 g ++ Machine.toBytes 1 st
  | .cursorSet c i n b d e m f nt =>
    Machine.toBytes 1 c ++ Machine.toBytes 4 i ++ Machine.toBytes 2 n ++ Machine.toBytes 1 b ++ Machine.toBytes 1 d
      ++ Machine.toBytes 1 e ++ Machine.toBytes 1 m ++ Machine.toBytes 1 f ++ Machine.boolByte nt
  | .archiveAck i => Machine.toBytes 4 i
  | .status _ | .close | .rosterRead | .takeNotice | .badCommand _
  | .cursorEntryRead | .noticeRecordClocked | .noticesLostCleared | .frameReceived _
  | .presence | .holdReq | .settleReq | .creditReq | .statusReq | .holdAns | .settleAns | .creditAns | .statusAns
  | .position | .attemptBegin | .attemptIntact | .attemptCollided _ | .backoffEnd | .presenceTimer | .owedFramePlaced
  | .silenceTimeout _ | .holdExpiry _ | .heldBackExpiry _ | .holdTimerExpiry _ | .answerWaitExpiry .. | .inDoubtMove ..
  | .deferredRelease _ | .counterStep | .closeBegin | .closeDeadline | .closeCompletion | .programComplete _
  | .eraseBegin | .eraseComplete _ | .reset | .resetRelease | .recoveryEnd | .cursorRecordChosen => []

/-- The bytes of a host command's select period; none for an event (R184, R190). -/
def encodeTill (i : Instr) : Option (List Byte) :=
  (opcodeOf i).map fun op => Machine.toBytes 1 op ++ argumentBytes i

/-- The level of PROTECT_N a host command carries; high for one that does not read it. -/
def protectLevel : Instr → Bool
  | .status p => p
  | .unfreeze _ _ _ p => p
  | .rangeLock _ _ _ _ p => p
  | _ => true

end Sys2Proof
end

