-- ==== Sys2Proof/Machine/State.lean ====
section
/-! DEFINITION. The whole state of the part, block by block as the manual lists them, the reasons a step can stop, and the
state after reset. -/

namespace Sys2Proof.Machine

/-- The machine's faults. The CB-812 has none in the host's sense: every fault of R171 is a next state, HALTED with its code,
and every command is taken or turned away with a next state. The type is empty: no command raises one. -/
inductive Fault where
  deriving DecidableEq, Repr

/-- Reasons a command is refused by the model. -/
inductive Refusal where
  /-- Raised by an arm of exec that has no meaning yet, with the row's mnemonic; safe: the model stops. -/
  | notModelled (mnemonic : String)
  deriving DecidableEq, Repr

/-- The custody table: card records by custody place, the four range locks, the liability figure (R1, R6, R7). -/
structure Custody where
  cards : Tab Card
  locks : Tab RangeLock
  liability : Nat
  deriving DecidableEq, Repr

/-- The request table by place; the remaining life in milliseconds of each OPEN hold, by tag (0: the expiry is held back,
R39); the tags whose release waits for a frame slot: `deferred` those of a freed HELD slot, which an expiry held back leaves
waiting (R37, R39), `lapsing` those of a slot freed while AUTHORISING, which expire instead once their life has run out
(R85). -/
structure Requests where
  grants : Tab Grant
  lives : Tab Nat
  deferred : List Nat
  lapsing : List Nat
  deriving DecidableEq, Repr

/-- The link controller (R47 to R63). `presenceTimer` is the time in milliseconds to the next PRESENCE. `driving` holds the
bytes the part drives on the pair while an attempt runs. -/
structure Link where
  tx : List TxFrame
  phase : TxPhase
  driving : List Byte
  rx : List LinkFrame
  roster : Tab RosterEntry
  presenceTimer : Nat
  owed : List Continuation
  deriving DecidableEq, Repr

/-- The request tracker by place, and the request counter (R66, R166). -/
structure Tracker where
  entries : Tab Track
  counter : Nat
  deriving DecidableEq, Repr

/-- The position table and the clearing unit (R89 to R113). -/
structure Positions where
  gen : GenRec
  rowsA : Tab Row
  rowsB : Tab Row
  target : Nat
  view : Option CloseView
  deriving DecidableEq, Repr

/-- The journal's working bookkeeping (R130 to R143). `archivedStored` is the archived-through index as stored (R137);
`writes` and `lastB` are the write count and the copy of the last control-record program placed (R157). `hidden` is the index
from which entries stay hidden from cursors in HALTED: those not stored when the station entered it (R156, R171). -/
structure Journal where
  blocks : List Block
  wpBlock : Nat
  wpSlot : Nat
  next : Nat
  oldest : Nat
  archived : Nat
  archivedStored : Nat
  writes : Nat
  lastB : Bool
  erase : Option Erase
  hidden : Option Nat
  deriving DecidableEq, Repr

/-- The four export cursors by number, and cursor 0's read-through mark (R144, R147). -/
structure Cursors where
  table : Tab Cursor
  mark : Nat
  deriving DecidableEq, Repr

/-- The notice unit (R176 to R182). -/
structure Notices where
  queue : List Notice
  mask : Nat
  lost : Bool
  nextSeq : Nat
  deriving DecidableEq, Repr

/-- The store controller: the store, the program queue, the pending frames in frame-number order, the waits, the next frame
number (R157 to R164). -/
structure Control where
  store : Store
  queue : List Program
  frames : List PendingFrame
  waits : List Wait
  nextFrame : Nat
  deriving DecidableEq, Repr

/-- The till port: the bytes of the reply, what the select period stands on, the level sampled on PROTECT_N (R184). -/
structure Port where
  reply : List Byte
  session : Session
  protectN : Bool
  deriving DecidableEq, Repr

/-- The state of the part. `leftStored` is the number of frames that a recovery which stopped with a fault has left STORED in
the store (R172; log entry 53). -/
structure State where
  station : StationState
  fault : Option FaultCode
  conf : Option StartConf
  ident : Option Identity
  custody : Custody
  requests : Requests
  link : Link
  slots : Tab Slot
  tracker : Tracker
  positions : Positions
  journal : Journal
  cursors : Cursors
  notices : Notices
  control : Control
  recovery : Option Recovery
  leftStored : Nat
  port : Port
  pending : List Instr
  deriving DecidableEq, Repr

/-- The custody table before recovery has built it. -/
def Custody.blank : Custody := ⟨[], [], 0⟩

/-- The request table before recovery has built it. -/
def Requests.blank : Requests := ⟨[], [], [], []⟩

/-- The link after reset: silent, both queues empty, every roster entry ABSENT (R63). -/
def Link.blank : Link := ⟨[], .quiet, [], [], [], 0, []⟩

/-- The tracker after reset. -/
def Tracker.blank : Tracker := ⟨[], 0⟩

/-- The position table before recovery has built it: its fields read 0 (R187). -/
def Positions.blank : Positions := ⟨⟨.a, 0, false, 0⟩, [], [], 0, none⟩

/-- The journal's working part before recovery has built it: its fields read 0 (R187). -/
def Journal.blank : Journal := ⟨[], 0, 0, 0, 0, 0, 0, 0, false, none, none⟩

/-- The cursors after reset: every one IDLE (R144). -/
def Cursors.blank : Cursors := ⟨[], 0⟩

/-- The notice unit after reset: queue empty, mask 7, flag clear (R177). -/
def Notices.blank : Notices := ⟨[], 7, false, 0⟩

/-- The till port after reset; PROTECT_N reads high when nothing drives it (11.6). -/
def Port.blank : Port := ⟨[], .none, true⟩

/-- The 32 blocks of a blank store: ERASED, erase count 0 (R130, R133). -/
def blankBlocks : List Block := List.replicate 32 ⟨.erased, 0⟩

/-- The part just after reset on a blank store: RECOVERING, every volatile state at its reset value (R168, R175), recovery
having read the blank journal control record (R133, R172) and found nothing to complete (R174). Log entry 6. -/
def State.reset : State where
  station := .recovering
  fault := none
  conf := none
  ident := none
  custody := .blank
  requests := .blank
  link := .blank
  slots := []
  tracker := .blank
  positions := .blank
  journal := { Journal.blank with blocks := blankBlocks, next := 1, oldest := 1 }
  cursors := .blank
  notices := .blank
  control := ⟨.blank, [], [], [], 1⟩
  recovery := some ⟨.completing, none, []⟩
  leftStored := 0
  port := .blank
  pending := []

end Sys2Proof.Machine
end

