-- ==== Sys2Proof/Machine/Tab.lean ====
section
/-! DEFINITION. The operations on sparse tables. Places are kept strictly rising, and a blank place is not listed, so that
equal tables are equal data (R157: a place that has never been written reads as the blank value). -/

namespace Sys2Proof.Machine

/-- The content of a place, if it is not blank. -/
def tabGet {α : Type} : Tab α → Nat → Option α
  | [], _ => none
  | (i, a) :: t, k => if i = k then some a else tabGet t k

/-- The content of a place, or the blank value. -/
def tabGetD {α : Type} (t : Tab α) (k : Nat) (blank : α) : α := (tabGet t k).getD blank

/-- Writes a place. -/
def tabPut {α : Type} : Tab α → Nat → α → Tab α
  | [], k, v => [(k, v)]
  | (i, a) :: t, k, v =>
    if k < i then (k, v) :: (i, a) :: t
    else if k = i then (k, v) :: t
    else (i, a) :: tabPut t k v

/-- Makes a place blank. -/
def tabDel {α : Type} : Tab α → Nat → Tab α
  | [], _ => []
  | (i, a) :: t, k => if i = k then tabDel t k else (i, a) :: tabDel t k

/-- Writes a place, or makes it blank. -/
def tabSet {α : Type} (t : Tab α) (k : Nat) : Option α → Tab α
  | some v => tabPut t k v
  | none => tabDel t k

/-- Writes a place of a table whose blank value is an ordinary value: writing the blank value removes the entry. -/
def tabPutD {α : Type} [DecidableEq α] (blank : α) (t : Tab α) (k : Nat) (v : α) : Tab α :=
  if v = blank then tabDel t k else tabPut t k v

/-- Applies a change to every content, place by place. -/
def tabMap {α β : Type} (f : α → β) (t : Tab α) : Tab β := t.map fun p => (p.1, f p.2)

/-- The entries whose content passes a test. -/
def tabFilter {α : Type} (f : α → Bool) (t : Tab α) : Tab α := t.filter fun p => f p.2

/-- The first entry whose content passes a test, with its place. -/
def tabFind {α : Type} (f : α → Bool) (t : Tab α) : Option (Nat × α) := t.find? fun p => f p.2

/-- How many contents pass a test. -/
def tabCount {α : Type} (f : α → Bool) (t : Tab α) : Nat := t.countP fun p => f p.2

/-- The sum of a figure over all contents. -/
def tabSum {α : Type} (f : α → Nat) (t : Tab α) : Nat := (t.map fun p => f p.2).sum

/-- Whether some content passes a test. -/
def tabAny {α : Type} (f : α → Bool) (t : Tab α) : Bool := t.any fun p => f p.2

/-- The lowest place, from `k` on, that is blank or whose content counts as free (log entry 9). -/
def tabFirstFree {α : Type} (free : α → Bool) : Tab α → Nat → Nat
  | [], k => k
  | (i, a) :: t, k =>
    if i < k then tabFirstFree free t k
    else if i = k then (if free a then k else tabFirstFree free t (k + 1))
    else k

/-- The canonical form: places strictly rising. -/
def tabWf {α : Type} : Tab α → Bool
  | [] => true
  | (i, _) :: t => t.all (fun p => i < p.1) && tabWf t

end Sys2Proof.Machine
end

