-- ==== Sys2Proof/Machine/Flags.lean ====
section
/-! DEFINITION. The figures and flags the part computes from its records: free records, counts, the journal's free count and
reserve flag, notice levels and NOTICE_N. -/

namespace Sys2Proof.Machine

/-! ### Free records -/

/-- The last closed period in the working copy (R89). -/
def lastClosed (s : State) : Nat := s.positions.gen.lastClosed

/-- The open period in the working copy (R89). -/
def openPeriod (s : State) : Nat := s.positions.gen.openPeriod

/-- The own station number; 0 while no identity record exists. -/
def ownStation (s : State) : Nat := (s.ident.map (·.station)).getD 0

/-- The mall id; 0 while no identity record exists. -/
def ownMall (s : State) : Nat := (s.ident.map (·.mall)).getD 0

/-- A retired card record, which counts as a free slot (R5). -/
def cardRetired (lastClosed : Nat) (c : Card) : Bool :=
  c.available = 0 && c.held = 0 && !c.reloadable && c.lastActivity ≤ lastClosed

/-- A request-table entry that counts as free (R23). -/
def grantFree (lastClosed : Nat) (g : Grant) : Bool := g.period ≤ lastClosed

/-- A tracker entry that counts as free (R66). -/
def trackFree (lastClosed : Nat) (t : Track) : Bool := t.data.period ≤ lastClosed

/-- A HOLD entry in state OPEN. -/
def grantOpen (g : Grant) : Bool :=
  match g.body with
  | .hold _ _ .isOpen => true
  | _ => false

/-- The amount held g of a HOLD entry. -/
def grantAmount (g : Grant) : Nat :=
  match g.body with
  | .hold _ a _ => a
  | .credit _ _ => 0

/-- A HOLD entry's tag. -/
def grantTag (g : Grant) : Option Nat :=
  match g.body with
  | .hold t _ _ => some t
  | .credit _ _ => none

/-- The number of card records that are not free, as STATUS reports it (R5). -/
def cardCount (s : State) : Nat := tabCount (fun c => !cardRetired (lastClosed s) c) s.custody.cards

/-- The number of request-table entries that are not free (R23). -/
def grantCount (s : State) : Nat := tabCount (fun g => !grantFree (lastClosed s) g) s.requests.grants

/-- The number of OPEN holds, as STATUS reports it (R23). -/
def openHolds (s : State) : Nat :=
  tabCount (fun g => grantOpen g && !grantFree (lastClosed s) g) s.requests.grants

/-- The number of tracker entries that are not free (R66). -/
def trackCount (s : State) : Nat := tabCount (fun t => !trackFree (lastClosed s) t) s.tracker.entries

/-! ### Frame area -/

/-- How many frame slots are free (R161). -/
def framesFree (s : State) : Nat := frameSlots - s.control.frames.length

/-- How many frames are pending, as STATUS reports it: those accepted whose done mark is not programmed, and in HALTED after
a recovery that stopped those it left STORED (R161, R172; DEDUCED, log entry 53). -/
def framesPending (s : State) : Nat := s.control.frames.length + s.leftStored

/-- A frame slot is free (R161, R165). -/
def frameFree (s : State) : Bool := s.control.frames.length < frameSlots

/-! ### Journal -/

/-- The free count of a block: 512 for an ERASED block, the slots from the write point on for the IN_USE block (R134). -/
def blockFree (j : Journal) (n : Nat) (b : Block) : Nat :=
  match b.state with
  | .erased => blockSlots
  | .inUse => if n = j.wpBlock then blockSlots - j.wpSlot else 0
  | _ => 0

/-- The free count over a list of blocks numbered from `n` on. -/
def freeFrom (j : Journal) : Nat → List Block → Nat
  | _, [] => 0
  | n, b :: bs => blockFree j n b + freeFrom j (n + 1) bs

/-- The journal free count (R134). -/
def freeCount (j : Journal) : Nat := freeFrom j 0 j.blocks

/-- The station is inside the reserve (R135). -/
def insideReserve (s : State) : Bool := freeCount s.journal ≤ reserveSlots

/-- The blocks that are not BAD (R141). -/
def usableBlocks (bs : List Block) : Nat := bs.countP fun b => b.state ≠ .bad

/-! ### Notices -/

/-- The level a kind fixes (R176). -/
def noticeLevel : NoticeKind → Nat
  | .fault => 7
  | .slotOutcome => 6
  | .resolved | .orphaned => 5
  | .closeBegun | .closeDone | .rowDisputed => 4
  | .journalReserve | .journalClear | .blockRetired => 3
  | .stationPresent | .stationAbsent | .stationHalted => 2
  | .cursorPaused | .cursorEnded => 1

/-- A queued notice's level. -/
def levelOf (n : Notice) : Nat := noticeLevel n.data.kind

/-- A notice is eligible under a mask (R178). -/
def eligible (mask : Nat) (n : Notice) : Bool := mask < levelOf n || levelOf n = 7

/-- NOTICE_N is driven low: an eligible notice is queued and the part is not held in reset (R168, R179). -/
def noticeLow (s : State) : Bool :=
  s.station ≠ .held && s.notices.queue.any (eligible s.notices.mask)

end Sys2Proof.Machine
end

