-- ==== Sys2Proof/Machine/Layouts.lean ====
section
/-! DEFINITION. The replies of the till port as bytes: port status codes (R185), reply layouts (R191, R192) and journal
records (R193). -/

namespace Sys2Proof.Machine

/-- The port status values (R185). -/
inductive PortStatus where
  | accepted | badCommand | badArgument | notTrading | slotState | badCard | badAmount | homeAbsent | trackerFull
  | tableFull | serialsExhausted | journalFull | storeBusy | limit | isProtected | notHome | closeBusy | identity
  deriving DecidableEq, Repr

/-- The byte of a port status (R185). -/
def statusCode : PortStatus → Nat
  | .accepted => 0x00
  | .badCommand => 0x01
  | .badArgument => 0x02
  | .notTrading => 0x03
  | .slotState => 0x04
  | .badCard => 0x05
  | .badAmount => 0x06
  | .homeAbsent => 0x07
  | .trackerFull => 0x08
  | .tableFull => 0x09
  | .serialsExhausted => 0x0A
  | .journalFull => 0x0B
  | .storeBusy => 0x0C
  | .limit => 0x0D
  | .isProtected => 0x0E
  | .notHome => 0x0F
  | .closeBusy => 0x10
  | .identity => 0x11

/-- The reply byte of a port status. -/
def statusByte (p : PortStatus) : List Byte := toBytes 1 (statusCode p)

/-! ### Codes of enumerated reply fields (R186, R191, R192) -/

/-- Station states (R191 order). A part held in reset gives no reply. -/
def stationCode : StationState → Nat
  | .held => 0
  | .recovering => 1
  | .idle => 2
  | .trading => 3
  | .halted => 4

/-- Fault codes (R171 order), 0 for none. -/
def faultCodeOf : Option FaultCode → Nat
  | none => 0
  | some .programFailed => 1
  | some .stationClash => 2
  | some .journalWorn => 3
  | some .frameFormat => 4
  | some .recoveryFailed => 5

/-- Roster states in R191's order, counted from 1. R186 keeps 0 for "none or absent"; the model reads that as a field that is
not there and not as the state ABSENT, so ABSENT is 1, PRESENT 2 and HALTED 3 (DESIGN CHOICE, log entry 56). -/
def presenceCode : Presence → Nat
  | .absent => 1
  | .present => 2
  | .halted => 3

/-- Outcome codes (R186). -/
def outcomeCode : OutcomeCode → Nat
  | .approved => 1
  | .partially => 2
  | .declined => 3
  | .captured => 4
  | .released => 5
  | .releaseAssumed => 6
  | .captureRefused => 7
  | .inDoubt => 8
  | .credited => 9
  | .noAnswer => 10
  | .holdLapsed => 11
  | .issued => 12
  | .status => 13
  | .unfrozen => 14

/-- Slot states (R64 order): FREE is 1. -/
def slotStateCode : SlotState → Nat
  | .authorising => 2
  | .held => 3
  | .settling => 4
  | .crediting => 5
  | .enquiring => 6
  | .issuing => 7
  | .outcome => 8

/-- Operations (R64 order). -/
def operationCode : Operation → Nat
  | .issue => 1
  | .redeem => 2
  | .complete => 3
  | .cancel => 4
  | .topup => 5
  | .refund => 6
  | .enquire => 7
  | .freeze => 8
  | .unfreeze => 9

/-- Notice kinds (R176 order). -/
def noticeKindCode : NoticeKind → Nat
  | .fault => 1
  | .slotOutcome => 2
  | .resolved => 3
  | .orphaned => 4
  | .closeBegun => 5
  | .closeDone => 6
  | .rowDisputed => 7
  | .journalReserve => 8
  | .journalClear => 9
  | .blockRetired => 10
  | .stationPresent => 11
  | .stationAbsent => 12
  | .stationHalted => 13
  | .cursorPaused => 14
  | .cursorEnded => 15

/-- Request kinds of an orphan (R193). -/
def orphanKindCode : OrphanKind → Nat
  | .capture => 1
  | .topup => 2
  | .refund => 3

/-- Row states (R192). -/
def rowStateCode : RowState → Nat
  | .pending => 1
  | .awaiting => 2
  | .confirmed => 3
  | .disputed => 4
  | .empty => 5
  | .silent => 6

/-- Cursor states (R192 order). -/
def cursorStateCode : CursorState → Nat
  | .idle => 1
  | .ready => 2
  | .paused => 3
  | .ended => 4

/-- Journal kinds (R128 order, R193). -/
def journalKindCode : JournalKind → Nat
  | .issue => 1
  | .topupOwn => 2
  | .refundOwn => 3
  | .captureOwn => 4
  | .captureHome => 5
  | .captureAcq => 6
  | .creditHome => 7
  | .creditAcq => 8
  | .freeze => 9
  | .unfreeze => 10
  | .rangeLock => 11
  | .statement => 12
  | .statementException => 13

/-- A card identifier's six bytes (R186). -/
def cardBytes (c : CardId) : List Byte := toBytes 1 c.ss ++ toBytes 4 c.serial ++ toBytes 1 c.cc

/-- A presence flag and the field, or zeros (R192). -/
def flagged (n : Nat) (v : Option Nat) : List Byte := boolByte v.isSome ++ toBytes n (v.getD 0)

/-! ### Replies -/

/-- The STATUS reply after the port status (R187, R191). In RECOVERING, what recovery has not built reads 0. -/
def statusReply (s : State) : List Byte :=
  let built := s.station ≠ .recovering
  let f := fun (v : Nat) => if built then v else 0
  toBytes 1 (stationCode s.station) ++ toBytes 1 (faultCodeOf s.fault) ++ toBytes 3 (f (openPeriod s))
    ++ boolByte (built && s.positions.gen.closing) ++ toBytes 3 (f s.positions.target)
    ++ toBytes 2 (f (freeCount s.journal)) ++ boolByte (built && insideReserve s)
    ++ toBytes 1 (f (framesPending s)) ++ toBytes 5 (f s.custody.liability) ++ toBytes 2 (f (cardCount s))
    ++ toBytes 2 (f (openHolds s)) ++ toBytes 1 s.notices.queue.length ++ boolByte s.notices.lost
    ++ boolByte s.port.protectN

/-- A ROSTER_READ entry (R191). The own station's entry reads ABSENT with zeros (R58). -/
def rosterBytes (s : State) (j : Nat) : List Byte :=
  let e := if j = ownStation s then RosterEntry.blank else tabGetD s.link.roster j .blank
  toBytes 1 (presenceCode e.state) ++ toBytes 3 e.lastPeriod ++ toBytes 3 e.target
    ++ toBytes 1 (wholeSeconds e.silence)

/-- The ROSTER_READ reply: 63 entries, station 1 first (R187). -/
def rosterReply (s : State) : List Byte := (List.range 63).flatMap fun k => rosterBytes s (k + 1)

/-- A notice's subject in its 8 bytes (R191). -/
def subjectBytes : Subject → List Byte
  | .none => zeroBytes 8
  | .number n => toBytes 8 n
  | .work reqNo card => toBytes 2 (reqNo.getD 0) ++ cardBytes card

/-- The 14-byte notice record (R191). -/
def noticeBytes (n : NoticeRec) : List Byte :=
  toBytes 1 (noticeLevel n.kind) ++ toBytes 1 (noticeKindCode n.kind) ++ subjectBytes n.subject ++ toBytes 4 n.code

/-- The SPURIOUS record (R180, R191). -/
def spuriousBytes : List Byte := toBytes 1 0 ++ toBytes 1 0xFF ++ zeroBytes 12

/-- The SLOT_READ reply (R65, R192). Fields the slot does not hold read 0; a FREE slot holds none. -/
def slotReply : Option Slot → List Byte
  | none => toBytes 1 1 ++ zeroBytes 39
  | some sl =>
    let o := sl.outcome
    toBytes 1 (slotStateCode sl.state) ++ toBytes 1 (operationCode sl.op) ++ cardBytes sl.card ++ toBytes 3 sl.amount
      ++ flagged 4 sl.tillRef ++ toBytes 3 ((sl.hold.map (·.tag)).getD 0) ++ toBytes 3 ((sl.hold.map (·.period)).getD 0)
      ++ toBytes 3 ((sl.hold.map (·.g)).getD 0) ++ toBytes 2 (wholeSeconds (sl.timer.getD 0))
      ++ toBytes 1 ((o.map (outcomeCode ·.code)).getD 0) ++ toBytes 3 ((o.map (·.amount)).getD 0)
      ++ flagged 3 (o.bind (·.availableAfter)) ++ toBytes 3 ((o.map (·.held)).getD 0)
      ++ toBytes 1 (((o.bind (·.view)).map viewCode).getD 0) ++ toBytes 1 (reasonCode (o.bind (·.reason)))

/-- The deadline field of a POSITION_READ reply: 0xFFFF for none (R192). -/
def deadlineBytes : Option Nat → List Byte
  | some ms => toBytes 2 (wholeSeconds ms)
  | none => toBytes 2 0xFFFF

/-- The POSITION_READ reply for a row (R93, R192). `rowState` and `final` are the closing generation's. -/
def positionReply (period : Nat) (own : Bool) (r : Row) (rowState : Nat) (final : Bool) (deadline : Option Nat) :
    List Byte :=
  toBytes 3 period ++ toBytes 1 rowState ++ boolByte final ++ deadlineBytes deadline
    ++ (if own then
          toBytes 5 r.own.ro ++ toBytes 5 r.own.tO ++ toBytes 5 r.own.fo ++ toBytes 5 r.own.ko ++ zeroBytes 15
            ++ boolByte false ++ zeroBytes 30 ++ boolByte false
        else
          figureBytes r.fig ++ toBytes 5 r.ka ++ boolByte r.mirror.isSome ++ figureBytes (r.mirror.getD .zero)
            ++ boolByte r.haveYours)

/-- The CURSOR_READ header (R148, R192). -/
def headerBytes (c : Cursor) : List Byte :=
  toBytes 1 (cursorStateCode c.state) ++ boolByte c.paused ++ toBytes 4 c.current ++ toBytes 2 c.count

/-! ### Journal records (R193) -/

/-- A field's bit in the presence mask. -/
def maskBit (bit : Nat) (present : Bool) : Nat := if present then 2 ^ bit else 0

/-- The outcome bytes of a journal entry (R193). -/
def journalOutcomeBytes : Option JournalOutcome → List Byte
  | none => zeroBytes 2
  | some (.credit k) => toBytes 1 (creditKindCode k) ++ zeroBytes 1
  | some (.lock set number) => toBytes 1 (if set then 1 else 2) ++ toBytes 1 number

/-- The body of an entry, from byte 9 on, before the unused zeros (R193). -/
def bodyBytes : JournalBody → List Byte
  | .plain b =>
    toBytes 1 (maskBit 0 b.card.isSome + maskBit 1 b.amount.isSome + maskBit 2 b.counterpart.isSome
        + maskBit 3 b.tag.isSome + maskBit 4 b.reqNo.isSome + maskBit 5 b.tillRef.isSome + maskBit 6 b.outcome.isSome)
      ++ ((b.card.map cardBytes).getD (zeroBytes 6)) ++ toBytes 4 (b.amount.getD 0)
      ++ toBytes 1 (b.counterpart.getD 0) ++ toBytes 3 (b.tag.getD 0) ++ toBytes 2 (b.reqNo.getD 0)
      ++ toBytes 4 (b.tillRef.getD 0) ++ journalOutcomeBytes b.outcome
  | .head h =>
    intBytes 8 h.payout ++ toBytes 6 h.fee ++ toBytes 6 h.basis ++ toBytes 6 h.count ++ intBytes 8 h.withheld
      ++ toBytes 1 h.confirmed ++ toBytes 1 h.disputed ++ toBytes 1 h.empty ++ toBytes 1 h.silent
      ++ toBytes 1 h.orphans ++ toBytes 1 h.listed ++ toBytes 5 h.ro ++ toBytes 5 h.tO ++ toBytes 5 h.fo
      ++ toBytes 5 h.liability ++ toBytes 2 h.feeRate ++ toBytes 1 h.fixedFee
  | .row r =>
    toBytes 1 r.station ++ toBytes 1 (rowStateCode r.state) ++ boolByte r.ownFinal ++ figureBytes r.ours
      ++ intBytes 6 r.net ++ boolByte r.mirror.isSome ++ figureBytes (r.mirror.getD .zero)
  | .orphan o =>
    toBytes 1 o.station ++ toBytes 1 8 ++ toBytes 1 (orphanKindCode o.kind) ++ toBytes 2 o.reqNo ++ cardBytes o.card
      ++ toBytes 4 o.amount ++ toBytes 3 (o.tag.getD 0)
      ++ toBytes 1 (match o.lastState with | .sent => 1 | .inDoubt => 2)

/-- Bytes 0 to 93 of an entry record (R193). -/
def entryContent (e : JournalEntry) : List Byte :=
  let bs := toBytes 1 1 ++ toBytes 1 (journalKindCode e.kind) ++ toBytes 4 e.index ++ toBytes 3 e.period
    ++ bodyBytes e.body
  (bs ++ zeroBytes (94 - bs.length)).take 94

/-- A record with its CRC (R193). -/
def withCrc (bs : List Byte) : List Byte := bs ++ toBytes 2 (crc16 bs)

/-- The 96 bytes of an entry record (R193). -/
def entryBytes (e : JournalEntry) : List Byte := withCrc (entryContent e)

/-- The 96 bytes of an END record (R193). -/
def endBytes : List Byte := withCrc (zeroBytes 94)

end Sys2Proof.Machine
end

