-- ==== Sys2Proof/Machine/Ops.lean ====
section
/-! DEFINITION. The operations every block shares: checks in order, the reply of the till port, posting a notice, the journal
ring, writing the store, accepting an intent frame. -/

namespace Sys2Proof.Machine

/-! ### Checks in order -/

/-- Checks made in order: the mark of the first that fails (R185). -/
def firstFail {α : Type} : List (Bool × α) → Option α
  | [] => none
  | (ok, a) :: t => if ok then firstFail t else some a

/-- What a step answers for a state: every command of the part ends in a next state. -/
def answer (s : State) : Host.Outcome State Fault Refusal := .next s

/-! ### Till port -/

/-- The reply of the present select period (R184); the select period stands on nothing further. -/
def reply (bytes : List Byte) (s : State) : State :=
  { s with port := { s.port with reply := bytes, session := .none } }

/-- A refused command's reply ends with the port status (R184). -/
def refuse (p : PortStatus) (s : State) : State := reply (statusByte p) s

/-- An accepted command's reply: ACCEPTED and the reply fields (R184). -/
def accepted (fields : List Byte) (s : State) : State := reply (statusByte .accepted ++ fields) s

/-- A host command: held in reset the part discards the select period without a reply (R168); otherwise the command is taken.
-/
def hostCommand (s : State) (taken : State → State) : Host.Outcome State Fault Refusal :=
  if s.station = .held then answer (reply [] s) else answer (taken s)

/-- A host command with checks in order: refused with the first status that fails, else carried out (R185). -/
def checkedCommand (s : State) (checks : List (Bool × PortStatus)) (run : State → State) :
    Host.Outcome State Fault Refusal :=
  hostCommand s fun s =>
    match firstFail checks with
    | some p => refuse p s
    | none => run s

/-! ### Notices -/

/-- The oldest queued notice of the lowest level among those below a level (R181). -/
def victim (level : Nat) : List Notice → Option Notice
  | [] => none
  | n :: t =>
    match victim level t with
    | none => if levelOf n < level then some n else none
    | some v => if levelOf n < level ∧ levelOf n ≤ levelOf v then some n else some v

/-- The notice unit after a notice is posted (R177, R181, R182). -/
def postNotice (n : NoticeRec) (u : Notices) : Notices :=
  let e : Notice := ⟨u.nextSeq, n⟩
  if u.queue.length < noticePlaces then { u with queue := u.queue ++ [e], nextSeq := u.nextSeq + 1 }
  else
    match victim (noticeLevel n.kind) u.queue with
    | some v =>
      { u with queue := u.queue.eraseP (fun x => x.seq = v.seq) ++ [e], lost := true, nextSeq := u.nextSeq + 1 }
    | none => { u with lost := true, nextSeq := u.nextSeq + 1 }

/-- Posts a notice (R177). -/
def post (kind : NoticeKind) (subject : Subject) (code : Nat) (s : State) : State :=
  { s with notices := postNotice ⟨kind, subject, code⟩ s.notices }

/-! ### The journal ring -/

/-- A block's state; a number that is no block reads as BAD. -/
def blockStateOf (blocks : List Block) (n : Nat) : BlockState := ((blocks[n]?).map (·.state)).getD .bad

/-- Changes a block's state. -/
def setBlockState (blocks : List Block) (n : Nat) (st : BlockState) : List Block :=
  blocks.modify n fun b => { b with state := st }

/-- The blocks that follow block `n` in the ring, `n` itself last (R130). -/
def ringAfter (n : Nat) : List Nat := (List.range blockCount).map fun i => (n + 1 + i) % blockCount

/-- The block after `n` in the ring of usable blocks (R130). -/
def nextBlock (blocks : List Block) (n : Nat) : Nat :=
  ((ringAfter n).find? fun b => blockStateOf blocks b ≠ .bad).getD n

/-- The journal slot of a block, as a place of the store. -/
def slotPlace (block slot : Nat) : Nat := block * blockSlots + slot

/-- The write point moves past the slot it stands at; the slot's block, and the block it moves into, change state as R131
gives. The block the write point moves into becomes IN_USE if it is ERASED (R130, R131; log entry 10). -/
def advance (j : Journal) : Journal :=
  let b := if blockStateOf j.blocks j.wpBlock = .bad then nextBlock j.blocks j.wpBlock else j.wpBlock
  if j.wpSlot + 1 < blockSlots then
    { j with blocks := setBlockState j.blocks b .inUse, wpBlock := b, wpSlot := j.wpSlot + 1 }
  else
    let full := setBlockState j.blocks b .full
    let n := nextBlock full b
    { j with
      blocks := if blockStateOf full n = .erased then setBlockState full n .inUse else full
      wpBlock := n
      wpSlot := 0 }

/-- The place the next entry takes (R131). -/
def writePoint (j : Journal) : Nat :=
  slotPlace (if blockStateOf j.blocks j.wpBlock = .bad then nextBlock j.blocks j.wpBlock else j.wpBlock) j.wpSlot

/-- An entry before it is given its index. -/
structure Draft where
  kind : JournalKind
  period : Nat
  body : JournalBody
  deriving DecidableEq, Repr

/-- Claims a slot for an entry: the place, the entry with its index, and the journal after (R129, R131). -/
def claimOne (d : Draft) (j : Journal) : (Nat × JournalEntry) × Journal :=
  ((writePoint j, ⟨j.next, d.kind, d.period, d.body⟩), { advance j with next := j.next + 1 })

/-- Claims consecutive slots for a run (R129, R131). -/
def claimRun : List Draft → Journal → List (Nat × JournalEntry) × Journal
  | [], j => ([], j)
  | d :: ds, j =>
    let one := claimOne d j
    let more := claimRun ds one.2
    (one.1 :: more.1, more.2)

/-- Claims slots for the entries of an operation; a claim that takes the free count into the reserve posts JOURNAL_RESERVE
(R131, R135). -/
def claim (ds : List Draft) (s : State) : List (Nat × JournalEntry) × State :=
  let r := claimRun ds s.journal
  let s' := { s with journal := r.2 }
  (r.1,
    if reserveSlots < freeCount s.journal ∧ freeCount r.2 ≤ reserveSlots then
      post .journalReserve .none (freeCount r.2) s'
    else s')

/-- The control record as the working copy stands (R133). -/
def controlRecord (j : Journal) : ControlRec := ⟨j.oldest, j.archived, j.next, j.blocks⟩

/-- The next control-record program: the copy not written last, with a write count one higher (R157). -/
def controlProgram (use : ControlUse) (rec : ControlRec) (j : Journal) : Program :=
  .control (!j.lastB) ⟨j.writes + 1, rec⟩ use

/-- The journal once a control-record program has been placed. -/
def controlPlaced (j : Journal) : Journal := { j with writes := j.writes + 1, lastB := !j.lastB }

/-! ### What the journal's store holds -/

/-- The whole entries the store holds (R132). -/
def storedEntries (st : Store) : List JournalEntry :=
  st.journal.filterMap fun p => match p.2 with
    | .whole e => some e
    | .torn => none

/-- The entries of a frame's journal write-back. -/
def frameEntries (f : Frame) : List JournalEntry :=
  f.writeBacks.flatMap fun w => match w.valid, w.target with
    | true, .journal es => es
    | _, _ => []

/-- A frame the part knows that is STORED, or whose done mark is torn and so reads as STORED (R163, R173). -/
def slotStored : FrameSlot → Option Frame
  | .stored f => some f
  | .doneTorn f => some f
  | .done _ | .unknown .. | .torn => none

/-- The first index of a run whose write-back has not completed: entries from it on are not yet stored for a cursor (R145).
-/
def hiddenFrom (st : Store) : Option Nat :=
  let es := storedEntries st
  st.frames.findSome? fun p =>
    match slotStored p.2 with
    | none => none
    | some f =>
      let run := frameEntries f
      if run.all fun e => es.any fun x => x.index = e.index then none else run.head?.map (·.index)

/-- The index from which entries are not yet stored for a cursor: in HALTED what it was at entry (R145, R156). -/
def hiddenIndex (s : State) : Option Nat :=
  if s.station = .halted then s.journal.hidden else hiddenFrom s.control.store

/-- The stored and unretired entries (R145). -/
def visible (s : State) : List JournalEntry :=
  let h := hiddenIndex s
  (storedEntries s.control.store).filter fun e => s.journal.oldest ≤ e.index && h.all (fun k => e.index < k)

/-- The entry with the lowest index that passes a test. -/
def lowestEntry (p : JournalEntry → Bool) : List JournalEntry → Option JournalEntry
  | [] => none
  | e :: t =>
    match lowestEntry p t with
    | none => if p e then some e else none
    | some b => if p e && e.index < b.index then some e else some b

/-- The entry with the highest index that passes a test. -/
def highestEntry (p : JournalEntry → Bool) : List JournalEntry → Option JournalEntry
  | [] => none
  | e :: t =>
    match highestEntry p t with
    | none => if p e then some e else none
    | some b => if p e && b.index < e.index then some e else some b

/-- The newest stored entry's index (R145). -/
def newestStored (s : State) : Option Nat := (highestEntry (fun _ => true) (visible s)).map (·.index)

/-- The oldest unretired index after retirement: the first stored entry, in index order, that is above the archived-through
index or of a period not closed; past the last entry when every one retires (R137). -/
def retireTo (entries : List JournalEntry) (oldest archived lastClosed : Nat) : Nat :=
  match lowestEntry (fun e => oldest ≤ e.index && !(e.index ≤ archived && e.period ≤ lastClosed)) entries with
  | some e => e.index
  | none =>
    match highestEntry (fun e => oldest ≤ e.index) entries with
    | some e => e.index + 1
    | none => oldest

/-- Retirement (R137). -/
def retire (s : State) : State :=
  { s with
    journal :=
      { s.journal with
        oldest := retireTo (storedEntries s.control.store) s.journal.oldest s.journal.archivedStored (lastClosed s) } }

/-! ### Writing the store -/

/-- The place of a row in the store's position area (R157). -/
def rowPlace (side : Side) (station : Nat) : Nat :=
  match side with
  | .a => station
  | .b => 64 + station

/-- The store after a record's place is programmed with its content (R158); journal slots and control copies are written by
programs of their own. -/
def storeWrite (st : Store) : Target → Store
  | .card p c => { st with cards := tabPut st.cards p (.whole c) }
  | .grant p g => { st with grants := tabPut st.grants p (.whole g) }
  | .row sd j r => { st with rows := tabPut st.rows (rowPlace sd j) (.whole r) }
  | .tracker p t => { st with trackers := tabSet st.trackers p (t.map .whole) }
  | .lock n l => { st with locks := tabPut st.locks n (.whole l) }
  | .identity i => { st with identity := some (.whole i) }
  | .generation g => { st with gen := some (.whole g) }
  | .journal _ | .control _ => st

/-- The store after a record's place is left torn (R158). -/
def storeTear (st : Store) : Target → Store
  | .card p _ => { st with cards := tabPut st.cards p .torn }
  | .grant p _ => { st with grants := tabPut st.grants p .torn }
  | .row sd j _ => { st with rows := tabPut st.rows (rowPlace sd j) .torn }
  | .tracker p _ => { st with trackers := tabPut st.trackers p .torn }
  | .lock n _ => { st with locks := tabPut st.locks n .torn }
  | .identity _ => { st with identity := some .torn }
  | .generation _ => { st with gen := some .torn }
  | .journal _ | .control _ => st

/-- The frame a frame slot holds, whatever its state; none where it is not one the part knows. -/
def slotFrame : FrameSlot → Option Frame
  | .stored f => some f
  | .done f => some f
  | .doneTorn f => some f
  | .unknown .. | .torn => none

/-- The store after a program has completed (R158, R159). -/
def programWrite (st : Store) : Program → Store
  | .frame n f => { st with frames := tabPut st.frames n (.stored f) }
  | .target t => storeWrite st t
  | .entry pos e => { st with journal := tabPut st.journal pos (.whole e) }
  | .control true c _ => { st with controlB := some (.whole c) }
  | .control false c _ => { st with controlA := some (.whole c) }
  | .done n =>
    match (tabGet st.frames n).bind slotFrame with
    | some f => { st with frames := tabPut st.frames n (.done f) }
    | none => st
  | .clearFrame n => { st with frames := tabDel st.frames n }

/-- The store after a program was cut off or failed and left its place torn (R158, R160). -/
def programTear (st : Store) : Program → Store
  | .frame n _ => { st with frames := tabPut st.frames n .torn }
  | .target t => storeTear st t
  | .entry pos _ => { st with journal := tabPut st.journal pos .torn }
  | .control true _ _ => { st with controlB := some .torn }
  | .control false _ _ => { st with controlA := some .torn }
  | .done n =>
    match (tabGet st.frames n).bind slotFrame with
    | some f => { st with frames := tabPut st.frames n (.doneTorn f) }
    | none => st
  | .clearFrame n => { st with frames := tabPut st.frames n .torn }

/-! ### Intent frames -/

/-- The programs of one write-back: one for each slot of a run, one for any other target (R159). -/
def targetPrograms (places : List Nat) (j : Journal) : Target → List Program
  | .journal es => List.zipWith .entry places es
  | .control c => [controlProgram .frame c j]
  | t => [.target t]

/-- The lowest frame slot that no pending frame holds (log entry 9). -/
def freeFrameSlot (fs : List PendingFrame) : Nat :=
  ((List.range frameSlots).find? fun n => !fs.any fun f => f.slot = n).getD 0

/-- Whether a frame writes the journal control record. -/
def hasControl (ts : List Target) : Bool := ts.any fun t => match t with
  | .control _ => true
  | _ => false

/-- Accepts an intent frame: a frame slot is claimed, the next frame number given, the frame built from the targets as the
working copy stands, and its programs placed at the tail of the queue (R159, R161). `places` are the claimed slots of the
journal write-back. With no frame slot free nothing is accepted (R165). -/
def acceptFrame (format : FrameFormat) (targets : List Target) (places : List Nat) (cont : Continuation) (s : State) :
    State :=
  if frameFree s then
    let slot := freeFrameSlot s.control.frames
    let f : Frame := ⟨s.control.nextFrame, format, targets.map fun t => ⟨true, t⟩, cont⟩
    { s with
      control :=
        { s.control with
          queue := s.control.queue ++ (.frame slot f :: targets.flatMap (targetPrograms places s.journal)) ++ [.done slot]
          frames := s.control.frames ++ [⟨slot, f, false, false⟩]
          nextFrame := s.control.nextFrame + 1 }
      journal := if hasControl targets then controlPlaced s.journal else s.journal }
  else s

/-- Places a control-record program of the erase scheduler at the tail of the queue (R133, R159). Its content is the working
copy as it stands at this moment, when the program is placed, not when it is programmed: R133's "as it stood when the record
was written" leaves that open (DESIGN CHOICE, log entry 48). -/
def placeControl (use : ControlUse) (s : State) : State :=
  { s with
    control := { s.control with queue := s.control.queue ++ [controlProgram use (controlRecord s.journal) s.journal] }
    journal := controlPlaced s.journal }

/-- The numbers of the pending frames that are not stored and pass a test (R164). -/
def unstored (p : Frame → Bool) (s : State) : List Nat :=
  (s.control.frames.filter fun f => !f.stored && p f.frame).map (·.frame.number)

/-- A frame writes the card record at a custody place. -/
def writesCard (place : Nat) (f : Frame) : Bool := f.writeBacks.any fun w => match w.target with
  | .card p _ => p = place
  | _ => false

/-- A frame writes the request-table entry at a place. -/
def writesGrant (place : Nat) (f : Frame) : Bool := f.writeBacks.any fun w => match w.target with
  | .grant p _ => p = place
  | _ => false

/-- A frame writes a row. -/
def writesRow (side : Side) (station : Nat) (f : Frame) : Bool := f.writeBacks.any fun w => match w.target with
  | .row sd j _ => sd = side ∧ j = station
  | _ => false

/-- A frame writes the generation record. -/
def writesGen (f : Frame) : Bool := f.writeBacks.any fun w => match w.target with
  | .generation _ => true
  | _ => false

/-- Adds a wait (R164). -/
def addWait (frames : List Nat) (item : HeldItem) (s : State) : State :=
  { s with control := { s.control with waits := s.control.waits ++ [⟨frames, item⟩] } }

end Sys2Proof.Machine
end

