-- ==== Sys2Proof/Machine/LinkOps.lean ====
section
/-! DEFINITION. The link controller's operations: the transmit queue, offers by kind (R46, R50, R51), the tracker's request
frames (R67, R68), the roster. -/

namespace Sys2Proof.Machine

/-- The transmit queue has room (R47). -/
def txRoom (s : State) : Bool := s.link.tx.length < queuePlaces

/-- Places a frame at the tail of the transmit queue. -/
def txPush (f : TxFrame) (s : State) : State := { s with link := { s.link with tx := s.link.tx ++ [f] } }

/-- The payload and stamp of a PRESENCE as things stand (R51). -/
def presenceFrame (s : State) (attempts : Nat) : TxFrame :=
  ⟨0, stampOf (openPeriod s), 0,
    .presence (s.station = .halted) (openPeriod s) s.positions.target s.positions.gen.closing, attempts⟩

/-- A PRESENCE frame. -/
def isPresence (p : Payload) : Bool := match p with
  | .presence .. => true
  | _ => false

/-- A TRADING station offers a PRESENCE: one waiting stands for both, a full queue discards it, and the 5 s timer restarts
either way (R50, R51). -/
def offerPresence (s : State) : State :=
  if s.station = .trading then
    let s1 := { s with link := { s.link with presenceTimer := presencePeriod } }
    if s.link.tx.any (fun f => isPresence f.payload) then s1
    else if txRoom s then txPush (presenceFrame s 0) s1
    else s1
  else s

/-- Offers an answer frame, stamped with the open period as it is placed; a full queue discards it (R46, R50). -/
def offerAnswer (dst reqNo : Nat) (p : Payload) (s : State) : State :=
  if s.station = .trading ∧ txRoom s then txPush ⟨dst, stampOf (openPeriod s), reqNo, p, 0⟩ s else s

/-! ### Request frames -/

/-- A tracker entry that is not free, by home and request number (R66, R69). -/
def findTrack (s : State) (home reqNo : Nat) : Option (Nat × Track) :=
  tabFind (fun t => t.data.home = home && t.data.reqNo = reqNo && !trackFree (lastClosed s) t) s.tracker.entries

/-- Rewrites a tracker place. -/
def putTrack (place : Nat) (t : Track) (s : State) : State :=
  { s with tracker := { s.tracker with entries := tabPut s.tracker.entries place t } }

/-- Frees a tracker place. -/
def delTrack (place : Nat) (s : State) : State :=
  { s with tracker := { s.tracker with entries := tabDel s.tracker.entries place } }

/-- The payload of a tracker entry's request frame (R45, R67). -/
def requestPayload (t : Track) : Payload :=
  match t.data.kind with
  | .hold => .holdReq t.data.serial t.data.amount t.allowPartial
  | .capture => .settleReq .capture (t.data.tag.getD 0) t.data.serial t.data.amount
  | .release => .settleReq .release (t.data.tag.getD 0) t.data.serial 0
  | .credit k => .creditReq k t.data.serial t.data.amount
  | .status a => .statusReq a t.data.serial

/-- A tracker entry's request frame: every attempt carries the same number, stamp and payload (R46, R68). -/
def requestFrame (t : Track) : TxFrame :=
  ⟨t.data.home, stampOf t.data.period, t.data.reqNo, requestPayload t, 0⟩

/-- A request kind of frame (R45). -/
def isRequest (p : Payload) : Bool := match p with
  | .holdReq .. | .settleReq .. | .creditReq .. | .statusReq .. => true
  | _ => false

/-- The tracker entry of a request frame has an offer of it in the transmit queue (R83). -/
def requestQueued (s : State) (t : Track) : Bool :=
  s.link.tx.any fun f => isRequest f.payload && f.dst = t.data.home && f.reqNo = t.data.reqNo

/-- The owner of a request frame is told that it was sent or dropped: its entry's answer wait begins (R47, R49, R68). -/
def tellOwner (f : TxFrame) (s : State) : State :=
  if isRequest f.payload then
    match findTrack s f.dst f.reqNo with
    | some (place, t) => if t.orphan.isSome then s else putTrack place { t with timer := some answerWait } s
    | none => s
  else s

/-- Offers a tracker entry's request frame: one more attempt made while the entry is SENT; refused by a full queue, its wait
starts at once (R50, R68, R83). -/
def offerRequest (place : Nat) (t : Track) (s : State) : State :=
  let t1 := { t with attempts := if t.data.state = .sent then t.attempts + 1 else t.attempts, timer := none }
  if txRoom s then putTrack place t1 (txPush (requestFrame t) s)
  else putTrack place { t1 with timer := some answerWait } s

/-- Offers the request frame of the entry with this key, if it is still there and not orphan (R162, R164). -/
def offerRequestOf (home reqNo : Nat) (s : State) : State :=
  match findTrack s home reqNo with
  | some (place, t) => if t.orphan.isSome ∨ s.station ≠ .trading then s else offerRequest place t s
  | none => s

/-! ### Roster -/

/-- A roster entry (R58). -/
def rosterEntry (s : State) (j : Nat) : RosterEntry := tabGetD s.link.roster j .blank

/-- Rewrites a roster entry. -/
def putRoster (j : Nat) (e : RosterEntry) (s : State) : State :=
  { s with link := { s.link with roster := tabPutD RosterEntry.blank s.link.roster j e } }

/-- The roster shows the station PRESENT (R62). -/
def rosterPresent (s : State) (j : Nat) : Bool := (rosterEntry s j).state = .present

end Sys2Proof.Machine
end

