-- ==== Sys2Proof/Machine/Clearing.lean ====
section
/-! DEFINITION. The position table and the clearing unit: rows and bookings (R89 to R92), the close target (R94), close begin
(R96, R97), finality and row states (R98 to R100), sending and comparing figures (R101 to R105), the clearing computation
(R114 to R122) and close completion (R109, R110). -/

namespace Sys2Proof.Machine

/-! ### Rows -/

/-- The other generation slot. -/
def otherSide : Side → Side
  | .a => .b
  | .b => .a

/-- The slot of the closing generation, when there is one (R89). -/
def closingSide (s : State) : Side := otherSide s.positions.gen.openSide

/-- The period of the closing generation (R89). -/
def closingPeriod (s : State) : Nat := openPeriod s - 1

/-- A generation slot's rows. -/
def rowsOf (s : State) : Side → Tab Row
  | .a => s.positions.rowsA
  | .b => s.positions.rowsB

/-- Rewrites a row. -/
def putRow (side : Side) (j : Nat) (r : Row) (s : State) : State :=
  match side with
  | .a => { s with positions := { s.positions with rowsA := tabPut s.positions.rowsA j r } }
  | .b => { s with positions := { s.positions with rowsB := tabPut s.positions.rowsB j r } }

/-- A row of the generation of a period, as R91 reads it: zero when its period tag is another. -/
def readRow (s : State) (side : Side) (period j : Nat) : Row :=
  let r := tabGetD (rowsOf s side) j (Row.zero 0)
  if r.tag = period then r else Row.zero period

/-- The generation slot whose period is the one an event carries (R92). -/
def generationOf (s : State) (period : Nat) : Option Side :=
  if period = openPeriod s then some s.positions.gen.openSide
  else if s.positions.gen.closing ∧ period + 1 = openPeriod s then some (closingSide s)
  else none

/-- Books into row `j` of the generation of `period`: the state after, and the write-back of the row (R92). -/
def book (period j : Nat) (change : Row → Row) (s : State) : State × List Target :=
  match generationOf s period with
  | some side =>
    let r := change (readRow s side period j)
    (putRow side j r s, [.row side j r])
  | none => (s, [])

/-! ### Finality (R99) -/

/-- An OPEN hold of a period and requester stands in the request table. -/
def openHoldOf (s : State) (period requester : Nat) : Bool :=
  tabAny (fun g => grantOpen g && !grantFree (lastClosed s) g && g.period = period && g.requester = requester)
    s.requests.grants

/-- A tracker entry to a home with a period is present, free and orphan entries apart (R99). R124 says of own side final "no"
that an orphan entry may hold a side open, while R99 leaves orphan entries out; the model follows R99, so such a SILENT row
reads final yes (DEDUCED, log entry 41). -/
def trackedOf (s : State) (period home : Nat) : Bool :=
  tabAny (fun t => !trackFree (lastClosed s) t && t.orphan.isNone && t.data.period = period && t.data.home = home)
    s.tracker.entries

/-- A slot is HELD or SETTLING on a hold of a period at a home. -/
def slotOnHold (s : State) (period home : Nat) : Bool :=
  tabAny (fun sl => (sl.state = .held || sl.state = .settling) && sl.card.ss = home
    && (match sl.hold with | some h => h.period = period | none => false)) s.slots

/-- The own side of counterpart row `j` is final for period `p` (R99). -/
def ownSideFinal (s : State) (p j : Nat) : Bool := !openHoldOf s p j && !trackedOf s p j && !slotOnHold s p j

/-- The own row is final for period `p` (R99). -/
def ownRowFinal (s : State) (p : Nat) : Bool := !openHoldOf s p (ownStation s)

/-! ### Row states -/

/-- A closing row's volatile part at close begin: PENDING, own side not final (R97). -/
def CloseRow.blank : CloseRow := ⟨.pending, false⟩

/-- A closing row's volatile part. -/
def closeRow (v : CloseView) (j : Nat) : CloseRow := tabGetD v.rows j .blank

/-- Rewrites the close view. -/
def setView (v : CloseView) (s : State) : State := { s with positions := { s.positions with view := some v } }

/-- Rewrites a closing row's volatile part. -/
def setCloseRow (j : Nat) (c : CloseRow) (s : State) : State :=
  match s.positions.view with
  | some v => setView { v with rows := tabPutD CloseRow.blank v.rows j c } s
  | none => s

/-- A row is settled (R98). -/
def rowSettled : RowState → Bool
  | .confirmed | .disputed | .empty | .silent => true
  | .pending | .awaiting => false

/-- The six pairs of R104: this station's figures against the counterpart's in swapped order. -/
def figuresAgree (ours mirror : Figures) : Bool :=
  ours.ra = mirror.ri && ours.ta = mirror.ti && ours.fa = mirror.fi && ours.ri = mirror.ra && ours.ti = mirror.ta
    && ours.fi = mirror.fa

/-- The station numbers of the counterpart rows. -/
def counterparts (s : State) : List Nat :=
  ((List.range 63).map (· + 1)).filter fun j => j ≠ ownStation s

/-- Row `j` of the closing generation. -/
def closingRow (s : State) (j : Nat) : Row := readRow s (closingSide s) (closingPeriod s) j

/-! ### Sending figures (R101) -/

/-- Places a POSITION for row `j` of period `p` in the transmit queue, with the figures and have-yours as they stand; a full
queue discards it (R50, R101). -/
def placePosition (j p : Nat) (s : State) : State :=
  if s.station = .trading ∧ p + 1 = openPeriod s ∧ txRoom s then
    let r := readRow s (closingSide s) p j
    txPush ⟨j, stampOf (openPeriod s), 0, .position p r.fig r.haveYours, 0⟩ s
  else s

/-- A send for this row is waiting to be placed (R101). -/
def sendWaiting (s : State) (j p : Nat) : Bool := s.control.waits.any fun w => w.item = .positionSend j p

/-- The pending frames a send of row `j` waits for: those that write the row or the generation record; one called for after
completion has run does not wait on the CLOSE_END frame, but still on a CLOSE_BEGIN that is not stored, as in a close that
completes at its beginning (R101). -/
def sendFrames (j : Nat) (s : State) : List Nat :=
  let completed := (s.positions.view.map (·.completed)).getD false
  unstored (fun f => writesRow (closingSide s) j f || (writesGen f && !(completed && f.format = .closeEnd))) s

/-- A send called for is joined to the one that waits for its row: the one frame waits for the frames of both calls, so that
it carries no figure or flag that is not stored (R101). -/
def joinSend (j p : Nat) (frames : List Nat) (w : Wait) : Wait :=
  if w.item = .positionSend j p then { w with frames := w.frames ++ frames.filter fun n => !w.frames.contains n } else w

/-- Calls for a send of row `j`: joined to one that waits; else it waits for the pending frames of `sendFrames`; with none it
is placed (R101, R164). -/
def callSend (j : Nat) (s : State) : State :=
  let p := closingPeriod s
  if sendWaiting s j p then
    { s with control := { s.control with waits := s.control.waits.map (joinSend j p (sendFrames j s)) } }
  else
    match sendFrames j s with
    | [] => placePosition j p s
    | ns => addWait ns (.positionSend j p) s

/-- Calls for a send of row `j` if the roster shows station `j` PRESENT (R100). -/
def callSendPresent (j : Nat) (s : State) : State := if rosterPresent s j then callSend j s else s

/-- Posts a notice once the given frames are stored, at once when there is none (R104, R164). -/
def postAfter (frames : List Nat) (n : NoticeRec) (s : State) : State :=
  match frames with
  | [] => post n.kind n.subject n.code s
  | ns => addWait ns (.notice n) s

/-- The ROW_DISPUTED notice of row `j` (R104, R176). -/
def disputedNotice (s : State) (j : Nat) : NoticeRec := ⟨.rowDisputed, .number j, closingPeriod s⟩

/-! ### A row becoming final (R100) -/

/-- Row `j` leaves PENDING as its own side becomes final (R100). -/
def leavePending (j : Nat) (s : State) : State :=
  let r := closingRow s j
  match r.mirror with
  | some m =>
    if figuresAgree r.fig m then callSendPresent j (setCloseRow j ⟨.confirmed, true⟩ s)
    else
      let s1 := setCloseRow j ⟨.disputed, true⟩ s
      callSendPresent j (postAfter (unstored (writesRow (closingSide s) j) s) (disputedNotice s j) s1)
  | none =>
    if r.fig = .zero ∧ !rosterPresent s j then setCloseRow j ⟨.empty, true⟩ s
    else callSendPresent j (setCloseRow j ⟨.awaiting, true⟩ s)

/-- Examines the finality of row `j` of a close whose completion has not run (R99, R100). -/
def examineRow (j : Nat) (s : State) : State :=
  match s.positions.view with
  | none => s
  | some v =>
    if v.completed then s
    else if j = ownStation s then
      if ownRowFinal s (closingPeriod s) then setView { v with ownFinal := true } s else s
    else
      let c := closeRow v j
      if c.final then s
      else if ownSideFinal s (closingPeriod s) j then
        match c.state with
        | .pending => leavePending j s
        | st => setCloseRow j ⟨st, true⟩ s
      else s

/-- Examines every row (R97, R112), in rising order of station; the order, and with it that of the ROW_DISPUTED notices of
several rows, is the model's choice (R177 gives none; DESIGN CHOICE, log entry 42). -/
def examineRows (s : State) : State := ((List.range 63).map (· + 1)).foldl (fun s j => examineRow j s) s

/-! ### The clearing computation (R114 to R121) -/

/-- A row's net (R115). -/
def rowNet (f : Figures) : Int := (f.ra : Int) + f.ti + f.fi - f.ta - f.fa - f.ri

/-- The fee basis from the sums of redemptions and refunds (R116). -/
def feeBasis (redemptions refunds : Nat) : Nat := redemptions - refunds

/-- The percentage fee: basis times rate over 10,000, halves to the even neighbour (R118). -/
def percentageFee (basis rate : Nat) : Nat :=
  let q := basis * rate / 10000
  let r := basis * rate % 10000
  if r < 5000 then q else if r = 5000 then (if q % 2 = 0 then q else q + 1) else q + 1

/-- The fee (R119). -/
def feeOf (basis rate count fixedFee : Nat) : Nat := min (percentageFee basis rate + count * fixedFee) basis

/-- The sum of a figure over the counterpart rows of the closing generation (R116, R117). -/
def sumRows (s : State) (f : Row → Nat) : Nat := ((counterparts s).map fun j => f (closingRow s j)).sum

/-- The sum of the nets of the rows whose state passes a test (R120). -/
def sumNets (s : State) (v : CloseView) (p : RowState → Bool) : Int :=
  (((counterparts s).filter fun j => p (closeRow v j).state).map fun j => rowNet (closingRow s j).fig).sum

/-- How many counterpart rows have a state (R123). -/
def countRows (s : State) (v : CloseView) (st : RowState) : Nat :=
  ((counterparts s).filter fun j => (closeRow v j).state = st).length

/-- The orphan tracker entries of the closing period (R122). -/
def orphansOf (s : State) : List Track :=
  (s.tracker.entries.filter fun p =>
    p.2.orphan.isSome && !trackFree (lastClosed s) p.2 && p.2.data.period = closingPeriod s).map (·.2)

/-- Places an entry in rising order of home, then of request number (R122). -/
def insertOrphan (t : Track) : List Track → List Track
  | [] => [t]
  | u :: us =>
    if t.data.home < u.data.home ∨ (t.data.home = u.data.home ∧ t.data.reqNo ≤ u.data.reqNo) then t :: u :: us
    else u :: insertOrphan t us

/-- Orphan entries in the order of the statement run (R122). -/
def sortOrphans (ts : List Track) : List Track := ts.foldr insertOrphan []

/-- The request kind of a stored entry (R125, R176). -/
def orphanKind : TrackKind → OrphanKind
  | .credit .topup => .topup
  | .credit .refund => .refund
  | _ => .capture

/-- An orphan exception entry's body; the last state is the one the entry had when it was made orphan (R125). -/
def orphanBody (t : Track) : JournalBody :=
  .orphan ⟨t.data.home, orphanKind t.data.kind, t.data.reqNo, cardId t.data.home t.data.serial, t.data.amount,
    t.data.tag, t.orphan.getD t.data.state⟩

/-- A row exception entry's body (R124). -/
def exceptionBody (s : State) (v : CloseView) (j : Nat) : JournalBody :=
  let r := closingRow s j
  let c := closeRow v j
  .row ⟨j, c.state, c.final, r.fig, rowNet r.fig, r.mirror⟩

/-- The rows a statement lists: DISPUTED and SILENT, in rising order of station (R122). -/
def exceptionRows (s : State) (v : CloseView) : List Nat :=
  (counterparts s).filter fun j => (closeRow v j).state = .disputed || (closeRow v j).state = .silent

/-- The orphans a statement lists: those the places left have room for (R122). -/
def listedOrphans (s : State) (v : CloseView) : List Track :=
  (sortOrphans (orphansOf s)).take (runLimit - (1 + (exceptionRows s v).length))

/-- The head entry (R123). -/
def statementHead (s : State) (v : CloseView) : StatementHead :=
  let own := (closingRow s (ownStation s)).own
  let rate := (s.conf.map (·.feeRate)).getD 0
  let fixedFee := (s.conf.map (·.fixedFee)).getD 0
  let basis := feeBasis (sumRows s (·.fig.ra) + own.ro) (sumRows s (·.fig.fa) + own.fo)
  let count := sumRows s (·.ka) + own.ko
  let fee := feeOf basis rate count fixedFee
  { payout := sumNets s v (fun st => st = .confirmed) - fee
    fee := fee
    basis := basis
    count := count
    withheld := sumNets s v (fun st => st = .disputed || st = .silent)
    confirmed := countRows s v .confirmed
    disputed := countRows s v .disputed
    empty := countRows s v .empty
    silent := countRows s v .silent
    orphans := (orphansOf s).length
    listed := (listedOrphans s v).length
    ro := own.ro
    tO := own.tO
    fo := own.fo
    liability := s.custody.liability
    feeRate := rate
    fixedFee := fixedFee }

/-- The statement run: head, row exceptions, orphan exceptions (R122). -/
def statementRun (s : State) (v : CloseView) : List Draft :=
  ⟨.statement, closingPeriod s, .head (statementHead s v)⟩
    :: (exceptionRows s v).map (fun j => ⟨.statementException, closingPeriod s, exceptionBody s v j⟩)
    ++ (listedOrphans s v).map fun t => ⟨.statementException, closingPeriod s, orphanBody t⟩

/-! ### Close completion (R109, R110) -/

/-- The conditions of close completion (R109). -/
def canComplete (s : State) (v : CloseView) : Bool :=
  s.station = .trading && s.positions.gen.closing && !v.completed
    && (counterparts s).all (fun j => rowSettled (closeRow v j).state) && v.ownFinal
    && !tabAny (fun g => grantOpen g && !grantFree (lastClosed s) g && g.period = closingPeriod s) s.requests.grants
    && frameFree s

/-- Completion runs: the deadline stops, the statement run is claimed and a CLOSE_END frame queued with the run and the new
generation record, which the working copy takes only when the frame is stored (R110). -/
def runCompletion (s : State) (v : CloseView) : State :=
  let p := closingPeriod s
  let c := claim (statementRun s v) s
  let entries := c.1.map (·.2)
  setView { v with deadline := none, completed := true }
    (acceptFrame .closeEnd
      [.journal entries, .generation { s.positions.gen with closing := false, lastClosed := p }]
      (c.1.map (·.1))
      (.notice ⟨.closeDone, .number p, (entries.head?.map (·.index)).getD 0⟩) c.2)

/-- Close completion is examined (R109). -/
def examineCompletion (s : State) : State :=
  match s.positions.view with
  | some v => if canComplete s v then runCompletion s v else s
  | none => s

/-- Something of row `j` has changed: its finality is examined, and then close completion (R99, R109). -/
def reexamine (j : Nat) (s : State) : State := examineCompletion (examineRow j s)

/-- Roster entry `j` became ABSENT or HALTED: an AWAITING row with all six figures zero becomes EMPTY (R105). -/
def rosterDown (j : Nat) (s : State) : State :=
  match s.positions.view with
  | some v =>
    if s.station = .trading ∧ !v.completed ∧ (closeRow v j).state = .awaiting ∧ (closingRow s j).fig = .zero then
      examineCompletion (setCloseRow j ⟨.empty, (closeRow v j).final⟩ s)
    else s
  | none => s

/-! ### Close begin (R96, R97) -/

/-- The conditions of close begin (R96). -/
def canBegin (s : State) : Bool :=
  s.station = .trading && !s.positions.gen.closing && openPeriod s ≤ s.positions.target && openPeriod s < maxPeriod
    && !insideReserve s && frameFree s

/-- The close deadline as set by the close limit in force (R106). -/
def fullDeadline (s : State) : Option Nat := s.conf.map fun c => c.closeLimit * second

/-- A close of the open period begins (R97): the other slot becomes the open generation of the next period, the former one
the closing generation; every row is PENDING, the deadline starts, a CLOSE_BEGIN frame is queued, and every row's finality is
examined. -/
def beginClose (s : State) : State :=
  let p := openPeriod s
  let gen : GenRec := { s.positions.gen with openSide := otherSide s.positions.gen.openSide, openPeriod := p + 1, closing := true }
  let s1 := { s with
    positions := { s.positions with gen := gen, view := some ⟨[], false, fullDeadline s, false⟩ } }
  examineCompletion (examineRows
    (acceptFrame .closeBegin [.generation gen] [] (.notice ⟨.closeBegun, .number p, 0⟩) s1))

/-- Close begin is examined (R96). -/
def examineBegin (s : State) : State := if canBegin s then beginClose s else s

/-- A raise of the close target: taken when above the target held, it offers a PRESENCE and examines close begin (R94). -/
def raiseTarget (t : Nat) (s : State) : State :=
  if s.station = .trading ∧ s.positions.target < t then
    examineBegin (offerPresence { s with positions := { s.positions with target := t } })
  else s

/-- The raise of R57 for a frame whose extended stamp is above the open period. Near the last period the extended stamp less
one can pass 16,777,215, the end of the target's range in R94; the spec says nothing of that raise, and the model takes it as
it is (DESIGN CHOICE, log entry 43). -/
def raiseByStamp (ext : Int) (s : State) : State :=
  if (openPeriod s : Int) < ext then raiseTarget (ext - 1).toNat s else s

end Sys2Proof.Machine
end

