-- ==== Sys2Proof/Machine/SlotOps.lean ====
section
/-! DEFINITION. Till slots and the request tracker: slots entering HELD and OUTCOME (R65), request numbers and the counter step
(R67, R166), new tracker entries (R67), the end of an entry (R65, R70), the move to IN_DOUBT (R71). -/

namespace Sys2Proof.Machine

/-! ### Till slots -/

/-- A till slot; none when FREE (R64). -/
def getSlot (s : State) (n : Nat) : Option Slot := tabGet s.slots n

/-- Rewrites a till slot. -/
def putSlot (n : Nat) (sl : Slot) (s : State) : State := { s with slots := tabPut s.slots n sl }

/-- Makes a till slot FREE (R64). -/
def freeSlot (n : Nat) (s : State) : State := { s with slots := tabDel s.slots n }

/-- The hold life in force, in milliseconds (R169). -/
def holdLifeMs (s : State) : Nat := (s.conf.map (·.holdLife)).getD 0 * second

/-- The card ceiling in force (R169). -/
def ceiling (s : State) : Nat := (s.conf.map (·.ceiling)).getD 0

/-- A slot of new work (R65). -/
def newSlot (st : SlotState) (op : Operation) (card : CardId) (amount : Nat) (tillRef : Option Nat) : Slot :=
  ⟨st, op, card, amount, false, tillRef, none, none, none, none⟩

/-- An outcome record with a code and a card, and nothing else (R64; log entry 18). -/
def outcomeOf (code : OutcomeCode) (card : CardId) : OutcomeRec := ⟨code, 0, card, none, none, none, 0⟩

/-- A DECLINED outcome. -/
def declinedOutcome (card : CardId) (r : Option Reason) : OutcomeRec := { outcomeOf .declined card with reason := r }

/-- A STATUS outcome (R17, R82). -/
def statusOutcome (card : CardId) (v : CardView) (available held : Nat) : OutcomeRec :=
  { outcomeOf .status card with availableAfter := some available, view := some v, held := held }

/-- The slot notice (R65, R176). -/
def postSlot (n : Nat) (o : OutcomeRec) (s : State) : State := post .slotOutcome (.number n) (outcomeCode o.code) s

/-- The slot is HELD or SETTLING. -/
def onHold (sl : Slot) : Bool := sl.state = .held || sl.state = .settling

/-- A slot that is left is handed to the clearing unit if it was HELD or SETTLING (R65). -/
def slotLeft (sl : Slot) (s : State) : State := if onHold sl then reexamine sl.card.ss s else s

/-- A slot's OUTCOME record is written, its timer stops, its link ends, and the notice is posted (R65). -/
def writeOutcome (n : Nat) (sl : Slot) (o : OutcomeRec) (s : State) : State :=
  postSlot n o (putSlot n { sl with state := .outcome, timer := none, link := none, outcome := some o } s)

/-- A slot enters OUTCOME, and the clearing unit is told when it leaves HELD or SETTLING (R65). SLOT_OUTCOME is posted before
the ROW_DISPUTED that this may bring, an order R177 leaves open (DESIGN CHOICE, log entry 54). -/
def setOutcome (n : Nat) (o : OutcomeRec) (s : State) : State :=
  match getSlot s n with
  | some sl => slotLeft sl (writeOutcome n sl o s)
  | none => s

/-- A slot enters HELD on a hold, its timer at the hold life (R31, R75). -/
def enterHeld (n : Nat) (h : HoldRef) (o : OutcomeRec) (s : State) : State :=
  match getSlot s n with
  | some sl =>
    postSlot n o (putSlot n { sl with state := .held, hold := some h, timer := some (holdLifeMs s), link := none,
                                      outcome := some o } s)
  | none => s

/-- Cuts a slot's tracker link. -/
def cutLink (slot : Option Nat) (s : State) : State :=
  match slot with
  | some n =>
    match getSlot s n with
    | some sl => putSlot n { sl with link := none } s
    | none => s
  | none => s

/-- Sets the outcome of a linked slot; nothing when no slot is linked. -/
def linkedOutcome (slot : Option Nat) (f : Slot → OutcomeRec) (s : State) : State :=
  match slot with
  | some n =>
    match getSlot s n with
    | some sl => setOutcome n (f sl) s
    | none => s
  | none => s

/-! ### Request numbers (R67, R166) -/

/-- The working request high-water mark (R166). -/
def highWater (s : State) : Nat := (s.ident.map (·.highWater)).getD 0

/-- A number is held by an entry that is not free (R67). -/
def numberHeld (s : State) (n : Nat) : Bool :=
  tabAny (fun t => t.data.reqNo = n && !trackFree (lastClosed s) t) s.tracker.entries

/-- The number the counter gives next, held ones passed over, and whether the counter moves past the mark on its way (R166).
-/
def scanNumber (held : Nat → Bool) (mark : Nat) : Nat → Nat → Bool → Nat × Bool
  | 0, c, past => (cycleNext maxReqNo c, past || c = mark)
  | fuel + 1, c, past =>
    let n := cycleNext maxReqNo c
    if held n then scanNumber held mark fuel n (past || c = mark) else (n, past || c = mark)

/-- The next request number, and whether it needs a counter step (R67, R166). -/
def nextNumber (s : State) : Nat × Bool :=
  scanNumber (numberHeld s) (highWater s) s.tracker.entries.length s.tracker.counter false

/-- The mark one step on: 256 more, counting on from 1 after 65,535 (R166). -/
def stepMark (m : Nat) : Nat := (m + (counterStepSize - 1)) % maxReqNo + 1

/-- A COUNTER_STEP frame is accepted and the working mark raised (R166). -/
def takeStep (s : State) : State :=
  match s.ident with
  | some i =>
    let i1 : Identity := { i with highWater := stepMark i.highWater }
    acceptFrame .counterStep [.identity i1] [] .none { s with ident := some i1 }
  | none => s

/-- A number can be given now beside `extra` further frames: a needed step has its frame slot (R166). -/
def numberReady (extra : Nat) (s : State) : Bool :=
  (if (nextNumber s).2 then extra + 1 else extra) ≤ framesFree s

/-- Gives a request number, with its counter step when it needs one (R166). -/
def giveNumber (s : State) : Nat × State :=
  let r := nextNumber s
  let s1 := if r.2 then takeStep s else s
  (r.1, { s1 with tracker := { s1.tracker with counter := r.1 } })

/-- A number is covered by the step to a mark: one of the 256 numbers that end at it (R166). -/
def coveredBy (mark n : Nat) : Bool := (mark + maxReqNo - n) % maxReqNo < counterStepSize

/-- A frame is the COUNTER_STEP frame that covers a number (R166). -/
def coversNumber (n : Nat) (f : Frame) : Bool :=
  f.format = .counterStep && f.writeBacks.any fun w => match w.target with
    | .identity i => coveredBy i.highWater n
    | _ => false

/-! ### New entries (R67) -/

/-- The lowest tracker place that is free (log entry 9). -/
def freeTrackPlace (s : State) : Nat := tabFirstFree (trackFree (lastClosed s)) s.tracker.entries 0

/-- A new tracker entry (R67). -/
def newTrack (d : TrackRec) (slot : Option Nat) (allowPartial : Bool) : Track :=
  ⟨d, 0, none, slot, false, none, false, allowPartial⟩

/-- Offers an entry's request frame, or waits for the COUNTER_STEP frame that covers its number (R67, R166). -/
def offerOrWait (home n : Nat) (s : State) : State :=
  match unstored (coversNumber n) s with
  | [] => offerRequestOf home n s
  | ns => addWait ns (.request home n) s

/-- Writes the link of an entry into its slot (R64). -/
def setLink (slot : Option Nat) (home n : Nat) (s : State) : State :=
  match slot with
  | some k =>
    match getSlot s k with
    | some sl => putSlot k { sl with link := some (home, n) } s
    | none => s
  | none => s

/-- Makes a volatile entry at a tracker place, and offers its frame (R67). `d` gets the number the counter gives. -/
def startVolatile (place : Nat) (d : TrackRec) (slot : Option Nat) (allowPartial : Bool) (s : State) : State :=
  let g := giveNumber s
  offerOrWait d.home g.1
    (setLink slot d.home g.1 (putTrack place (newTrack { d with reqNo := g.1 } slot allowPartial) g.2))

/-- Makes a stored entry at a tracker place and queues its TRACKER_STORE frame, whose continuation is the request (R67). -/
def startStored (place : Nat) (d : TrackRec) (slot : Option Nat) (s : State) : State :=
  let g := giveNumber s
  let t := newTrack { d with reqNo := g.1 } slot false
  acceptFrame .trackerStore [.tracker place (some t.data)] []
    (.request d.home g.1 (stampOf d.period) (requestPayload t))
    (setLink slot d.home g.1 (putTrack place t g.2))

/-! ### The end of an entry -/

/-- An entry is stored by its kind (R66). -/
def isStoredKind : TrackKind → Bool
  | .capture | .credit _ => true
  | .hold | .release | .status _ => false

/-- An entry is dropped or freed in the working copy; the clearing unit re-examines the home's row (R65). -/
def dropTrack (place : Nat) (t : Track) (s : State) : State := reexamine t.data.home (delTrack place s)

/-- What a frame that ends a stored entry announces: the slot outcome when a slot is linked, else a RESOLVED notice (R70). -/
def resolution (t : Track) (s : State) (f : CardId → OutcomeRec) : Continuation :=
  let card := cardId t.data.home t.data.serial
  match t.slot with
  | some n => .slotOutcome n (some t.data.reqNo) none (f (((getSlot s n).map (·.card)).getD card))
  | none => .notice ⟨.resolved, .work (some t.data.reqNo) card, outcomeCode (f card).code⟩

/-- A SENT CAPTURE or CREDIT_REQ entry is made IN_DOUBT: its TRACKER_STORE frame is queued and its slot link cut; with the
frame area full the move waits (R71, R86). -/
def moveInDoubt (place : Nat) (t : Track) (s : State) : State :=
  if frameFree s then
    let d : TrackRec := { t.data with state := .inDoubt }
    let cont := match t.slot with
      | some _ => resolution t s (outcomeOf .inDoubt)
      | none => .none
    acceptFrame .trackerStore [.tracker place (some d)] [] cont
      (cutLink t.slot (putTrack place { t with data := d, timer := none, slot := none, moveWaiting := false } s))
  else putTrack place { t with timer := none, moveWaiting := true } s

/-! ### Waits (R164) -/

/-- The item a wait held back is offered or set (R164). -/
def releaseItem (item : HeldItem) (s : State) : State :=
  match item with
  | .answer dst reqNo p => offerAnswer dst reqNo p s
  | .slotOutcome n o => setOutcome n o s
  | .request home reqNo => offerRequestOf home reqNo s
  | .positionSend j p => placePosition j p s
  | .notice n => post n.kind n.subject n.code s

/-- Frame `n` no longer holds a wait back. -/
def shorten (n : Nat) (w : Wait) : Wait := { w with frames := w.frames.filter fun k => k ≠ n }

/-- Frame `n` has been stored: every wait whose last frame it was is released (R164). Several released by one frame go out in
the order the waits were made; R164 states no order, and this one is the model's choice (DESIGN CHOICE, log entry 45). -/
def releaseWaits (n : Nat) (s : State) : State :=
  let ws := s.control.waits.map (shorten n)
  (ws.filter fun w => w.frames.isEmpty).foldl (fun s w => releaseItem w.item s)
    { s with control := { s.control with waits := ws.filter fun w => !w.frames.isEmpty } }

/-- Sends an answer once the given frames are stored, at once when there is none (R14, R17, R27, R32). -/
def answerAfter (frames : List Nat) (dst reqNo : Nat) (p : Payload) (s : State) : State :=
  match frames with
  | [] => offerAnswer dst reqNo p s
  | ns => addWait ns (.answer dst reqNo p) s

/-- Sets a slot's outcome once the given frames are stored, at once when there is none (R17, R36, R37). -/
def outcomeAfter (frames : List Nat) (n : Nat) (o : OutcomeRec) (s : State) : State :=
  match frames with
  | [] => setOutcome n o s
  | ns => addWait ns (.slotOutcome n o) s

end Sys2Proof.Machine
end

