-- ==== Sys2Proof/Machine/HomeOps.lean ====
section
/-! DEFINITION. The home's decisions over its own cards: lookups (R3, R5, R24), hold checks and grants (R25 to R31), capture,
release and expiry (R32 to R38), credits (R12 to R16), enquiry and freezing (R17 to R19). -/

namespace Sys2Proof.Machine

/-! ### Lookups -/

/-- The card record of a serial, with its custody place; a retired record is not found (R3, R5). -/
def findCard (s : State) (serial : Nat) : Option (Nat × Card) :=
  tabFind (fun c => c.serial = serial && !cardRetired (lastClosed s) c) s.custody.cards

/-- The card is locked (R7). -/
def cardLocked (s : State) (serial : Nat) : Bool :=
  tabAny (fun l => l.active && l.low ≤ serial && serial ≤ l.high) s.custody.locks

/-- The card is frozen for decisions (R9). -/
def cardFrozen (s : State) (c : Card) : Bool := c.state = .frozen || cardLocked s c.serial

/-- Rewrites a card record. -/
def putCard (place : Nat) (c : Card) (s : State) : State :=
  { s with custody := { s.custody with cards := tabPut s.custody.cards place c } }

/-- Raises the liability (R6). -/
def raiseLiability (a : Nat) (s : State) : State :=
  { s with custody := { s.custody with liability := s.custody.liability + a } }

/-- Lowers the liability (R6). -/
def lowerLiability (a : Nat) (s : State) : State :=
  { s with custody := { s.custody with liability := s.custody.liability - a } }

/-- Rewrites a request-table entry. -/
def putGrant (place : Nat) (g : Grant) (s : State) : State :=
  { s with requests := { s.requests with grants := tabPut s.requests.grants place g } }

/-- The lowest free place of the request table (log entry 9). -/
def freeGrantPlace (s : State) : Nat := tabFirstFree (grantFree (lastClosed s)) s.requests.grants 0

/-- The lowest free custody place (log entry 9). -/
def freeCardPlace (s : State) : Nat := tabFirstFree (cardRetired (lastClosed s)) s.custody.cards 0

/-- The HOLD entry with a tag, among the entries that are not free (R24). -/
def findHold (s : State) (tag : Nat) : Option (Nat × Grant) :=
  tabFind (fun g => grantTag g = some tag && !grantFree (lastClosed s) g) s.requests.grants

/-- The HOLD entry a settlement names: tag, requester, serial and period all agree (R24). -/
def findSettled (s : State) (requester tag serial : Nat) (period : Int) : Option (Nat × Grant) :=
  match findHold s tag with
  | some (p, g) => if g.requester = requester ∧ g.serial = serial ∧ (g.period : Int) = period then some (p, g) else none
  | none => none

/-- The HOLD entry a HOLD_REQ repeats (R24). -/
def findHoldRepeat (s : State) (requester reqNo serial : Nat) : Option (Nat × Grant) :=
  tabFind (fun g => (grantTag g).isSome && g.requester = requester && g.reqNo = some reqNo && g.serial = serial
    && g.period = openPeriod s && !grantFree (lastClosed s) g) s.requests.grants

/-- The CREDIT entry a CREDIT_REQ repeats (R14, R24). -/
def findCreditRepeat (s : State) (requester reqNo serial : Nat) (kind : CreditKind) (amount : Nat) :
    Option (Nat × Grant) :=
  tabFind (fun g => g.body = .credit kind amount && g.requester = requester && g.reqNo = some reqNo
    && g.serial = serial && g.period = openPeriod s && !grantFree (lastClosed s) g) s.requests.grants

/-- Row `j` of the open generation (R91). -/
def openRow (s : State) (j : Nat) : Row := readRow s s.positions.gen.openSide (openPeriod s) j

/-! ### Grants -/

/-- A tag belongs to an entry that is not free (R25). -/
def tagHeld (s : State) (t : Nat) : Bool :=
  tabAny (fun g => grantTag g = some t && !grantFree (lastClosed s) g) s.requests.grants

/-- The tag after `c`, those held passed over (R25). -/
def scanTag (held : Nat → Bool) : Nat → Nat → Nat
  | 0, c => cycleNext maxTag c
  | fuel + 1, c => if held (cycleNext maxTag c) then scanTag held fuel (cycleNext maxTag c) else cycleNext maxTag c

/-- The tag of the next grant (R25). -/
def freshTag (s : State) : Nat :=
  scanTag (tagHeld s) s.requests.grants.length ((s.ident.map (·.tagCounter)).getD 0)

/-- The sum of g over OPEN holds of the open period from a requester (R28, R31). -/
def openHeld (s : State) (requester : Nat) : Nat :=
  tabSum (fun g => if grantOpen g && !grantFree (lastClosed s) g && g.period = openPeriod s && g.requester = requester
    then grantAmount g else 0) s.requests.grants

/-- The figure a capture for a requester books into: RO of the own row, RI of any other (R28, R31). -/
def captureFigure (s : State) (requester : Nat) : Nat :=
  let r := openRow s requester
  if requester = ownStation s then r.own.ro else r.fig.ri

/-- The checks of a new hold, in order, with the reason of the first that fails (R28, R31). -/
def holdChecks (s : State) (requester serial amount : Nat) : List (Bool × Reason) :=
  let card := findCard s serial
  [(card.isSome, .unknownCard),
   (card.all fun c => !cardFrozen s c.2, .frozen),
   (grantCount s < grantPlaces && openHolds s < openHoldLimit && (card.all fun c => c.2.openHolds < cardHoldLimit)
      && !insideReserve s && frameFree s, .busy),
   (captureFigure s requester + openHeld s requester + amount ≤ figureLimit, .limit)]

/-- The amount of a hold that passes the checks, and its outcome; none is INSUFFICIENT (R29). -/
def holdAmount (available amount : Nat) (allowPartial : Bool) : Option (HoldAnswer × Nat) :=
  if amount ≤ available then some (.granted, amount)
  else if allowPartial && 1 ≤ available then some (.partially, available)
  else none

/-- A card after a grant of g (R30). -/
def cardGranted (period g : Nat) (c : Card) : Card :=
  { c with available := c.available - g, held := c.held + g, openHolds := c.openHolds + 1, lastActivity := period }

/-- A hold takes effect: card, entry, tag and life in the working copy, and the HOLD_GRANT frame with the continuation that
the tag gives (R25, R30). -/
def grantHold (requester : Nat) (reqNo : Option Nat) (place : Nat) (card : Card) (g : Nat) (cont : Nat → Continuation)
    (s : State) : State :=
  match s.ident with
  | none => s
  | some i =>
    let tag := freshTag s
    let i1 : Identity := { i with tagCounter := tag }
    let c1 := cardGranted (openPeriod s) g card
    let gp := freeGrantPlace s
    let entry : Grant := ⟨requester, reqNo, card.serial, openPeriod s, .hold tag g .isOpen⟩
    let s1 := putGrant gp entry (putCard place c1 { s with ident := some i1 })
    let s2 := { s1 with requests := { s1.requests with lives := tabPut s1.requests.lives tag (holdLifeMs s) } }
    acceptFrame .holdGrant [.card place c1, .grant gp entry, .identity i1] [] (cont tag) s2

/-! ### Settlement and expiry -/

/-- A card after a hold of g has ended with `back` returned to available (R33, R35, R38). -/
def cardEnded (period g back : Nat) (c : Card) : Card :=
  { c with available := c.available + back, held := c.held - g, openHolds := c.openHolds - 1, lastActivity := period }

/-- A request-table entry with the hold in another state (R22). -/
def withHoldState (g : Grant) (st : HoldState) : Grant :=
  match g.body with
  | .hold t a _ => { g with body := .hold t a st }
  | .credit _ _ => g

/-- The OPEN entry at a place ends: card and entry in the working copy, its life and its waiting release dropped. The state
after, and the two write-backs (R33, R35, R38; log entry 28 for a card that is missing). -/
def endHold (place : Nat) (g : Grant) (st : HoldState) (back : Nat) (s : State) : State × List Target :=
  let tag := (grantTag g).getD 0
  let g1 := withHoldState g st
  let s1 := putGrant place g1 s
  let s2 := { s1 with requests := { s1.requests with
    lives := tabDel s1.requests.lives tag
    deferred := s1.requests.deferred.filter fun t => t ≠ tag
    lapsing := s1.requests.lapsing.filter fun t => t ≠ tag } }
  match findCard s g.serial with
  | some (cp, c) =>
    let c1 := cardEnded (openPeriod s) (grantAmount g) back c
    (putCard cp c1 s2, [.card cp c1, .grant place g1])
  | none => (s2, [.grant place g1])

/-- The own card's identifier of a serial (R3). -/
def ownCard (s : State) (serial : Nat) : CardId := cardId (ownStation s) serial

/-- The booking of a capture of c at the home: RI of the requester's row, or RO and KO of the own row (R33, R36). -/
def captureBooking (own : Bool) (c : Nat) (r : Row) : Row :=
  if own then { r with own := { r.own with ro := r.own.ro + c, ko := r.own.ko + 1 } }
  else { r with fig := { r.fig with ri := r.fig.ri + c } }

/-- A capture of c from the OPEN entry at a place (R33, R36). -/
def captureHold (place : Nat) (g : Grant) (c : Nat) (own : Bool) (draft : Draft) (cont : Continuation) (s : State) :
    State :=
  let ended := endHold place g (.captured c) (grantAmount g - c) s
  let booked := book g.period g.requester (captureBooking own c) (lowerLiability c ended.1)
  let claimed := claim [draft] booked.1
  reexamine g.requester
    (acceptFrame .holdSettle (ended.2 ++ booked.2 ++ [.journal (claimed.1.map (·.2))]) (claimed.1.map (·.1)) cont
      claimed.2)

/-- A release of the OPEN entry at a place, its frame of two write-backs, the card record and the request entry (R35, R37; log
entry 49 for R160's write-backs marked not valid). -/
def releaseHold (place : Nat) (g : Grant) (cont : Continuation) (s : State) : State :=
  let ended := endHold place g .released (grantAmount g) s
  reexamine g.requester (acceptFrame .holdSettle ended.2 [] cont ended.1)

/-- The OPEN entry at a place expires: its records and its HOLD_EXPIRE frame (R38). -/
def expireEntry (place : Nat) (g : Grant) (s : State) : State :=
  let ended := endHold place g .expired (grantAmount g) s
  acceptFrame .holdExpire ended.2 [] .none ended.1

/-- The expiry of the OPEN entry at a place, handed to the clearing unit (R38). -/
def expireHold (place : Nat) (g : Grant) (s : State) : State := reexamine g.requester (expireEntry place g s)

/-! ### Credits -/

/-- The figure a credit books into: TO or FO of the own row, TI or FI of any other (R12, R15). -/
def creditFigure (s : State) (requester : Nat) (kind : CreditKind) : Nat :=
  let r := openRow s requester
  if requester = ownStation s then (match kind with | .topup => r.own.tO | .refund => r.own.fo)
  else (match kind with | .topup => r.fig.ti | .refund => r.fig.fi)

/-- A row after a credit granted by the home (R12, R16). -/
def creditBooking (own : Bool) (kind : CreditKind) (a : Nat) (r : Row) : Row :=
  match own, kind with
  | true, .topup => { r with own := { r.own with tO := r.own.tO + a } }
  | true, .refund => { r with own := { r.own with fo := r.own.fo + a } }
  | false, .topup => { r with fig := { r.fig with ti := r.fig.ti + a } }
  | false, .refund => { r with fig := { r.fig with fi := r.fig.fi + a } }

/-- The checks of a credit, in order, with the reason of the first that fails (R12, R15). An own credit has passed the port's
JOURNAL_FULL and STORE_BUSY checks, so BUSY speaks of the table alone for it. -/
def creditChecks (s : State) (requester serial : Nat) (kind : CreditKind) (amount : Nat) : List (Bool × Reason) :=
  let card := findCard s serial
  [(card.isSome, .unknownCard),
   (kind ≠ .topup || card.all fun c => !cardFrozen s c.2, .frozen),
   (card.all fun c => c.2.available + c.2.held + amount ≤ ceiling s, .overCeiling),
   (grantCount s < grantPlaces && !insideReserve s && frameFree s, .busy),
   (creditFigure s requester kind + amount ≤ figureLimit, .limit)]

/-- A card after a credit (R12, R16). -/
def cardCredited (period a : Nat) (c : Card) : Card :=
  { c with available := c.available + a, lastActivity := period }

/-- A credit takes effect: card, liability, entry and row in the working copy, and the CREDIT_APPLY frame (R12, R16). -/
def applyCredit (requester : Nat) (reqNo : Option Nat) (place : Nat) (card : Card) (kind : CreditKind) (amount : Nat)
    (draft : Draft) (cont : Continuation) (s : State) : State :=
  let c1 := cardCredited (openPeriod s) amount card
  let gp := freeGrantPlace s
  let entry : Grant := ⟨requester, reqNo, card.serial, openPeriod s, .credit kind amount⟩
  let booked := book (openPeriod s) requester (creditBooking (requester = ownStation s) kind amount)
    (raiseLiability amount (putGrant gp entry (putCard place c1 s)))
  let claimed := claim [draft] booked.1
  acceptFrame .creditApply ([.card place c1, .grant gp entry] ++ booked.2 ++ [.journal (claimed.1.map (·.2))])
    (claimed.1.map (·.1)) cont claimed.2

/-! ### Enquiry and freezing -/

/-- What an enquiry reports: state, available and held (R17). -/
def cardView (s : State) (serial : Nat) : CardView × Nat × Nat :=
  match findCard s serial with
  | none => (.unknown, 0, 0)
  | some (_, c) =>
    (if cardLocked s serial then .locked else match c.state with | .frozen => .frozen | .active => .active,
      c.available, c.held)

/-- The pending frames that write a card's record (R17). -/
def cardFrames (s : State) (serial : Nat) : List Nat :=
  match findCard s serial with
  | none => []
  | some (p, _) => unstored (writesCard p) s

/-- A change of a card's state with its journal entry (R18, R19). -/
def changeStatus (place : Nat) (card : Card) (draft : Draft) (cont : Continuation) (s : State) : State :=
  let claimed := claim [draft] (putCard place card s)
  acceptFrame .statusChange [.card place card, .journal (claimed.1.map (·.2))] (claimed.1.map (·.1)) cont claimed.2

/-- What the home decides for a FREEZE (R18). -/
inductive FreezeDecision where
  | report
  | busy
  | change (place : Nat) (card : Card)
  deriving DecidableEq, Repr

/-- The home's decision on a FREEZE; `gated` says that the journal reserve and the frame area are tested here, for a peer
(R18). -/
def freezeDecision (s : State) (serial : Nat) (gated : Bool) : FreezeDecision :=
  match findCard s serial with
  | none => .report
  | some (p, c) =>
    match c.state with
    | .frozen => .report
    | .active => if gated && (insideReserve s || !frameFree s) then .busy else .change p { c with state := .frozen }

end Sys2Proof.Machine
end

