-- ==== Sys2Proof/Machine/PortCommands.lean ====
section
/-! DEFINITION. The station's host commands: STATUS, START, CLOSE, ROSTER_READ, POSITION_READ, an opcode that names no command,
and the flag byte of STATUS clocked out (R93, R95, R169, R170, R182, R184, R187, R189). -/

namespace Sys2Proof.Machine

/-- The station is TRADING. -/
def isTrading (s : State) : Bool := s.station = .trading

/-- The till port has sampled PROTECT_N (R184). -/
def sampleProtect (level : Bool) (s : State) : State := { s with port := { s.port with protectN := level } }

/-- The select period under way stands on something further (R150, R180, R182). -/
def withSession (x : Session) (s : State) : State := { s with port := { s.port with session := x } }

/-- STATUS: the layout of R191, in every station state; its flag byte is still to be clocked out (R182, R187). -/
def execStatus (protectN : Bool) (s : State) : Host.Outcome State Fault Refusal :=
  hostCommand s fun s =>
    let s1 := sampleProtect protectN s
    withSession .statusFlag (accepted (statusReply s1) s1)

/-- NOTICES_LOST_CLEARED: the flag byte of the STATUS reply has been clocked out (R182). -/
def execNoticesLostCleared (s : State) : Host.Outcome State Fault Refusal :=
  answer
    (if s.station ≠ .held ∧ s.port.session = .statusFlag then
      withSession .none { s with notices := { s.notices with lost := false } }
    else s)

/-- The byte the part shifts out as byte `k` of a select period, counted from 0, in which the command taken is shifted in as
`n` bytes, its opcode and its arguments; `s` is the state once it has been taken. It is 0xFF while those bytes come in, then
the reply's bytes from the port status on, and 0xFF after the end of the reply for as long as the host clocks (R184). It is
none in reset, when MISO is not driven (R168), and past the record in `port.reply` of a CURSOR_READ reply, which has no end:
there the next record follows once it has been chosen (R148). -/
def misoByte (n : Nat) (s : State) (k : Nat) : Option Byte :=
  if s.station = .held then none
  else if k < n then some 0xFF
  else
    match s.port.reply[k - n]?, s.port.session with
    | some b, _ => some b
    | none, .cursor _ => none
    | none, .none | none, .statusFlag | none, .notice _ => some 0xFF

/-! ### START -/

/-- The arguments of START (R169). -/
structure StartArgs where
  station : Nat
  mall : Nat
  feeRate : Nat
  fixedFee : Nat
  ceiling : Nat
  holdLife : Nat
  closeLimit : Nat
  deriving DecidableEq, Repr

/-- Every argument lies in its range (R169). -/
def startRanges (a : StartArgs) : Bool :=
  1 ≤ a.station && a.station ≤ 63 && 1 ≤ a.mall && a.mall ≤ 65535 && a.feeRate ≤ 1000 && a.fixedFee ≤ 99
    && 100 ≤ a.ceiling && a.ceiling ≤ maxAmount

/-- The checks of START, in order (R167, R169). Retired records hold nothing, so every record is looked at. -/
def startChecks (a : StartArgs) (s : State) : List (Bool × PortStatus) :=
  [(s.station = .idle, .notTrading),
   (startRanges a, .badArgument),
   (s.ident.all fun i => i.station = a.station && i.mall = a.mall, .identity),
   (s.ident.isNone || !tabAny (fun c => a.ceiling < c.available + c.held) s.custody.cards, .badArgument)]

/-- The configuration as taken, hold life and close limit clamped (R169). -/
def startConf (a : StartArgs) : StartConf :=
  ⟨a.feeRate, a.fixedFee, a.ceiling, clamp 30 600 a.holdLife, clamp 60 3600 a.closeLimit⟩

/-- On a blank store the IDENTITY_WRITE frame is accepted first (R170). -/
def writeIdentity (a : StartArgs) (s : State) : State :=
  match s.ident with
  | some _ => s
  | none =>
    let i : Identity := ⟨a.station, a.mall, 0, 0, 0⟩
    acceptFrame .identityWrite [.identity i] [] .none { s with ident := some i }

/-- Whether a frame owed by recovery still has something to offer: an owed request of an entry that is gone or orphan has
nothing (R162). -/
def owedAlive (s : State) (c : Continuation) : Bool :=
  match c with
  | .answer .. => true
  | .request home n _ _ => (findTrack s home n).any fun p => p.2.orphan.isNone
  | .slotOutcome .. | .notice _ | .none => false

/-- Offers one frame owed by recovery to a queue that has room (R170). -/
def offerOwed (c : Continuation) (s : State) : State :=
  match c with
  | .answer dst n p => offerAnswer dst n p s
  | .request home n _ _ => offerRequestOf home n s
  | .slotOutcome .. | .notice _ | .none => s

/-- Places frames owed by recovery in order while the transmit queue has room; those left wait (R50, R170). -/
def placeOwed : List Continuation → State → State
  | [], s => { s with link := { s.link with owed := [] } }
  | c :: cs, s =>
    if !owedAlive s c then placeOwed cs s
    else if txRoom s then placeOwed cs (offerOwed c s)
    else { s with link := { s.link with owed := c :: cs } }

/-- The request of an entry is owed by recovery (R87). -/
def requestOwed (owed : List Continuation) (t : Track) : Bool :=
  owed.any fun c => match c with
    | .request home n _ _ => home = t.data.home && n = t.data.reqNo
    | _ => false

/-- Offers each kept SENT entry that recovery did not owe, once (R87, R170), in tracker-place order: step 3 of R170 gives no
order, and the model's decides which offers come first in the transmit queue and which a full queue refuses (DESIGN CHOICE,
log entry 44). -/
def offerKept (owed : List Continuation) (s : State) : State :=
  s.tracker.entries.foldl (fun s p =>
    if p.2.data.state = .sent && !trackFree (lastClosed s) p.2 && !requestOwed owed p.2 then offerRequest p.1 p.2 s
    else s) s

/-- Every OPEN hold's remaining life is set to the full hold life (R43). -/
def resetLives (s : State) : State :=
  { s with requests := { s.requests with
      lives := s.requests.grants.foldl (fun t p =>
        match grantTag p.2 with
        | some tag => if grantOpen p.2 && !grantFree (lastClosed s) p.2 then tabPut t tag (holdLifeMs s) else t
        | none => t) [] } }

/-- A closing generation is taken up again: full deadline, every row PENDING and examined (R112). -/
def resumeClose (s : State) : State :=
  if s.positions.gen.closing then
    examineCompletion (examineRows (setView ⟨[], false, fullDeadline s, false⟩ s))
  else s

/-- The effects of a START that passes its checks, in the order of R170. -/
def runStart (a : StartArgs) (s : State) : State :=
  let s1 := { writeIdentity a s with station := .trading, conf := some (startConf a) }
  let owed := s.link.owed
  examineBegin (resumeClose (resetLives (offerKept owed (placeOwed owed (offerPresence s1)))))

/-- START (R169, R170, R187). -/
def execStart (station mall feeRate fixedFee ceiling holdLife closeLimit : Nat) (s : State) :
    Host.Outcome State Fault Refusal :=
  let a : StartArgs := ⟨station, mall, feeRate, fixedFee, ceiling, holdLife, closeLimit⟩
  checkedCommand s (startChecks a s) fun s => accepted [] (runStart a s)

/-! ### CLOSE and the reads -/

/-- CLOSE: the target rises to the open period; refused with CLOSE_BUSY while a closing generation exists (R95). -/
def execClose (s : State) : Host.Outcome State Fault Refusal :=
  hostCommand s fun s =>
    if !isTrading s then refuse .notTrading s
    else if s.positions.gen.closing then refuse .closeBusy (raiseTarget (openPeriod s) s)
    else accepted [] (examineBegin (raiseTarget (openPeriod s) s))

/-- ROSTER_READ: the 63 entries as they stand, in every station state (R187). -/
def execRosterRead (s : State) : Host.Outcome State Fault Refusal :=
  hostCommand s fun s => accepted (rosterReply s) s

/-- The row state field of a POSITION_READ reply for the closing generation; 7 is FINAL (R93, R192). -/
def closingRowCode (s : State) (v : CloseView) (j : Nat) : Nat :=
  if j = ownStation s then (if v.ownFinal then 7 else 1) else rowStateCode (closeRow v j).state

/-- The reply of a POSITION_READ for the closing generation (R93). -/
def closingReply (s : State) (j : Nat) : List Byte :=
  match s.positions.view with
  | some v =>
    positionReply (closingPeriod s) (j = ownStation s) (closingRow s j) (closingRowCode s v j)
      (j ≠ ownStation s && (closeRow v j).final) v.deadline
  | none => positionReply (closingPeriod s) (j = ownStation s) (closingRow s j) 0 false none

/-- The reply of a POSITION_READ for the open generation: row state NONE, no deadline (R93; log entry 19). -/
def openReply (s : State) (j : Nat) : List Byte :=
  positionReply (openPeriod s) (j = ownStation s) (openRow s j) 0 false none

/-- POSITION_READ (R93, R189). -/
def execPositionRead (generation station : Nat) (s : State) : Host.Outcome State Fault Refusal :=
  checkedCommand s
    [(isTrading s, .notTrading), (generation ≤ 1, .badArgument), (1 ≤ station && station ≤ 63, .badArgument),
     (generation = 0 || s.positions.gen.closing, .badArgument)]
    fun s => accepted (if generation = 1 then closingReply s station else openReply s station) s

/-- BAD_COMMAND: an opcode that names no command is answered at its own byte (R184). -/
def execBadCommand (_opcode : Nat) (s : State) : Host.Outcome State Fault Refusal :=
  hostCommand s fun s => refuse .badCommand s

end Sys2Proof.Machine
end

