-- ==== Sys2Proof/Machine/CardCommands.lean ====
section
/-! DEFINITION. The card and slot commands of the till: own-card work decided at once (R8, R10 to R12, R17 to R19, R31, R36,
R37), foreign-card work handed to the tracker (R72 to R82), SLOT_READ and SLOT_FREE (R65, R84). -/

namespace Sys2Proof.Machine

/-! ### Checks the commands share -/

/-- The slot number names a till slot (R64). -/
def slotNamed (n : Nat) : Bool := n < slotCount

/-- The slot is FREE (R64). -/
def slotIsFree (s : State) (n : Nat) : Bool := (getSlot s n).isNone

/-- The checks of a command that starts work in a slot, up to the slot's state (R65, R72). -/
def newWorkChecks (s : State) (slot : Nat) : List (Bool × PortStatus) :=
  [(isTrading s, .notTrading), (slotNamed slot, .badArgument), (slotIsFree s slot, .slotState)]

/-- A transaction amount in its range (R72). -/
def amountInRange (a : Nat) : Bool := 1 ≤ a && a ≤ maxAmount

/-- The card is one of this station's own (R3, R72). -/
def isOwn (s : State) (c : CardId) : Bool := c.ss = ownStation s

/-- The tracker has a place (R72). -/
def trackerRoom (s : State) : Bool := trackCount s < trackerPlaces

/-- The home is heard and the tracker has a place (R72). -/
def homeChecks (s : State) (home : Nat) : List (Bool × PortStatus) :=
  [(rosterPresent s home, .homeAbsent), (trackerRoom s, .trackerFull)]

/-! ### The acquirer's LIMIT check (R73) -/

/-- An entry of the open period to a home, of a kind that passes a test (R73). -/
def outstanding (s : State) (home : Nat) (p : TrackKind → Bool) : Nat :=
  tabSum (fun t => if !trackFree (lastClosed s) t && t.data.home = home && t.data.period = openPeriod s && p t.data.kind
    then t.data.amount else 0) s.tracker.entries

/-- HOLD_REQ and CAPTURE entries (R73). -/
def isSpend (k : TrackKind) : Bool := k = .hold || k = .capture

/-- CREDIT_REQ entries of a kind (R73). -/
def isCredit (c : CreditKind) (k : TrackKind) : Bool := k = .credit c

/-- The g of each slot HELD on an open-period hold at a home (R73). -/
def heldAt (s : State) (home : Nat) : Nat :=
  tabSum (fun sl => match sl.hold with
    | some h => if sl.state = .held && sl.card.ss = home && h.period = openPeriod s then h.g else 0
    | none => 0) s.slots

/-- The LIMIT check of a foreign REDEEM (R73). -/
def redeemInLimit (s : State) (home amount : Nat) : Bool :=
  (openRow s home).fig.ra + outstanding s home isSpend + heldAt s home + amount ≤ figureLimit

/-- The LIMIT check of a foreign credit (R73). -/
def creditInLimit (s : State) (home : Nat) (kind : CreditKind) (amount : Nat) : Bool :=
  (match kind with | .topup => (openRow s home).fig.ta | .refund => (openRow s home).fig.fa)
    + outstanding s home (isCredit kind) + amount ≤ figureLimit

/-! ### Outcomes of own work -/

/-- An own card's available balance in the working copy, when it has a record (R64). -/
def availableOf (s : State) (serial : Nat) : Option Nat := (findCard s serial).map (·.2.available)

/-- An own-card outcome with the card's available balance as it stands (R64; log entry 18). -/
def ownOutcome (s : State) (code : OutcomeCode) (card : CardId) : OutcomeRec :=
  { outcomeOf code card with availableAfter := availableOf s card.serial }

/-- An own-card DECLINED outcome with its reason. -/
def ownDeclined (s : State) (card : CardId) (r : Reason) : OutcomeRec :=
  { ownOutcome s .declined card with reason := some r }

/-! ### ISSUE -/

/-- The checks of ISSUE, in order (R10). -/
def issueChecks (slot amount : Nat) (s : State) : List (Bool × PortStatus) :=
  newWorkChecks s slot ++
  [(1 ≤ amount && amount ≤ ceiling s, .badAmount),
   ((s.ident.map (·.serialCounter)).getD 0 < maxSerial, .serialsExhausted),
   (cardCount s < cardPlaces, .tableFull),
   ((openRow s (ownStation s)).own.tO + amount ≤ figureLimit, .limit),
   (!insideReserve s, .journalFull),
   (frameFree s, .storeBusy)]

/-- The effects of an ISSUE that passes its checks (R4, R11). -/
def runIssue (slot amount : Nat) (reloadable : Bool) (tillRef : Option Nat) (s : State) : State :=
  match s.ident with
  | none => s
  | some i =>
    let serial := i.serialCounter + 1
    let i1 : Identity := { i with serialCounter := serial }
    let id := cardId i.station serial
    let place := freeCardPlace s
    let c : Card := ⟨serial, .active, amount, 0, 0, reloadable, openPeriod s⟩
    let s1 := raiseLiability amount (putCard place c { s with ident := some i1 })
    let s2 := putSlot slot (newSlot .issuing .issue id amount tillRef) s1
    let booked := book (openPeriod s) i.station (creditBooking true .topup amount) s2
    let claimed := claim
      [⟨.issue, openPeriod s, .plain { card := some id, amount := some amount, tillRef := tillRef }⟩] booked.1
    acceptFrame .issue ([.card place c, .identity i1] ++ booked.2 ++ [.journal (claimed.1.map (·.2))])
      (claimed.1.map (·.1))
      (.slotOutcome slot none none
        { outcomeOf .issued id with amount := amount, availableAfter := some amount })
      claimed.2

/-- ISSUE (R10, R11). -/
def execIssue (slot amount : Nat) (reloadable : Bool) (tillRef : Option Nat) (s : State) :
    Host.Outcome State Fault Refusal :=
  checkedCommand s (issueChecks slot amount s) fun s => accepted [] (runIssue slot amount reloadable tillRef s)

/-! ### REDEEM -/

/-- The checks of REDEEM, in order (R31, R72, R166). -/
def redeemChecks (slot : Nat) (card : CardId) (amount : Nat) (s : State) : List (Bool × PortStatus) :=
  newWorkChecks s slot ++ [(cardValid card, .badCard), (amountInRange amount, .badAmount)] ++
  (if isOwn s card then [(!insideReserve s, .journalFull)]
   else homeChecks s card.ss ++
    [(!insideReserve s, .journalFull), (redeemInLimit s card.ss amount, .limit), (numberReady 0 s, .storeBusy)])

/-- The code of a grant's outcome (R31, R75). -/
def grantCode : HoldAnswer → OutcomeCode
  | .granted => .approved
  | .partially => .partially
  | .declined => .declined

/-- The home's decision on an own REDEEM whose slot is AUTHORISING (R31). -/
def decideOwnRedeem (slot : Nat) (card : CardId) (amount : Nat) (allowPartial : Bool) (s : State) : State :=
  match firstFail (holdChecks s (ownStation s) card.serial amount), findCard s card.serial with
  | some r, _ => setOutcome slot (ownDeclined s card r) s
  | none, none => setOutcome slot (ownDeclined s card .unknownCard) s
  | none, some (place, c) =>
    match holdAmount c.available amount allowPartial with
    | none => setOutcome slot (ownDeclined s card .insufficient) s
    | some (how, g) =>
      grantHold (ownStation s) none place c g
        (fun tag => .slotOutcome slot none (some ⟨tag, openPeriod s, g⟩)
          { outcomeOf (grantCode how) card with amount := g, availableAfter := some (c.available - g) }) s

/-- The effects of a REDEEM that passes its checks (R31, R74). -/
def runRedeem (slot : Nat) (card : CardId) (amount : Nat) (allowPartial : Bool) (tillRef : Option Nat) (s : State) :
    State :=
  let s1 := putSlot slot { newSlot .authorising .redeem card amount tillRef with allowPartial := allowPartial } s
  if isOwn s card then decideOwnRedeem slot card amount allowPartial s1
  else startVolatile (freeTrackPlace s) ⟨.hold, card.ss, 0, openPeriod s, card.serial, amount, none, .sent⟩ (some slot)
    allowPartial s1

/-- REDEEM (R31, R72, R74). -/
def execRedeem (slot : Nat) (card : CardId) (amount : Nat) (allowPartial : Bool) (tillRef : Option Nat) (s : State) :
    Host.Outcome State Fault Refusal :=
  checkedCommand s (redeemChecks slot card amount s) fun s =>
    accepted [] (runRedeem slot card amount allowPartial tillRef s)

/-! ### COMPLETE and CANCEL -/

/-- The slot, if it is HELD, with its hold. -/
def heldSlot (s : State) (n : Nat) : Option (Slot × HoldRef) :=
  match getSlot s n with
  | some sl => if sl.state = .held then sl.hold.map fun h => (sl, h) else none
  | none => none

/-- The checks COMPLETE and CANCEL share, up to the slot's state (R65, R72). -/
def heldChecks (s : State) (slot : Nat) : List (Bool × PortStatus) :=
  [(isTrading s, .notTrading), (slotNamed slot, .badArgument), ((heldSlot s slot).isSome, .slotState)]

/-- The slot stands on an own hold. -/
def heldOwn (s : State) (slot : Nat) : Bool := (heldSlot s slot).all fun p => isOwn s p.1.card

/-- The home of the hold a slot stands on. -/
def heldHome (s : State) (slot : Nat) : Nat := ((heldSlot s slot).map (·.1.card.ss)).getD 0

/-- The checks of COMPLETE, in order (R36, R72, R166). -/
def completeChecks (slot amount : Nat) (s : State) : List (Bool × PortStatus) :=
  heldChecks s slot ++ [(1 ≤ amount && (heldSlot s slot).all fun p => amount ≤ p.2.g, .badAmount)] ++
  (if heldOwn s slot then [(frameFree s, .storeBusy)]
   else homeChecks s (heldHome s slot) ++ [(frameFree s, .storeBusy), (numberReady 1 s, .storeBusy)])

/-- A HELD slot enters SETTLING: its timer stops and its outcome record ends (R65, R77, R79). -/
def settlingSlot (sl : Slot) (op : Operation) (amount : Nat) : Slot :=
  { sl with state := .settling, op := op, amount := amount, timer := none, outcome := none }

/-- A capture's clamped amount (R33). -/
def clampCapture (g asked : Nat) : Nat := if g < asked then g else asked

/-- The home's decision on a COMPLETE of an own hold (R36). -/
def completeOwn (slot : Nat) (sl : Slot) (h : HoldRef) (amount : Nat) (s : State) : State :=
  match findSettled s (ownStation s) h.tag sl.card.serial h.period with
  | none => setOutcome slot (ownOutcome s .captureRefused sl.card) s
  | some (place, g) =>
    match g.body with
    | .hold tag a .isOpen =>
      let c := clampCapture a amount
      captureHold place g c true
        ⟨.captureOwn, g.period,
          .plain { card := some sl.card, amount := some c, tag := some tag, tillRef := sl.tillRef }⟩
        (.slotOutcome slot none none
          { outcomeOf .captured sl.card with
            amount := c, availableAfter := (availableOf s sl.card.serial).map fun v => v + (a - c) }) s
    | .hold _ _ (.captured c) =>
      outcomeAfter (unstored (writesGrant place) s) slot { ownOutcome s .captured sl.card with amount := c } s
    | _ => outcomeAfter (unstored (writesGrant place) s) slot (ownOutcome s .captureRefused sl.card) s

/-- The effects of a COMPLETE that passes its checks (R36, R77). -/
def runComplete (slot amount : Nat) (s : State) : State :=
  match heldSlot s slot with
  | none => s
  | some (sl, h) =>
    let s1 := putSlot slot (settlingSlot sl .complete amount) s
    if isOwn s sl.card then completeOwn slot sl h amount s1
    else startStored (freeTrackPlace s) ⟨.capture, sl.card.ss, 0, h.period, sl.card.serial, amount, some h.tag, .sent⟩
      (some slot) s1

/-- COMPLETE (R36, R72, R77). -/
def execComplete (slot amount : Nat) (s : State) : Host.Outcome State Fault Refusal :=
  checkedCommand s (completeChecks slot amount s) fun s => accepted [] (runComplete slot amount s)

/-- The checks of CANCEL, in order (R37, R72, R166). -/
def cancelChecks (slot : Nat) (s : State) : List (Bool × PortStatus) :=
  heldChecks s slot ++
  (if heldOwn s slot then [(frameFree s, .storeBusy)]
   else homeChecks s (heldHome s slot) ++ [(numberReady 0 s, .storeBusy)])

/-- The home's decision on a CANCEL of an own hold (R37). -/
def cancelOwn (slot : Nat) (sl : Slot) (h : HoldRef) (s : State) : State :=
  match findSettled s (ownStation s) h.tag sl.card.serial h.period with
  | none => setOutcome slot (ownOutcome s .released sl.card) s
  | some (place, g) =>
    if grantOpen g then
      releaseHold place g
        (.slotOutcome slot none none
          { outcomeOf .released sl.card with
            availableAfter := (availableOf s sl.card.serial).map fun v => v + grantAmount g }) s
    else outcomeAfter (unstored (writesGrant place) s) slot (ownOutcome s .released sl.card) s

/-- A RELEASE entry's record (R79). -/
def releaseRec (home serial tag period : Nat) : TrackRec := ⟨.release, home, 0, period, serial, 0, some tag, .sent⟩

/-- The effects of a CANCEL that passes its checks (R37, R79). -/
def runCancel (slot : Nat) (s : State) : State :=
  match heldSlot s slot with
  | none => s
  | some (sl, h) =>
    let s1 := putSlot slot (settlingSlot sl .cancel sl.amount) s
    if isOwn s sl.card then cancelOwn slot sl h s1
    else startVolatile (freeTrackPlace s) (releaseRec sl.card.ss sl.card.serial h.tag h.period) (some slot) false s1

/-- CANCEL (R37, R72, R79). -/
def execCancel (slot : Nat) (s : State) : Host.Outcome State Fault Refusal :=
  checkedCommand s (cancelChecks slot s) fun s => accepted [] (runCancel slot s)

/-! ### TOPUP and REFUND -/

/-- The checks of TOPUP and REFUND, in order (R12, R72, R166). -/
def creditCommandChecks (kind : CreditKind) (slot : Nat) (card : CardId) (amount : Nat) (s : State) :
    List (Bool × PortStatus) :=
  newWorkChecks s slot ++ [(cardValid card, .badCard), (amountInRange amount, .badAmount)] ++
  (if isOwn s card then [(!insideReserve s, .journalFull), (frameFree s, .storeBusy)]
   else homeChecks s card.ss ++
    [(!insideReserve s, .journalFull), (creditInLimit s card.ss kind amount, .limit), (frameFree s, .storeBusy),
     (numberReady 1 s, .storeBusy)])

/-- The operation of a credit command. -/
def creditOp : CreditKind → Operation
  | .topup => .topup
  | .refund => .refund

/-- The journal kind of an own credit (R12). -/
def ownCreditKind : CreditKind → JournalKind
  | .topup => .topupOwn
  | .refund => .refundOwn

/-- The home's decision on an own credit whose slot is CREDITING (R12). -/
def decideOwnCredit (kind : CreditKind) (slot : Nat) (card : CardId) (amount : Nat) (tillRef : Option Nat) (s : State) :
    State :=
  match firstFail (creditChecks s (ownStation s) card.serial kind amount), findCard s card.serial with
  | some r, _ => setOutcome slot (ownDeclined s card r) s
  | none, none => setOutcome slot (ownDeclined s card .unknownCard) s
  | none, some (place, c) =>
    applyCredit (ownStation s) none place c kind amount
      ⟨ownCreditKind kind, openPeriod s, .plain { card := some card, amount := some amount, tillRef := tillRef }⟩
      (.slotOutcome slot none none
        { outcomeOf .credited card with amount := amount, availableAfter := some (c.available + amount) }) s

/-- The effects of a TOPUP or REFUND that passes its checks (R12, R80). -/
def runCredit (kind : CreditKind) (slot : Nat) (card : CardId) (amount : Nat) (tillRef : Option Nat) (s : State) :
    State :=
  let s1 := putSlot slot (newSlot .crediting (creditOp kind) card amount tillRef) s
  if isOwn s card then decideOwnCredit kind slot card amount tillRef s1
  else startStored (freeTrackPlace s) ⟨.credit kind, card.ss, 0, openPeriod s, card.serial, amount, none, .sent⟩
    (some slot) s1

/-- TOPUP (R12, R72, R80). -/
def execTopup (slot : Nat) (card : CardId) (amount : Nat) (tillRef : Option Nat) (s : State) :
    Host.Outcome State Fault Refusal :=
  checkedCommand s (creditCommandChecks .topup slot card amount s) fun s =>
    accepted [] (runCredit .topup slot card amount tillRef s)

/-- REFUND (R12, R72, R80). -/
def execRefund (slot : Nat) (card : CardId) (amount : Nat) (tillRef : Option Nat) (s : State) :
    Host.Outcome State Fault Refusal :=
  checkedCommand s (creditCommandChecks .refund slot card amount s) fun s =>
    accepted [] (runCredit .refund slot card amount tillRef s)

/-! ### ENQUIRE, FREEZE, UNFREEZE -/

/-- A STATUS_REQ entry's record (R82). -/
def statusRec (s : State) (action : StatusAction) (card : CardId) : TrackRec :=
  ⟨.status action, card.ss, 0, openPeriod s, card.serial, 0, none, .sent⟩

/-- The checks of ENQUIRE, in order (R17, R72, R166). -/
def enquireChecks (slot : Nat) (card : CardId) (s : State) : List (Bool × PortStatus) :=
  newWorkChecks s slot ++ [(cardValid card, .badCard)] ++
  (if isOwn s card then [] else homeChecks s card.ss ++ [(numberReady 0 s, .storeBusy)])

/-- The STATUS outcome of an own card as it stands (R17). -/
def ownStatus (s : State) (card : CardId) : OutcomeRec :=
  let v := cardView s card.serial
  statusOutcome card v.1 v.2.1 v.2.2

/-- The effects of an ENQUIRE that passes its checks (R17, R82). -/
def runEnquire (slot : Nat) (card : CardId) (s : State) : State :=
  let s1 := putSlot slot (newSlot .enquiring .enquire card 0 none) s
  if isOwn s card then outcomeAfter (cardFrames s card.serial) slot (ownStatus s card) s1
  else startVolatile (freeTrackPlace s) (statusRec s .enquire card) (some slot) false s1

/-- ENQUIRE (R17, R72, R82). -/
def execEnquire (slot : Nat) (card : CardId) (s : State) : Host.Outcome State Fault Refusal :=
  checkedCommand s (enquireChecks slot card s) fun s => accepted [] (runEnquire slot card s)

/-- The checks of FREEZE, in order (R18, R72, R166). -/
def freezeChecks (slot : Nat) (card : CardId) (s : State) : List (Bool × PortStatus) :=
  newWorkChecks s slot ++ [(cardValid card, .badCard)] ++
  (if isOwn s card then [(!insideReserve s, .journalFull), (frameFree s, .storeBusy)]
   else homeChecks s card.ss ++ [(!insideReserve s, .journalFull), (numberReady 0 s, .storeBusy)])

/-- The journal entry of a freeze (R18). -/
def freezeDraft (s : State) (serial requester : Nat) : Draft :=
  ⟨.freeze, openPeriod s, .plain { card := some (ownCard s serial), counterpart := some requester }⟩

/-- What a freeze that changes the card reports (R18). -/
def frozenView (s : State) (serial : Nat) : CardView := if cardLocked s serial then .locked else .frozen

/-- The home's decision on an own FREEZE whose slot is ENQUIRING (R18). -/
def decideOwnFreeze (slot : Nat) (card : CardId) (s : State) : State :=
  match freezeDecision s card.serial false with
  | .change place c =>
    changeStatus place c (freezeDraft s card.serial (ownStation s))
      (.slotOutcome slot none none (statusOutcome card (frozenView s card.serial) c.available c.held)) s
  | .report | .busy => outcomeAfter (cardFrames s card.serial) slot (ownStatus s card) s

/-- The effects of a FREEZE that passes its checks (R18, R82). -/
def runFreeze (slot : Nat) (card : CardId) (s : State) : State :=
  let s1 := putSlot slot (newSlot .enquiring .freeze card 0 none) s
  if isOwn s card then decideOwnFreeze slot card s1
  else startVolatile (freeTrackPlace s) (statusRec s .freeze card) (some slot) false s1

/-- FREEZE (R18, R72, R82). -/
def execFreeze (slot : Nat) (card : CardId) (s : State) : Host.Outcome State Fault Refusal :=
  checkedCommand s (freezeChecks slot card s) fun s => accepted [] (runFreeze slot card s)

/-- The checks of UNFREEZE, in order (R19). -/
def unfreezeChecks (slot : Nat) (card : CardId) (protectN : Bool) (s : State) : List (Bool × PortStatus) :=
  newWorkChecks s slot ++
  [(cardValid card, .badCard), (isOwn s card, .notHome), (protectN, .isProtected), (!insideReserve s, .journalFull),
   (frameFree s, .storeBusy)]

/-- The UNFROZEN outcome: with reason LOCKED while a lock covers the card (R19). -/
def unfrozenOutcome (s : State) (card : CardId) : OutcomeRec :=
  { ownOutcome s .unfrozen card with reason := if cardLocked s card.serial then some .locked else none }

/-- The home's decision on an UNFREEZE whose slot is ENQUIRING (R19). -/
def decideUnfreeze (slot : Nat) (card : CardId) (tillRef : Option Nat) (s : State) : State :=
  match findCard s card.serial with
  | none => setOutcome slot (ownDeclined s card .unknownCard) s
  | some (place, c) =>
    match c.state with
    | .active => setOutcome slot (unfrozenOutcome s card) s
    | .frozen =>
      changeStatus place { c with state := .active }
        ⟨.unfreeze, openPeriod s, .plain { card := some card, tillRef := tillRef }⟩
        (.slotOutcome slot none none (unfrozenOutcome s card)) s

/-- The effects of an UNFREEZE that passes its checks (R19). -/
def runUnfreeze (slot : Nat) (card : CardId) (tillRef : Option Nat) (s : State) : State :=
  decideUnfreeze slot card tillRef (putSlot slot (newSlot .enquiring .unfreeze card 0 tillRef) s)

/-- UNFREEZE (R19). -/
def execUnfreeze (slot : Nat) (card : CardId) (tillRef : Option Nat) (protectN : Bool) (s : State) :
    Host.Outcome State Fault Refusal :=
  hostCommand s fun s =>
    let s := sampleProtect protectN s
    match firstFail (unfreezeChecks slot card protectN s) with
    | some p => refuse p s
    | none => accepted [] (runUnfreeze slot card tillRef s)

/-! ### RANGE_LOCK -/

/-- A range lock of the working copy (R7). -/
def getLock (s : State) (n : Nat) : RangeLock := tabGetD s.custody.locks n .blank

/-- The checks of RANGE_LOCK, in order (R8). -/
def rangeLockChecks (n low high : Nat) (active protectN : Bool) (s : State) : List (Bool × PortStatus) :=
  [(isTrading s, .notTrading), (1 ≤ n && n ≤ 4, .badArgument), (protectN, .isProtected),
   (!active || (1 ≤ low && low ≤ maxSerial && 1 ≤ high && high ≤ maxSerial && low ≤ high), .badArgument),
   (!insideReserve s, .journalFull), (frameFree s, .storeBusy)]

/-- The lock after a RANGE_LOCK: set whole, or only its flag cleared (R8). -/
def newLock (old : RangeLock) (low high : Nat) (active : Bool) : RangeLock :=
  if active then ⟨low, high, true⟩ else { old with active := false }

/-- The effects of a RANGE_LOCK that passes its checks (R8, R128). -/
def runRangeLock (n low high : Nat) (active : Bool) (s : State) : State :=
  let l := newLock (getLock s n) low high active
  let s1 := { s with custody := { s.custody with locks := tabPutD RangeLock.blank s.custody.locks n l } }
  let claimed := claim
    [⟨.rangeLock, openPeriod s,
      .plain { card := some (ownCard s l.low), amount := some l.high, outcome := some (.lock active n) }⟩] s1
  acceptFrame .rangeSet [.lock n l, .journal (claimed.1.map (·.2))] (claimed.1.map (·.1)) .none claimed.2

/-- RANGE_LOCK (R8). -/
def execRangeLock (n low high : Nat) (active protectN : Bool) (s : State) : Host.Outcome State Fault Refusal :=
  hostCommand s fun s =>
    let s := sampleProtect protectN s
    match firstFail (rangeLockChecks n low high active protectN s) with
    | some p => refuse p s
    | none => accepted [] (runRangeLock n low high active s)

/-! ### SLOT_READ and SLOT_FREE -/

/-- SLOT_READ (R65). -/
def execSlotRead (slot : Nat) (s : State) : Host.Outcome State Fault Refusal :=
  checkedCommand s [(isTrading s, .notTrading), (slotNamed slot, .badArgument)] fun s =>
    accepted (slotReply (getSlot s slot)) s

/-- A continuation is the outcome of a slot. -/
def outcomeFor (n : Nat) (c : Continuation) : Bool := match c with
  | .slotOutcome k .. => k = n
  | _ => false

/-- A wait holds back the outcome of a slot. -/
def waitFor (n : Nat) (w : Wait) : Bool := match w.item with
  | .slotOutcome k _ => k = n
  | _ => false

/-- The slot's pending outcomes are no longer its own: frames are marked, waits dropped (R162, R84). -/
def forsake (n : Nat) (s : State) : State :=
  { s with control := { s.control with
      frames := s.control.frames.map fun f =>
        if outcomeFor n f.frame.continuation then { f with slotFreed := true } else f
      waits := s.control.waits.filter fun w => !waitFor n w } }

/-- An own hold whose HELD slot was freed is released now, or waits for a frame slot (R37, R84). -/
def releaseFreed (h : HoldRef) (serial : Nat) (s : State) : State :=
  match findSettled s (ownStation s) h.tag serial h.period with
  | none => s
  | some (place, g) =>
    if grantOpen g then
      if frameFree s then releaseHold place g .none s
      else { s with requests := { s.requests with deferred := s.requests.deferred ++ [h.tag] } }
    else s

/-- A detached RELEASE for a freed slot's hold, when the tracker has room and a number can be given (R84, R166). -/
def releaseDetached (sl : Slot) (h : HoldRef) (s : State) : State :=
  if trackerRoom s && numberReady 0 s then
    startVolatile (freeTrackPlace s) (releaseRec sl.card.ss sl.card.serial h.tag h.period) none false s
  else s

/-- The entry a slot is linked to. -/
def linkedTrack (s : State) (sl : Slot) : Option (Nat × Track) := sl.link.bind fun k => findTrack s k.1 k.2

/-- What freeing a slot does beyond making it FREE, by the state it was in; `s` already shows it FREE (R84). -/
def freedEffect (sl : Slot) (s : State) : State :=
  match sl.state with
  | .authorising =>
    match linkedTrack s sl with
    | some (place, t) => putTrack place { t with abandoned := true, slot := none } s
    | none => s
  | .held =>
    match sl.hold with
    | some h =>
      reexamine sl.card.ss
        (if isOwn s sl.card then releaseFreed h sl.card.serial s else releaseDetached sl h s)
    | none => s
  | .enquiring =>
    match linkedTrack s sl with
    | some (place, t) => dropTrack place t s
    | none => s
  | .settling | .crediting | .issuing | .outcome => s

/-- The slot's state lets SLOT_FREE act (R84). -/
def freeable (s : State) (slot : Nat) : Bool :=
  (getSlot s slot).all fun sl => sl.state ≠ .settling && sl.state ≠ .crediting && sl.state ≠ .issuing

/-- The effects of a SLOT_FREE that passes its checks (R84). -/
def runSlotFree (slot : Nat) (s : State) : State :=
  match getSlot s slot with
  | none => s
  | some sl => freedEffect sl (forsake slot (freeSlot slot s))

/-- SLOT_FREE (R84). -/
def execSlotFree (slot : Nat) (s : State) : Host.Outcome State Fault Refusal :=
  checkedCommand s
    [(isTrading s, .notTrading), (slotNamed slot, .badArgument), (freeable s slot, .slotState)]
    fun s => accepted [] (runSlotFree slot s)

end Sys2Proof.Machine
end

