-- ==== Sys2Proof/Machine/CursorCommands.lean ====
section
/-! DEFINITION. The export cursors: CURSOR_SET, CURSOR_READ, the records of a read, ARCHIVE_ACK (R144 to R156). -/

namespace Sys2Proof.Machine

/-- The part takes the commands of IDLE, TRADING and HALTED (R146, R148, R178, R180). -/
def attended (s : State) : Bool := s.station = .idle || s.station = .trading || s.station = .halted

/-- A cursor (R144). -/
def getCursor (s : State) (n : Nat) : Cursor := tabGetD s.cursors.table n .blank

/-- Rewrites a cursor. -/
def putCursor (n : Nat) (c : Cursor) (s : State) : State :=
  { s with cursors := { s.cursors with table := tabPutD Cursor.blank s.cursors.table n c } }

/-! ### CURSOR_SET -/

/-- The start index as clamped (R146). -/
def clampStart (oldest : Nat) (newest : Option Nat) (i : Nat) : Nat :=
  match newest with
  | none => oldest
  | some n => if i < oldest then oldest else if n < i then n else i

/-- The choices a CURSOR_SET names; cursor 0's direction and filter are not read from its arguments (R146, R147; log entry
33). -/
def cursorChoices (cursor direction endAction mode filter : Nat) :
    Option (Direction × EndAction × CursorMode × CursorFilter) :=
  match (if cursor = 0 then some .forward else directionArg direction), endActionArg endAction, modeArg mode,
      (if cursor = 0 then some .all else filterArg filter) with
  | some d, some e, some m, some f => some (d, e, m, f)
  | _, _, _, _ => none

/-- The start index a CURSOR_SET gives: clamped, or, for cursor 0, the first entry not archived (R146, R147). -/
def startFor (s : State) (cursor i : Nat) : Nat :=
  if cursor = 0 then s.journal.archived + 1 else clampStart s.journal.oldest (newestStored s) i

/-- The effects of a CURSOR_SET that passes its checks (R146, R147). -/
def runCursorSet (cursor i count blockLen : Nat) (notice : Bool)
    (ch : Direction × EndAction × CursorMode × CursorFilter) (s : State) : State :=
  let start := startFor s cursor i
  let s1 := putCursor cursor
    ⟨.ready, start, start, count, count, blockLen, ch.1, ch.2.1, ch.2.2.1, ch.2.2.2, notice, false, []⟩ s
  let s2 :=
    if cursor = 0 then { s1 with cursors := { s1.cursors with mark := max s1.cursors.mark s.journal.archived } } else s1
  accepted (toBytes 4 start ++ toBytes 4 s.journal.oldest ++ toBytes 4 ((newestStored s).getD 0)) s2

/-- CURSOR_SET (R146, R147, R189). -/
def execCursorSet (cursor startIndex count blockLen direction endAction mode filter : Nat) (notice : Bool) (s : State) :
    Host.Outcome State Fault Refusal :=
  hostCommand s fun s =>
    if !attended s then refuse .notTrading s
    else if 3 < cursor ∨ count = 0 ∨ blockLen < 1 ∨ 64 < blockLen then refuse .badArgument s
    else
      match cursorChoices cursor direction endAction mode filter with
      | none => refuse .badArgument s
      | some ch => runCursorSet cursor startIndex count blockLen notice ch s

/-! ### Choosing an entry (R149) -/

/-- The kinds a filter gives (R149). -/
def filterAccepts (f : CursorFilter) (k : JournalKind) : Bool :=
  match f, k with
  | .all, _ => true
  | .money, .issue | .money, .topupOwn | .money, .refundOwn | .money, .captureOwn | .money, .captureHome
  | .money, .captureAcq | .money, .creditHome | .money, .creditAcq => true
  | .statements, .statement | .statements, .statementException => true
  | .status, .freeze | .status, .unfreeze | .status, .rangeLock => true
  | _, _ => false

/-- A cursor's change of state is announced when its notice enable is yes (R154). -/
def cursorNotice (n : Nat) (c : Cursor) (kind : NoticeKind) (s : State) : State :=
  if c.notice then post kind (.number n) 0 s else s

/-- A cursor enters ENDED (R149, R152, R154). -/
def endCursor (n : Nat) (c : Cursor) (s : State) : State :=
  cursorNotice n c .cursorEnded (putCursor n { c with state := .ended } s)

/-- A FORWARD cursor looks for its next entry (R149; log entry 23). -/
def lookForward (n : Nat) (c : Cursor) (s : State) : Option JournalEntry × State :=
  let from_ := max c.current s.journal.oldest
  match lowestEntry (fun e => from_ ≤ e.index && filterAccepts c.filter e.kind) (visible s) with
  | some e => (some e, putCursor n { c with current := e.index } s)
  | none =>
    let stand := match newestStored s with
      | some k => max from_ (k + 1)
      | none => from_
    (none, putCursor n { c with current := stand } s)

/-- A BACKWARD cursor looks for its next entry, and ends when there is none (R149; log entry 23). -/
def lookBackward (n : Nat) (c : Cursor) (s : State) : Option JournalEntry × State :=
  match highestEntry (fun e => e.index ≤ c.current && filterAccepts c.filter e.kind) (visible s) with
  | some e => (some e, putCursor n { c with current := e.index } s)
  | none => (none, endCursor n { c with current := min c.current (s.journal.oldest - 1) } s)

/-- A cursor looks for its next entry in its direction (R149). -/
def lookNext (n : Nat) (s : State) : Option JournalEntry × State :=
  let c := getCursor s n
  match c.direction with
  | .forward => lookForward n c s
  | .backward => lookBackward n c s

/-! ### The records of a read -/

/-- The bytes of a record that is chosen (R193). -/
def itemBytes : ReadItem → List Byte
  | .header => []
  | .entry e | .again e => entryBytes e
  | .endRecord => endBytes

/-- The stream stands on its next record, whose bytes the part now shifts out (R148, R149). -/
def streamOn (st : CursorStream) (item : ReadItem) (s : State) : State :=
  { s with port := { s.port with reply := itemBytes item, session := .cursor { st with item := item } } }

/-- The next record is looked for; with none found the rest of a SINGLE or BLOCK read gives END records (R149, R151, R153).
-/
def streamLook (st : CursorStream) (mode : CursorMode) (s : State) : State :=
  match lookNext st.cursor s with
  | (some e, s1) => streamOn st (.entry e) s1
  | (none, s1) => streamOn { st with endOnly := st.endOnly || mode ≠ .successive } .endRecord s1

/-- The next record of the stream is chosen (R148, R151 to R153). -/
def nextRecord (st : CursorStream) (s : State) : State :=
  let c := getCursor s st.cursor
  if st.endOnly || c.state = .ended then streamOn st .endRecord s
  else
    match c.mode with
    | .successive => streamLook st c.mode s
    | .single =>
      match st.given with
      | some e => streamOn st (.again e) s
      | none => streamLook st c.mode s
    | .block =>
      if st.complete then
        match c.buffer[st.nextAgain % c.buffer.length]? with
        | some e => streamOn { st with nextAgain := st.nextAgain + 1 } (.again e) s
        | none => streamOn st .endRecord s
      else streamLook st c.mode s

/-- The cursor after an entry has been read: count, current index and block buffer (R150, R151, R153). -/
def cursorPast (c : Cursor) (e : JournalEntry) : Cursor :=
  { c with
    count := c.count - 1
    current := match c.direction with
      | .forward => e.index + 1
      | .backward => e.index - 1
    buffer := match c.mode with
      | .single => [e]
      | .block => c.buffer ++ [e]
      | .successive => c.buffer }

/-- RELOAD: back to the start index, raised past what has retired, with the count restored (R152). -/
def reload (oldest : Nat) (c : Cursor) : Cursor := { c with current := max c.start oldest, count := c.setCount }

/-- The block is complete: block-length entries read, or the count taken to 0 (R153). -/
def blockComplete (c : Cursor) : Bool := c.mode = .block && (c.blockLen ≤ c.buffer.length || c.count = 0)

/-- The cursor pauses (R153, R154). -/
def pauseCursor (n : Nat) (c : Cursor) (s : State) : State :=
  cursorNotice n c .cursorPaused (putCursor n { c with state := .paused, paused := true } s)

/-- The read-through mark of cursor 0 is raised to an entry given whole (R147, R150). -/
def raiseMark (n : Nat) (e : JournalEntry) (s : State) : State :=
  if n = 0 then { s with cursors := { s.cursors with mark := max s.cursors.mark e.index } } else s

/-- An entry has been read: the cursor moves on, its end action and its pause apply, and the next record is chosen (R150 to
R153). -/
def entryRead (st : CursorStream) (e : JournalEntry) (s : State) : State :=
  let n := st.cursor
  let c := cursorPast (getCursor s n) e
  let s1 := raiseMark n e s
  let st1 := { st with given := some e }
  if c.count = 0 ∧ c.endAction = .stop then nextRecord st1 (endCursor n c s1)
  else
    let done := blockComplete c
    let c1 := if c.count = 0 then reload s.journal.oldest c else c
    if done then nextRecord { st1 with complete := true, nextAgain := 0 } (pauseCursor n c1 s1)
    else nextRecord st1 (putCursor n c1 s1)

/-- CURSOR_ENTRY_READ: the last byte of an entry record has been clocked out (R150); an entry given again changes nothing but
the place in the stream. -/
def execCursorEntryRead (s : State) : Host.Outcome State Fault Refusal :=
  answer
    (match s.port.session with
     | .cursor st =>
       match st.item with
       | .entry e => entryRead st e s
       | .again _ => nextRecord st s
       | .header | .endRecord => s
     | _ => s)

/-- CURSOR_RECORD_CHOSEN: the header, an END record or a repeat has been clocked out, and the next record is chosen (R148).
-/
def execCursorRecordChosen (s : State) : Host.Outcome State Fault Refusal :=
  answer
    (match s.port.session with
     | .cursor st =>
       match st.item with
       | .header | .endRecord | .again _ => nextRecord st s
       | .entry _ => s
     | _ => s)

/-! ### CURSOR_READ and ARCHIVE_ACK -/

/-- A cursor as a read begins: no longer PAUSED, and in BLOCK mode with an empty buffer (R148, R153). -/
def readyCursor (c : Cursor) : Cursor :=
  let c1 : Cursor := if c.state = .paused then { c with state := .ready, paused := false } else c
  if c.mode = .block ∧ c1.state = .ready then { c1 with buffer := [] } else c1

/-- The effects of a CURSOR_READ that passes its checks: the header, and a stream that stands on it (R148). -/
def runCursorRead (n : Nat) (s : State) : State :=
  let c := getCursor s n
  withSession (.cursor ⟨n, .header, none, false, 0, false⟩)
    (accepted (headerBytes c) (putCursor n (readyCursor c) s))

/-- CURSOR_READ (R148, R189). -/
def execCursorRead (cursor : Nat) (s : State) : Host.Outcome State Fault Refusal :=
  checkedCommand s
    [(attended s, .notTrading), (cursor ≤ 3, .badArgument), ((getCursor s cursor).state ≠ .idle, .badArgument)]
    fun s => runCursorRead cursor s

/-- The effects of an ARCHIVE_ACK above the archived-through index (R155). -/
def runArchiveAck (index : Nat) (s : State) : State :=
  let j : Journal := { s.journal with archived := index }
  acceptFrame .archiveStore [.control (controlRecord j)] [] .none { s with journal := j }

/-- ARCHIVE_ACK (R155, R189). -/
def execArchiveAck (index : Nat) (s : State) : Host.Outcome State Fault Refusal :=
  checkedCommand s
    [(s.station = .idle || s.station = .trading, .notTrading), (index ≤ s.cursors.mark, .badArgument),
     (index ≤ s.journal.archived || frameFree s, .storeBusy)]
    fun s => accepted [] (if index ≤ s.journal.archived then s else runArchiveAck index s)

end Sys2Proof.Machine
end

