-- ==== Sys2Proof/Machine/NoticeCommands.lean ====
section
/-! DEFINITION. The notice unit's commands: TAKE_NOTICE, SET_MASK, and a notice record clocked out (R178, R180). -/

namespace Sys2Proof.Machine

/-- The notice TAKE_NOTICE reports: of the eligible ones the highest level, and among those the one posted first (R180). -/
def chosenNotice (mask : Nat) : List Notice → Option Notice
  | [] => none
  | n :: t =>
    match chosenNotice mask t with
    | none => if eligible mask n then some n else none
    | some b => if eligible mask n && levelOf b ≤ levelOf n then some n else some b

/-- The effects of a TAKE_NOTICE that is taken: the chosen notice's record, or a SPURIOUS one (R180). -/
def runTakeNotice (s : State) : State :=
  match chosenNotice s.notices.mask s.notices.queue with
  | some n => withSession (.notice n.seq) (accepted (noticeBytes n.data) s)
  | none => accepted spuriousBytes s

/-- TAKE_NOTICE (R180, R189). -/
def execTakeNotice (s : State) : Host.Outcome State Fault Refusal :=
  checkedCommand s [(attended s, .notTrading)] runTakeNotice

/-- SET_MASK (R178, R189). -/
def execSetMask (mask : Nat) (s : State) : Host.Outcome State Fault Refusal :=
  checkedCommand s [(attended s, .notTrading), (mask ≤ 7, .badArgument)] fun s =>
    accepted [] { s with notices := { s.notices with mask := mask } }

/-- NOTICE_RECORD_CLOCKED: the chosen notice leaves the queue, unless overflow has dropped it meanwhile (R180). -/
def execNoticeRecordClocked (s : State) : Host.Outcome State Fault Refusal :=
  answer
    (match s.port.session with
     | .notice seq =>
       withSession .none { s with notices := { s.notices with queue := s.notices.queue.filter fun n => n.seq ≠ seq } }
     | _ => s)

end Sys2Proof.Machine
end

