-- ==== Sys2Proof/Machine/Halt.lean ====
section
/-! DEFINITION. Entry to HALTED (R63, R88, R113, R164, R171): one shared operation for every fault. -/

namespace Sys2Proof.Machine

/-- The link as the station enters HALTED: from TRADING the transmit queue is discarded, one PRESENCE with station state
HALTED is placed, and an attempt that runs is abandoned at its end; from any other state nothing is sent (R63). R48 and R63
do not say whether a backoff that runs is waited out before that PRESENCE is attempted: its frame is discarded, and the model
ends the backoff with it at once (DESIGN CHOICE, log entry 51). -/
def haltLink (s : State) : Link :=
  if s.station = .trading then
    { s.link with
      tx := [presenceFrame { s with station := .halted } 0]
      phase := match s.link.phase with
        | .attempting | .abandoned => .abandoned
        | .quiet | .backoff _ => .quiet }
  else s.link

/-- The store controller as the station enters HALTED: frames not stored are dropped, no wait is kept, and of the program
queue only a program under way runs to its end (R164, R171). -/
def haltControl (underWay : Bool) (c : Control) : Control :=
  { c with
    queue := if underWay then c.queue.take 1 else []
    frames := c.frames.filter (·.stored)
    waits := [] }

/-- The station enters HALTED with a fault code: the FAULT notice is posted and the link, the store controller and the erase
stop as R171 gives; everything else stays as it stood (R88, R113). `underWay` says that the head of the program queue runs
on. -/
def enterHalted (code : FaultCode) (underWay : Bool) (s : State) : State :=
  post .fault .none (faultCodeOf (some code))
    { s with
      station := .halted
      fault := some code
      link := haltLink s
      control := haltControl underWay s.control
      journal := { s.journal with erase := none, hidden := hiddenFrom s.control.store } }

end Sys2Proof.Machine
end

