-- ==== Sys2Proof/Machine/EraseOps.lean ====
section
/-! DEFINITION. The erase scheduler: which block is unlocked (R138), beginning and ending an erase (R139 to R142). -/

namespace Sys2Proof.Machine

/-- A place of the store lies in a block. -/
def inBlock (b place : Nat) : Bool := place / blockSlots = b

/-- A queued program writes into a block. -/
def writesBlock (b : Nat) (p : Program) : Bool := match p with
  | .entry pos _ => inBlock b pos
  | _ => false

/-- A block holds no unretired entry, stored or claimed (R138). -/
def unlocked (s : State) (b : Nat) : Bool :=
  s.control.store.journal.all (fun c => !inBlock b c.1 || (match c.2 with
    | .whole e => e.index < s.journal.oldest
    | .torn => true))
  && !s.control.queue.any (writesBlock b)

/-- The oldest FULL block that is unlocked, in ring order from the write point (R138, R139). -/
def eraseCandidate (s : State) : Option Nat :=
  (ringAfter s.journal.wpBlock).find? fun b => blockStateOf s.journal.blocks b = .full && unlocked s b

/-- An erase of a block begins with the control-record program that shows it ERASING (R139). -/
def beginErase (b : Nat) (s : State) : State :=
  placeControl .eraseBegin
    { s with journal := { s.journal with blocks := setBlockState s.journal.blocks b .erasing, erase := some ⟨b, .marking⟩ } }

/-- The block after its erase has ended: ERASED with one erase more, or BAD (R139, R141). -/
def erasedBlock (ok : Bool) (b : Block) : Block :=
  if ok then
    if b.eraseCount + 1 < eraseLimit then ⟨.erased, b.eraseCount + 1⟩ else ⟨.bad, b.eraseCount + 1⟩
  else ⟨.bad, b.eraseCount⟩

/-- The store after an erase: a completed one leaves every slot of the block erased; a failed one leaves them as they were,
in a block that is BAD from then on (R141; log entry 8). -/
def eraseSlots (ok : Bool) (b : Nat) (st : Store) : Store :=
  if ok then { st with journal := st.journal.filter fun c => !inBlock b c.1 } else st

/-- The erase under way ends: the block's new state, its control-record program, and BLOCK_RETIRED for one that is BAD (R139,
R141). -/
def endErase (ok : Bool) (b : Nat) (s : State) : State :=
  let blocks := s.journal.blocks.modify b (erasedBlock ok)
  let s1 := placeControl .eraseEnd
    { s with
      journal := { s.journal with blocks := blocks, erase := none }
      control := { s.control with store := eraseSlots ok b s.control.store } }
  if blockStateOf blocks b = .bad then
    post .blockRetired (.number b) (((blocks[b]?).map (·.eraseCount)).getD 0) s1
  else s1

/-- The erase that runs, when no program suspends it (R140). -/
def runningErase (s : State) : Option Nat :=
  match s.journal.erase with
  | some ⟨b, .running _⟩ => if s.control.queue.isEmpty then some b else none
  | _ => none

/-- The control-record program of an erase's beginning has completed: the erase itself starts (R139). -/
def startErase (s : State) : State :=
  match s.journal.erase with
  | some ⟨b, .marking⟩ => { s with journal := { s.journal with erase := some ⟨b, .running 0⟩ } }
  | _ => s

end Sys2Proof.Machine
end

