-- ==== Sys2Proof/Machine/RecoveryOps.lean ====
section
/-! DEFINITION. Recovery: reading the control record and the journal (R142, R157, R172), completing stored frames (R173), building
the working copy and handling what is owed (R174). -/

namespace Sys2Proof.Machine

/-! ### Reading the store -/

/-- The control record of a store in which none has been written (R133). -/
def ControlRec.blank : ControlRec := ⟨1, 0, 1, blankBlocks⟩

/-- A control copy that is whole. -/
def wholeCopy (c : Option (Cell ControlCopy)) : Option ControlCopy :=
  match c with
  | some (.whole x) => some x
  | _ => none

/-- The copy of the control record recovery takes, and whether it is copy B: a torn one is passed over, and of two the one
with the higher write count is taken (R157). -/
def takenCopy (st : Store) : ControlCopy × Bool :=
  match wholeCopy st.controlA, wholeCopy st.controlB with
  | some a, some b => if a.writes < b.writes then (b, true) else (a, false)
  | some a, none => (a, false)
  | none, some b => (b, true)
  | none, none => (⟨0, .blank⟩, false)

/-- A block found with a programmed or void slot. -/
def blockTouched (st : Store) (b : Nat) : Bool := st.journal.any fun c => inBlock b c.1

/-- The scan for the write point: from a slot on along the ring, past programmed and void slots, to the first erased one;
with it the blocks that were passed (R142). -/
def scanFrom (st : Store) (blocks : List Block) : Nat → Nat → Nat → List Nat → (Nat × Nat) × List Nat
  | 0, b, k, passed => ((b, k), passed)
  | fuel + 1, b, k, passed =>
    if (tabGet st.journal (slotPlace b k)).isNone then ((b, k), passed)
    else if k + 1 < blockSlots then scanFrom st blocks fuel b (k + 1) passed
    else scanFrom st blocks fuel (nextBlock blocks b) 0 (b :: passed)

/-- The block the scan starts from: the one the record shows IN_USE, or block 0 when it shows none (R142). -/
def scanStart (blocks : List Block) : Nat :=
  let b := ((List.range blockCount).find? fun n => blockStateOf blocks n = .inUse).getD 0
  if blockStateOf blocks b = .bad then nextBlock blocks b else b

/-- The state of a block as the scan finds it (R130, R142). BAD and ERASING cannot be read from the slots and are the record's
(R133). The block of the write point is IN_USE, but for one the record shows ERASED in which the scan passed no slot: the
first slot has not been claimed (log entry 10). -/
def scannedState (st : Store) (wpBlock wpSlot : Nat) (passed : List Nat) (n : Nat) (recorded : BlockState) :
    BlockState :=
  match recorded with
  | .bad => .bad
  | .erasing => .erasing
  | .erased | .inUse | .full =>
    if n = wpBlock then (if recorded = .erased ∧ wpSlot = 0 ∧ passed.isEmpty then .erased else .inUse)
    else if passed.contains n then .full
    else if recorded = .erased ∧ !blockTouched st n then .erased
    else .full

/-- Every block's state after the scan. -/
def scannedBlocks (st : Store) (wpBlock wpSlot : Nat) (passed : List Nat) (blocks : List Block) : List Block :=
  blocks.mapIdx fun n b => { b with state := scannedState st wpBlock wpSlot passed n b.state }

/-- The journal scan (R142, R172). -/
def scanJournal (s : State) : State :=
  let st := s.control.store
  let r := scanFrom st s.journal.blocks (blockCount * blockSlots) (scanStart s.journal.blocks) 0 []
  { s with journal := { s.journal with
      blocks := scannedBlocks st r.1.1 r.1.2 r.2 s.journal.blocks, wpBlock := r.1.1, wpSlot := r.1.2 } }

/-! ### The frame area (R172) -/

/-- The frame slots that are torn. -/
def tornSlots (st : Store) : List Nat :=
  (st.frames.filter fun p => p.2 = .torn).map (·.1)

/-- A target's key names a place the part has (R160, R172; log entry 27). -/
def targetKnown : Target → Bool
  | .card p _ => p < cardPlaces
  | .grant p _ => p < grantPlaces
  | .row _ j _ => 1 ≤ j && j ≤ 63
  | .tracker p _ => p < trackerPlaces
  | .lock n _ => 1 ≤ n && n ≤ 4
  | .identity _ | .generation _ | .control _ => true
  | .journal es => 1 ≤ es.length && es.length ≤ runLimit

/-- A whole frame whose write-backs the part knows (R172). -/
def frameKnown (f : Frame) : Bool := f.writeBacks.all fun w => targetKnown w.target

/-- A frame slot holds a STORED frame that the part does not know: its format or a target kind, or the key of a write-back
(R172; log entry 27). -/
def slotUnknown : FrameSlot → Bool
  | .unknown _ stored => stored
  | p => (slotStored p).any fun f => !frameKnown f

/-- The frame area stops recovery: a second torn slot, or a frame the part does not know (R172). A frame already DONE is not
tested: R172 speaks of any whole frame, but R163 says that recovery does not read a DONE frame's content, and the model
follows R163 (DEDUCED, log entry 46). -/
def framesAtFault (st : Store) : Bool := 1 < (tornSlots st).length || st.frames.any fun p => slotUnknown p.2

/-- A frame slot holds a frame that reads as STORED, known or not (R160, R163). -/
def slotPending : FrameSlot → Bool
  | .unknown _ stored => stored
  | p => (slotStored p).isSome

/-- How many frames of the store read as STORED (R161, R172). -/
def storedCount (st : Store) : Nat := st.frames.countP fun p => slotPending p.2

/-- The frames to complete, with their slots (R173). -/
def storedFrames (st : Store) : List (Nat × Frame) :=
  st.frames.filterMap fun p => (slotStored p.2).map fun f => (p.1, f)

/-- Places a frame among others in frame-number order. -/
def insertFrame (x : Nat × Frame) : List (Nat × Frame) → List (Nat × Frame)
  | [] => [x]
  | y :: ys => if x.2.number ≤ y.2.number then x :: y :: ys else y :: insertFrame x ys

/-- Frames in frame-number order (R173). -/
def inOrder (fs : List (Nat × Frame)) : List (Nat × Frame) := fs.foldr insertFrame []

/-! ### Completing frames (R173) -/

/-- An entry the scan found whole in a usable block (R142). -/
def entryFound (s : State) (index : Nat) : Bool :=
  s.control.store.journal.any fun c => match c.2 with
    | .whole e => e.index = index && blockStateOf s.journal.blocks (c.1 / blockSlots) ≠ .bad
    | .torn => false

/-- Queues a program at the tail. -/
def queueProgram (p : Program) (s : State) : State :=
  { s with control := { s.control with queue := s.control.queue ++ [p] } }

/-- An entry of a journal write-back: not programmed again when found, else programmed at the write point (R142). -/
def completeEntry (e : JournalEntry) (s : State) : State :=
  if entryFound s e.index then s
  else queueProgram (.entry (writePoint s.journal) e) { s with journal := advance s.journal }

/-- A write-back of a frame is written again in full (R173). The control record is written with the frame's indices and the
blocks as the working copy now has them: the frame's own may be older than the erase that recovery has just ended, and by
R133 a later write keeps what an earlier one changed (DEDUCED, log entry 15). -/
def completeTarget (t : Target) (s : State) : State :=
  match t with
  | .journal es => es.foldl (fun s e => completeEntry e s) s
  | .control c =>
    { queueProgram (controlProgram .frame { c with blocks := s.journal.blocks } s.journal) s with journal := controlPlaced s.journal }
  | t => queueProgram (.target t) s

/-- A stored frame's programs: its valid write-backs, then its done mark (R173). -/
def completeFrame (x : Nat × Frame) (s : State) : State :=
  queueProgram (.done x.1)
    ((x.2.writeBacks.filter (·.valid)).foldl (fun s w => completeTarget w.target s) s)

/-- Recovery stops with a fault: no further program runs (R172, R173). -/
def recoveryStops (code : FaultCode) (s : State) : State :=
  { s with
    recovery := s.recovery.map fun r => { r with fault := some code, phase := .completing }
    control := { s.control with queue := [] }
    journal := { s.journal with erase := none } }

/-- Recovery stops for want of usable blocks, after its step 5 (R172). -/
def recoveryWorn (s : State) : State :=
  { s with recovery := s.recovery.map fun r => { r with fault := some .journalWorn } }

/-- The torn frame slot is programmed DONE and holding no frame (R172). -/
def clearTorn (s : State) : State :=
  (tornSlots s.control.store).foldl (fun s n => queueProgram (.clearFrame n) s) s

/-- Steps 4 and 5 of R172 and the queueing of the frames to complete (R173; log entry 16 for the order of faults). When step
5 ends in FRAME_FORMAT the torn frame slots stay torn: R172 leaves open whether the first is still programmed DONE, and that
none is programmed is the model's choice (DESIGN CHOICE, log entry 47). -/
def scanAndComplete (s : State) : State :=
  let s1 := scanJournal { s with recovery := s.recovery.map fun r => { r with phase := .completing } }
  if framesAtFault s1.control.store then recoveryStops .frameFormat s1
  else if usableBlocks s1.journal.blocks < minUsable then recoveryWorn (clearTorn s1)
  else (inOrder (storedFrames s1.control.store)).foldl (fun s x => completeFrame x s) (clearTorn s1)

/-- The block the control record shows ERASING (R172). -/
def erasingBlock (blocks : List Block) : Option Nat :=
  (List.range blockCount).find? fun n => blockStateOf blocks n = .erasing

/-- Recovery begins on a store: the control record is read, and a block it shows ERASING is erased first (R172; log entry
14). -/
def beginRecovery (s : State) : State :=
  let c := takenCopy s.control.store
  let j : Journal := { Journal.blank with
    blocks := c.1.content.blocks, next := c.1.content.next, oldest := c.1.content.oldest,
    archived := c.1.content.archived, archivedStored := c.1.content.archived, writes := c.1.writes, lastB := c.2 }
  let s1 := { s with station := .recovering, journal := j, recovery := some ⟨.erasing, none, []⟩ }
  match erasingBlock j.blocks with
  | some b => beginErase b s1
  | none => scanAndComplete s1

/-! ### Building the working copy (R174) -/

/-- The whole contents of an area. -/
def wholeTab {α : Type} (t : Tab (Cell α)) : Tab α :=
  t.filterMap fun p => match p.2 with
    | .whole a => some (p.1, a)
    | .torn => none

/-- A whole single record. -/
def wholeCell {α : Type} (c : Option (Cell α)) : Option α :=
  match c with
  | some (.whole a) => some a
  | _ => none

/-- A tracker entry as recovery restores it (R87). -/
def restoredTrack (d : TrackRec) : Track :=
  ⟨d, match d.state with | .sent => 0 | .inDoubt => offerLimit, none, none, false, none, false, false⟩

/-- The rows of a generation slot as they lie in the position area (R157). -/
def restoredRows (side : Side) (t : Tab Row) : Tab Row :=
  (t.filter fun p => match side with | .a => p.1 < 64 | .b => 64 ≤ p.1).map fun p =>
    (match side with | .a => p.1 | .b => p.1 - 64, p.2)

/-- The number of the whole frame in a frame slot, known or not; 0 for a torn one (R160). -/
def slotNumber : FrameSlot → Nat
  | .unknown number _ => number
  | p => ((slotFrame p).map (·.number)).getD 0

/-- The highest number of a whole frame in the frame area (R160). -/
def highestFrame (st : Store) : Nat :=
  st.frames.foldl (fun m p => max m (slotNumber p.2)) 0

/-- The highest index stored in a usable block (R142). -/
def highestIndex (s : State) : Nat :=
  s.control.store.journal.foldl (fun m c => match c.2 with
    | .whole e => if blockStateOf s.journal.blocks (c.1 / blockSlots) ≠ .bad then max m e.index else m
    | .torn => m) 0

/-- The journal's working part as recovery leaves it (R142, R174). -/
def builtJournal (s : State) (lastClosed : Nat) : Journal :=
  let c := (takenCopy s.control.store).1.content
  { s.journal with
    next := max (highestIndex s + 1) c.next
    oldest := retireTo (storedEntries s.control.store) c.oldest c.archived lastClosed
    archived := c.archived
    archivedStored := c.archived }

/-- The working copy built from the store (R174). After a fault a record may be torn that no frame has repaired; R172 says
only that the copy is built from the stored records as they stand. The model reads a torn record as one never written: a torn
place is free, a torn generation record the blank one of open period 1, a torn identity record absent (DESIGN CHOICE, log
entry 52). -/
def buildWorking (s : State) : State :=
  let st := s.control.store
  let ident := wholeCell st.identity
  let gen := (wholeCell st.gen).getD .blank
  let cards := wholeTab st.cards
  let rows := wholeTab st.rows
  let j := builtJournal s gen.lastClosed
  { s with
    ident := ident
    custody := ⟨cards, wholeTab st.locks, tabSum (fun c => c.available + c.held) cards⟩
    requests := ⟨wholeTab st.grants, [], [], []⟩
    tracker := ⟨tabMap restoredTrack (wholeTab st.trackers), (ident.map (·.highWater)).getD 0⟩
    positions := ⟨gen, restoredRows .a rows, restoredRows .b rows, gen.openPeriod - 1, none⟩
    journal := j
    cursors := ⟨s.cursors.table, j.archived⟩
    control := { s.control with nextFrame := highestFrame st + 1 } }

/-- A torn place of an area. -/
def anyTorn {α : Type} (t : Tab (Cell α)) : Bool := t.any fun p => match p.2 with
  | .torn => true
  | .whole _ => false

/-- A torn single record. -/
def cellTorn {α : Type} (c : Option (Cell α)) : Bool := match c with
  | some .torn => true
  | _ => false

/-- A record that no frame repairs is torn (R173). -/
def recordTorn (st : Store) : Bool :=
  cellTorn st.identity || anyTorn st.cards || anyTorn st.locks || anyTorn st.grants || anyTorn st.trackers
    || cellTorn st.gen || anyTorn st.rows

/-- The frames owed: kept until START (R174). -/
def isOwedFrame (c : Continuation) : Bool := match c with
  | .answer .. | .request .. => true
  | .slotOutcome .. | .notice _ | .none => false

/-- An owed continuation as recovery handles it (R174). -/
def handleOwed (c : Continuation) (s : State) : State :=
  match c with
  | .slotOutcome _ reqNo _ o => post .resolved (.work reqNo o.card) (outcomeCode o.code) s
  | .notice n => post n.kind n.subject n.code s
  | .answer .. | .request .. => { s with link := { s.link with owed := s.link.owed ++ [c] } }
  | .none => s

/-- Recovery ends without a fault: owed continuations in frame-number order, JOURNAL_RESERVE, then IDLE (R174). -/
def endRecovery (owed : List Continuation) (s : State) : State :=
  let s1 := owed.foldl (fun s c => handleOwed c s) s
  let s2 := if insideReserve s1 then post .journalReserve .none (freeCount s1.journal) s1 else s1
  { s2 with station := .idle, recovery := none }

end Sys2Proof.Machine
end

