-- ==== Sys2Proof/Machine/LinkEvents.lean ====
section
/-! DEFINITION. The link controller's events: a frame arriving (R52, R53), attempts and backoff (R47 to R49), the PRESENCE timer
(R51), frames owed by recovery (R50, R170), silence (R60). -/

namespace Sys2Proof.Machine

/-- The receiver listens: TRADING or HALTED (R52, R63). -/
def listening (s : State) : Bool := s.station = .trading || s.station = .halted

/-- Hearing a station sets its silence time to 0 (R52, R59). -/
def hear (j : Nat) (s : State) : State := putRoster j { rosterEntry s j with silence := 0 } s

/-- A frame that passed the first four tests: the roster step, then the destination and queue tests (R52). -/
def receiveFrame (f : LinkFrame) (s : State) : State :=
  let s1 := hear f.src s
  if (f.dst = 0 ∨ f.dst = ownStation s) ∧ s.link.rx.length < queuePlaces then
    { s1 with link := { s1.link with rx := s1.link.rx ++ [f] } }
  else s1

/-- A frame bearing the own number (R53). -/
def stationClash (s : State) : State := if isTrading s then enterHalted .stationClash true s else s

/-- The station drives an attempt: a frame it hears back from the pair then is its own (R52; log entry 40). -/
def drivesAttempt (s : State) : Bool := match s.link.phase with
  | .attempting | .abandoned => true
  | .quiet | .backoff _ => false

/-- FRAME_RECEIVED: the tests of R52 in order; a frame heard back while the station drives an attempt does not reach them. -/
def execFrameReceived (bytes : List Byte) (s : State) : Host.Outcome State Fault Refusal :=
  answer
    (if listening s ∧ !drivesAttempt s ∧ frameCheckOk bytes ∧ frameMall bytes = ownMall s then
      match decodeFrame bytes with
      | none => s
      | some f => if f.src = ownStation s then stationClash s else receiveFrame f s
    else s)

/-! ### Sending -/

/-- Sets the sender's phase and what it drives on the pair. -/
def withPhase (p : TxPhase) (driving : List Byte) (s : State) : State :=
  { s with link := { s.link with phase := p, driving := driving } }

/-- The head frame as an attempt sends it: a PRESENCE is filled in afresh (R51). -/
def filledIn (s : State) (f : TxFrame) : TxFrame := if isPresence f.payload then presenceFrame s f.attempts else f

/-- A frame of the transmit queue as it crosses the pair (R44). -/
def onTheWire (s : State) (f : TxFrame) : LinkFrame := ⟨ownStation s, f.dst, f.stamp, f.reqNo, f.payload⟩

/-- ATTEMPT_BEGIN: the head frame is attempted (R47). -/
def execAttemptBegin (s : State) : Host.Outcome State Fault Refusal :=
  answer
    (match s.link.phase, s.link.tx with
     | .quiet, f :: rest =>
       if listening s then
         let f1 := filledIn s f
         withPhase .attempting (encodeFrame (ownMall s) (onTheWire s f1))
           { s with link := { s.link with tx := f1 :: rest } }
       else s
     | _, _ => s)

/-- The head frame leaves the transmit queue, sent or dropped, and its owner is told (R47, R49). -/
def headGone (s : State) : State :=
  match s.link.tx with
  | f :: rest =>
    let s1 := withPhase .quiet [] { s with link := { s.link with tx := rest } }
    if isTrading s then tellOwner f s1 else s1
  | [] => withPhase .quiet [] s

/-- ATTEMPT_INTACT: the whole frame was sent (R47); an abandoned attempt ends with no further effect (R63). -/
def execAttemptIntact (s : State) : Host.Outcome State Fault Refusal :=
  answer
    (match s.link.phase with
     | .attempting => headGone s
     | .abandoned => withPhase .quiet [] s
     | .quiet | .backoff _ => s)

/-- The number of link slots drawn after the n-th collision: from 0 to 2^k - 1, k the smaller of n and 6 (R48; log entry 13).
-/
def backoffSlots (n draw : Nat) : Nat := draw % 2 ^ min n 6

/-- A collided attempt of the head frame (R48, R49). -/
def collide (draw : Nat) (s : State) : State :=
  match s.link.tx with
  | f :: rest =>
    if f.attempts + 1 < attemptLimit then
      withPhase (.backoff (backoffSlots (f.attempts + 1) draw)) []
        { s with link := { s.link with tx := { f with attempts := f.attempts + 1 } :: rest } }
    else headGone s
  | [] => withPhase .quiet [] s

/-- ATTEMPT_COLLIDED (R48, R49); an abandoned attempt ends with no further effect (R63). -/
def execAttemptCollided (draw : Nat) (s : State) : Host.Outcome State Fault Refusal :=
  answer
    (match s.link.phase with
     | .attempting => collide draw s
     | .abandoned => withPhase .quiet [] s
     | .quiet | .backoff _ => s)

/-- BACKOFF_END: the drawn wait is over (R48). -/
def execBackoffEnd (s : State) : Host.Outcome State Fault Refusal :=
  answer
    (match s.link.phase with
     | .backoff _ => withPhase .quiet s.link.driving s
     | .quiet | .attempting | .abandoned => s)

/-! ### Timers of the link -/

/-- PRESENCE_TIMER: 5 s since the last PRESENCE was offered (R51). -/
def execPresenceTimer (s : State) : Host.Outcome State Fault Refusal := answer (offerPresence s)

/-- The first owed frame that still has something to offer is placed when the queue has room (R50, R170). -/
def placeNextOwed (s : State) : State :=
  match s.link.owed.dropWhile fun c => !owedAlive s c with
  | [] => { s with link := { s.link with owed := [] } }
  | c :: cs => if txRoom s then offerOwed c { s with link := { s.link with owed := cs } } else s

/-- OWED_FRAME_PLACED (R50, R170). -/
def execOwedFramePlaced (s : State) : Host.Outcome State Fault Refusal :=
  answer (if isTrading s then placeNextOwed s else s)

/-- A roster entry whose silence time reaches 15 s becomes ABSENT, with its notice, and the clearing unit reads it (R60,
R105). -/
def goAbsent (j : Nat) (s : State) : State :=
  let s1 := putRoster j { rosterEntry s j with state := .absent, silence := silenceLimit } s
  rosterDown j (post .stationAbsent (.number j) 0 s1)

/-- The last millisecond of an entry's 15 s of silence has passed; an ABSENT entry does not count (R60). A frame from the
station taken first sets the silence time back to 0, and the entry does not become ABSENT. -/
def silenceOver (e : RosterEntry) : Bool := e.state ≠ .absent && silenceLimit ≤ e.silence + 1

/-- SILENCE_TIMEOUT (R60). -/
def execSilenceTimeout (station : Nat) (s : State) : Host.Outcome State Fault Refusal :=
  answer
    (if listening s ∧ 1 ≤ station ∧ station ≤ 63 ∧ station ≠ ownStation s ∧ silenceOver (rosterEntry s station) then
      goAbsent station s
    else s)

end Sys2Proof.Machine
end

