-- ==== Sys2Proof/Machine/Requests.lean ====
section
/-! DEFINITION. Hand-over of the requests of other stations to the home (R13 to R18, R26 to R35, R55 to R57). -/

namespace Sys2Proof.Machine

/-- Hand-over of the receive queue's head, when it is a frame of the kind asked for: the frame leaves the queue and is handed
to its owner. With another kind at the head, or a deaf receiver, nothing happens (R54, R55; log entry 1). -/
def handOver (kind : Payload → Bool) (take : LinkFrame → State → State) (s : State) :
    Host.Outcome State Fault Refusal :=
  answer
    (match s.link.rx with
     | f :: rest =>
       if listening s && kind f.payload then take f { s with link := { s.link with rx := rest } } else s
     | [] => s)

/-- The hand-over of a kind other than PRESENCE: discarded in HALTED; in TRADING the stamp is extended against the open
period and the raise handed over before the frame (R55 to R57). -/
def traded (serve : LinkFrame → Int → State → State) (f : LinkFrame) (s : State) : State :=
  if isTrading s then
    let ext := extendStamp (openPeriod s) f.stamp
    serve f ext (raiseByStamp ext s)
  else s

/-- A HOLD_REQ frame. -/
def isHoldReq (p : Payload) : Bool := match p with
  | .holdReq .. => true
  | _ => false

/-- A SETTLE_REQ frame. -/
def isSettleReq (p : Payload) : Bool := match p with
  | .settleReq .. => true
  | _ => false

/-- A CREDIT_REQ frame. -/
def isCreditReq (p : Payload) : Bool := match p with
  | .creditReq .. => true
  | _ => false

/-- A STATUS_REQ frame. -/
def isStatusReq (p : Payload) : Bool := match p with
  | .statusReq .. => true
  | _ => false

/-- The extended stamp is the open period (R13, R26). -/
def periodEqual (s : State) (ext : Int) : Bool := ext = openPeriod s

/-- The home's period check on a stamp later than the open period, the raise of R57 handed over before the frame (`traded`):
if a close can begin at this moment, the raise taken or not, the home begins it, and the check is then made again (R13, R26,
R96). -/
def periodCheck (ext : Int) (s : State) : State := if (openPeriod s : Int) < ext then examineBegin s else s

/-! ### HOLD_REQ -/

/-- A HOLD_ANS decline, answered at once (R26, R28, R29). -/
def declineHold (f : LinkFrame) (r : Reason) (s : State) : State :=
  offerAnswer f.src f.reqNo (.holdAns .declined 0 0 (some r)) s

/-- The recorded grant of an entry, as an answer to a repeat asking `amount` (R27). A request taken for a repeat after its
number has gone round (R24) may ask less than the recorded g: R27 is silent there, and PARTIAL is the model's choice (DESIGN
CHOICE, log entry 39). -/
def grantAgain (g : Grant) (amount : Nat) : Payload :=
  .holdAns (if grantAmount g = amount then .granted else .partially) (grantAmount g) ((grantTag g).getD 0) none

/-- A frame is the HOLD_GRANT frame of an entry's place (R27). -/
def grantFrameOf (place : Nat) (f : Frame) : Bool := f.format = .holdGrant && writesGrant place f

/-- A new HOLD_REQ: checks, amount, grant or decline (R28 to R30). -/
def decideHold (f : LinkFrame) (serial amount : Nat) (allowPartial : Bool) (s : State) : State :=
  match firstFail (holdChecks s f.src serial amount), findCard s serial with
  | some r, _ => declineHold f r s
  | none, none => declineHold f .unknownCard s
  | none, some (place, c) =>
    match holdAmount c.available amount allowPartial with
    | none => declineHold f .insufficient s
    | some (how, g) =>
      grantHold f.src (some f.reqNo) place c g (fun tag => .answer f.src f.reqNo (.holdAns how g tag none)) s

/-- A HOLD_REQ that has been through the period check: declined PERIOD, answered again, or decided (R26, R27). -/
def admitHold (f : LinkFrame) (ext : Int) (serial amount : Nat) (allowPartial : Bool) (s : State) : State :=
  if !periodEqual s ext then declineHold f .period s
  else
    match findHoldRepeat s f.src f.reqNo serial with
    | some (place, g) => answerAfter (unstored (grantFrameOf place) s) f.src f.reqNo (grantAgain g amount) s
    | none => decideHold f serial amount allowPartial s

/-- The home serves a HOLD_REQ (R26). -/
def serveHoldReq (f : LinkFrame) (ext : Int) (s : State) : State :=
  match f.payload with
  | .holdReq serial amount allowPartial =>
    if amount = 0 then s else admitHold f ext serial amount allowPartial (periodCheck ext s)
  | _ => s

/-- HOLD_REQ (R26). -/
def execHoldReq (s : State) : Host.Outcome State Fault Refusal := handOver isHoldReq (traded serveHoldReq) s

/-! ### SETTLE_REQ -/

/-- A SETTLE_ANS that changes nothing: at once, or once the pending frames that write the entry are stored (R32). -/
def settleAnswer (f : LinkFrame) (place : Nat) (p : Payload) (s : State) : State :=
  answerAfter (unstored (writesGrant place) s) f.src f.reqNo p s

/-- The home serves a CAPTURE on the entry found (R32 to R34). -/
def serveCapture (f : LinkFrame) (place : Nat) (g : Grant) (amount : Nat) (s : State) : State :=
  match g.body with
  | .hold tag a .isOpen =>
    if frameFree s then
      let c := clampCapture a amount
      captureHold place g c false
        ⟨.captureHome, g.period,
          .plain { card := some (ownCard s g.serial), amount := some c, counterpart := some f.src, tag := some tag,
                   reqNo := some f.reqNo }⟩
        (.answer f.src f.reqNo (.settleAns .done .capture c)) s
    else s
  | .hold _ _ (.captured c) => settleAnswer f place (.settleAns .done .capture c) s
  | _ => settleAnswer f place (.settleAns .tooLate .capture 0) s

/-- The home serves a RELEASE on the entry found (R32, R35). -/
def serveRelease (f : LinkFrame) (place : Nat) (g : Grant) (s : State) : State :=
  if grantOpen g then
    if frameFree s then releaseHold place g (.answer f.src f.reqNo (.settleAns .done .release (grantAmount g))) s
    else s
  else settleAnswer f place (.settleAns .done .release 0) s

/-- The home serves a SETTLE_REQ (R32). -/
def serveSettleReq (f : LinkFrame) (ext : Int) (s : State) : State :=
  match f.payload with
  | .settleReq .capture tag serial amount =>
    if amount = 0 then s
    else
      match findSettled s f.src tag serial ext with
      | none => offerAnswer f.src f.reqNo (.settleAns .tooLate .capture 0) s
      | some (place, g) => serveCapture f place g amount s
  | .settleReq .release tag serial _ =>
    match findSettled s f.src tag serial ext with
    | none => offerAnswer f.src f.reqNo (.settleAns .done .release 0) s
    | some (place, g) => serveRelease f place g s
  | _ => s

/-- SETTLE_REQ (R32). -/
def execSettleReq (s : State) : Host.Outcome State Fault Refusal := handOver isSettleReq (traded serveSettleReq) s

/-! ### CREDIT_REQ -/

/-- A CREDIT_ANS decline, answered at once (R13, R15). -/
def declineCredit (f : LinkFrame) (r : Reason) (s : State) : State :=
  offerAnswer f.src f.reqNo (.creditAns .declined (some r)) s

/-- CREDIT_ANS APPLIED (R14, R16). -/
def appliedAnswer : Payload := .creditAns .applied none

/-- A frame is the CREDIT_APPLY frame of an entry's place (R14). -/
def creditFrameOf (place : Nat) (f : Frame) : Bool := f.format = .creditApply && writesGrant place f

/-- A new CREDIT_REQ: checks, then application or decline (R15, R16). -/
def decideCredit (f : LinkFrame) (kind : CreditKind) (serial amount : Nat) (s : State) : State :=
  match firstFail (creditChecks s f.src serial kind amount), findCard s serial with
  | some r, _ => declineCredit f r s
  | none, none => declineCredit f .unknownCard s
  | none, some (place, c) =>
    applyCredit f.src (some f.reqNo) place c kind amount
      ⟨.creditHome, openPeriod s,
        .plain { card := some (ownCard s serial), amount := some amount, counterpart := some f.src,
                 reqNo := some f.reqNo, outcome := some (.credit kind) }⟩
      (.answer f.src f.reqNo appliedAnswer) s

/-- A CREDIT_REQ that has been through the period check: declined PERIOD, answered again, or decided (R13, R14). -/
def admitCredit (f : LinkFrame) (ext : Int) (kind : CreditKind) (serial amount : Nat) (s : State) : State :=
  if !periodEqual s ext then declineCredit f .period s
  else
    match findCreditRepeat s f.src f.reqNo serial kind amount with
    | some (place, _) => answerAfter (unstored (creditFrameOf place) s) f.src f.reqNo appliedAnswer s
    | none => decideCredit f kind serial amount s

/-- The home serves a CREDIT_REQ (R13). -/
def serveCreditReq (f : LinkFrame) (ext : Int) (s : State) : State :=
  match f.payload with
  | .creditReq kind serial amount =>
    if amount = 0 then s else admitCredit f ext kind serial amount (periodCheck ext s)
  | _ => s

/-- CREDIT_REQ (R13). -/
def execCreditReq (s : State) : Host.Outcome State Fault Refusal := handOver isCreditReq (traded serveCreditReq) s

/-! ### STATUS_REQ -/

/-- A STATUS_ANS with what the card shows (R17). -/
def statusAnswer (v : CardView × Nat × Nat) : Payload := .statusAns v.1 v.2.1 v.2.2

/-- The report of a card, held back behind the pending frames that write it (R17). -/
def reportCard (f : LinkFrame) (serial : Nat) (s : State) : State :=
  answerAfter (cardFrames s serial) f.src f.reqNo (statusAnswer (cardView s serial)) s

/-- The home serves a STATUS_REQ: an enquiry, or a freeze (R17, R18). -/
def serveStatusReq (f : LinkFrame) (_ext : Int) (s : State) : State :=
  match f.payload with
  | .statusReq .enquire serial => reportCard f serial s
  | .statusReq .freeze serial =>
    match freezeDecision s serial true with
    | .report => reportCard f serial s
    | .busy => offerAnswer f.src f.reqNo (.statusAns .busy 0 0) s
    | .change place c =>
      changeStatus place c (freezeDraft s serial f.src)
        (.answer f.src f.reqNo (statusAnswer (frozenView s serial, c.available, c.held))) s
  | _ => s

/-- STATUS_REQ (R17, R18). -/
def execStatusReq (s : State) : Host.Outcome State Fault Refusal := handOver isStatusReq (traded serveStatusReq) s

end Sys2Proof.Machine
end

