-- ==== Sys2Proof/Machine/Answers.lean ====
section
/-! DEFINITION. Hand-over of answers to the request tracker (R69, R70, R75, R78, R79, R81, R82, R85). -/

namespace Sys2Proof.Machine

/-- A HOLD_ANS frame. -/
def isHoldAns (p : Payload) : Bool := match p with
  | .holdAns .. => true
  | _ => false

/-- A SETTLE_ANS frame. -/
def isSettleAns (p : Payload) : Bool := match p with
  | .settleAns .. => true
  | _ => false

/-- A CREDIT_ANS frame. -/
def isCreditAns (p : Payload) : Bool := match p with
  | .creditAns .. => true
  | _ => false

/-- A STATUS_ANS frame. -/
def isStatusAns (p : Payload) : Bool := match p with
  | .statusAns .. => true
  | _ => false

/-- The answer's kind belongs to the entry's kind (R69). -/
def answersKind (p : Payload) (k : TrackKind) : Bool :=
  match p, k with
  | .holdAns .., .hold => true
  | .settleAns _ .capture _, .capture => true
  | .settleAns _ .release _, .release => true
  | .creditAns .., .credit _ => true
  | .statusAns .., .status _ => true
  | _, _ => false

/-- The entry an answer is taken for (R69). -/
def matchAnswer (s : State) (f : LinkFrame) (ext : Int) : Option (Nat × Track) :=
  match findTrack s f.src f.reqNo with
  | some (place, t) =>
    if answersKind f.payload t.data.kind ∧ (t.data.period : Int) ≤ ext ∧ t.orphan.isNone then some (place, t) else none
  | none => none

/-! ### HOLD_ANS -/

/-- A grant taken: the entry is freed and its slot enters HELD (R75). -/
def takeGrant (place : Nat) (t : Track) (how : HoldAnswer) (g tag : Nat) (s : State) : State :=
  let s1 := delTrack place s
  let s2 := match t.slot with
    | some n =>
      match getSlot s1 n with
      | some sl => enterHeld n ⟨tag, t.data.period, g⟩ { outcomeOf (grantCode how) sl.card with amount := g } s1
      | none => s1
    | none => s1
  reexamine t.data.home s2

/-- A decline taken: the entry is freed and its slot enters OUTCOME DECLINED (R75). -/
def takeDecline (place : Nat) (t : Track) (r : Option Reason) (s : State) : State :=
  reexamine t.data.home (linkedOutcome t.slot (fun sl => declinedOutcome sl.card r) (delTrack place s))

/-- A grant for an abandoned entry turns it into a detached RELEASE entry in the same place, with a new number; with no
number to give it is dropped (R85, R166). -/
def releaseAbandoned (place : Nat) (t : Track) (tag : Nat) (s : State) : State :=
  if numberReady 0 s then startVolatile place (releaseRec t.data.home t.data.serial tag t.data.period) none false s
  else dropTrack place t s

/-- The tracker takes a HOLD_ANS (R75, R85). -/
def takeHoldAns (f : LinkFrame) (ext : Int) (s : State) : State :=
  match matchAnswer s f ext, f.payload with
  | some (place, t), .holdAns .declined _ _ r =>
    if t.abandoned then dropTrack place t s else takeDecline place t r s
  | some (place, t), .holdAns how g tag _ =>
    if t.abandoned then releaseAbandoned place t tag s else takeGrant place t how g tag s
  | _, _ => s

/-- HOLD_ANS (R75). -/
def execHoldAns (s : State) : Host.Outcome State Fault Refusal := handOver isHoldAns (traded takeHoldAns) s

/-! ### The end of a stored entry -/

/-- The till reference of the slot an entry serves (R128). -/
def linkedRef (s : State) (t : Track) : Option Nat := (t.slot.bind (getSlot s)).bind (·.tillRef)

/-- An answer that books: the row, the journal entry and the freed entry in one ACQ_BOOK frame (R70, R78, R81). -/
def bookAnswer (place : Nat) (t : Track) (change : Row → Row) (draft : Draft) (outcome : CardId → OutcomeRec)
    (s : State) : State :=
  let cont := resolution t s outcome
  let booked := book t.data.period t.data.home change (cutLink t.slot (delTrack place s))
  let claimed := claim [draft] booked.1
  reexamine t.data.home
    (acceptFrame .acqBook ([.tracker place none] ++ booked.2 ++ [.journal (claimed.1.map (·.2))]) (claimed.1.map (·.1))
      cont claimed.2)

/-- An answer that books nothing: the entry is freed through a TRACKER_STORE frame (R70, R78, R81). -/
def refuseAnswer (place : Nat) (t : Track) (outcome : CardId → OutcomeRec) (s : State) : State :=
  let cont := resolution t s outcome
  reexamine t.data.home
    (acceptFrame .trackerStore [.tracker place none] [] cont (cutLink t.slot (delTrack place s)))

/-- A row after a capture booked at the acquirer (R78). -/
def acquired (c : Nat) (r : Row) : Row := { r with fig := { r.fig with ra := r.fig.ra + c }, ka := r.ka + 1 }

/-- A row after a credit booked at the acquirer (R81). -/
def creditedAway (kind : CreditKind) (a : Nat) (r : Row) : Row :=
  match kind with
  | .topup => { r with fig := { r.fig with ta := r.fig.ta + a } }
  | .refund => { r with fig := { r.fig with fa := r.fig.fa + a } }

/-! ### SETTLE_ANS -/

/-- DONE taken for a CAPTURE entry (R78). -/
def bookCapture (place : Nat) (t : Track) (c : Nat) (s : State) : State :=
  bookAnswer place t (acquired c)
    ⟨.captureAcq, t.data.period,
      .plain { card := some (cardId t.data.home t.data.serial), amount := some c, counterpart := some t.data.home,
               tag := t.data.tag, reqNo := some t.data.reqNo, tillRef := linkedRef s t }⟩
    (fun id => { outcomeOf .captured id with amount := c }) s

/-- Any SETTLE_ANS taken for a RELEASE entry (R79). -/
def takeReleased (place : Nat) (t : Track) (s : State) : State :=
  reexamine t.data.home (linkedOutcome t.slot (fun sl => outcomeOf .released sl.card) (delTrack place s))

/-- The tracker takes a SETTLE_ANS (R78, R79); with the frame area full an answer to a CAPTURE is discarded (R70). -/
def takeSettleAns (f : LinkFrame) (ext : Int) (s : State) : State :=
  match matchAnswer s f ext, f.payload with
  | some (place, t), .settleAns outcome .capture c =>
    if !frameFree s then s
    else
      match outcome with
      | .done => bookCapture place t c s
      | .tooLate => refuseAnswer place t (outcomeOf .captureRefused) s
  | some (place, t), .settleAns _ .release _ => takeReleased place t s
  | _, _ => s

/-- SETTLE_ANS (R78, R79). -/
def execSettleAns (s : State) : Host.Outcome State Fault Refusal := handOver isSettleAns (traded takeSettleAns) s

/-! ### CREDIT_ANS -/

/-- APPLIED taken for a CREDIT_REQ entry of a kind (R81). -/
def bookCredit (place : Nat) (t : Track) (kind : CreditKind) (s : State) : State :=
  bookAnswer place t (creditedAway kind t.data.amount)
    ⟨.creditAcq, t.data.period,
      .plain { card := some (cardId t.data.home t.data.serial), amount := some t.data.amount,
               counterpart := some t.data.home, reqNo := some t.data.reqNo, tillRef := linkedRef s t,
               outcome := some (.credit kind) }⟩
    (fun id => { outcomeOf .credited id with amount := t.data.amount }) s

/-- The tracker takes a CREDIT_ANS (R81); with the frame area full it is discarded (R70). -/
def takeCreditAns (f : LinkFrame) (ext : Int) (s : State) : State :=
  match matchAnswer s f ext, f.payload with
  | some (place, t), .creditAns outcome r =>
    if !frameFree s then s
    else
      match outcome, t.data.kind with
      | .applied, .credit kind => bookCredit place t kind s
      | .declined, _ => refuseAnswer place t (fun id => declinedOutcome id r) s
      | _, _ => s
  | _, _ => s

/-- CREDIT_ANS (R81). -/
def execCreditAns (s : State) : Host.Outcome State Fault Refusal := handOver isCreditAns (traded takeCreditAns) s

/-! ### STATUS_ANS -/

/-- The slot outcome of a STATUS_ANS: DECLINED(BUSY) or STATUS (R82). -/
def statusAnsOutcome (v : CardView) (available held : Nat) (card : CardId) : OutcomeRec :=
  match v with
  | .busy => declinedOutcome card (some .busy)
  | .active | .frozen | .locked | .unknown => statusOutcome card v available held

/-- The tracker takes a STATUS_ANS (R82). -/
def takeStatusAns (f : LinkFrame) (ext : Int) (s : State) : State :=
  match matchAnswer s f ext, f.payload with
  | some (place, t), .statusAns v available held =>
    reexamine t.data.home
      (linkedOutcome t.slot (fun sl => statusAnsOutcome v available held sl.card) (delTrack place s))
  | _, _ => s

/-- STATUS_ANS (R82). -/
def execStatusAns (s : State) : Host.Outcome State Fault Refusal := handOver isStatusAns (traded takeStatusAns) s

end Sys2Proof.Machine
end

