-- ==== Sys2Proof/Machine/Exchange.lean ====
section
/-! DEFINITION. Hand-over of PRESENCE (R55, R59, R61, R62, R83, R103) and of POSITION (R102 to R104). -/

namespace Sys2Proof.Machine

/-! ### PRESENCE -/

/-- The roster step of a PRESENCE handed over: the entry's fields, and the notice when its state changes (R59). -/
def noteStation (j : Nat) (halted : Bool) (period target : Nat) (s : State) : State :=
  let e := rosterEntry s j
  let st : Presence := if halted then .halted else .present
  let s1 := putRoster j { e with state := st, lastPeriod := period, target := target } s
  if e.state = st then s1
  else post (if halted then .stationHalted else .stationPresent) (.number j) 0 s1

/-- The two raises of a TRADING PRESENCE (R61). -/
def presenceRaises (period target : Nat) (s : State) : State := raiseTarget (period - 1) (raiseTarget target s)

/-- An IN_DOUBT entry that is due a resend to home `j`: not orphan, no resend in the queue or in its answer wait (R83). -/
def resendDue (s : State) (j : Nat) (t : Track) : Bool :=
  t.data.home = j && t.data.state = .inDoubt && t.orphan.isNone && !trackFree (lastClosed s) t && t.timer.isNone
    && !requestQueued s t

/-- Each IN_DOUBT entry of home `j` is offered once more (R83), in tracker-place order: R83 gives no order, and the model's
decides which offers come first in the transmit queue and which a full queue refuses (DESIGN CHOICE, log entry 44). -/
def resendInDoubt (j : Nat) (s : State) : State :=
  s.tracker.entries.foldl (fun s p => if resendDue s j p.2 then offerRequest p.1 p.2 s else s) s

/-- A TRADING PRESENCE that shows `j` closing the same period calls for POSITION while row `j` is AWAITING (R103). -/
def resendPosition (j period : Nat) (closing : Bool) (s : State) : State :=
  match s.positions.view with
  | some v =>
    if !v.completed ∧ (closeRow v j).state = .awaiting ∧ closing ∧ period = openPeriod s then callSend j s else s
  | none => s

/-- A PRESENCE handed over: the roster, and in TRADING the clearing unit's reading of it and the triggers of R61 and R62
(R55, R105). -/
def takePresence (f : LinkFrame) (s : State) : State :=
  match f.payload with
  | .presence halted period target closing =>
    let s1 := noteStation f.src halted period target s
    if isTrading s then
      if halted then rosterDown f.src s1
      else resendPosition f.src period closing (resendInDoubt f.src (presenceRaises period target s1))
    else s1
  | _ => s

/-- PRESENCE (R59, R61, R62). -/
def execPresence (s : State) : Host.Outcome State Fault Refusal := handOver isPresence takePresence s

/-! ### POSITION -/

/-- A POSITION frame. -/
def isPosition (p : Payload) : Bool := match p with
  | .position .. => true
  | _ => false

/-- A received figure is in range (R102). -/
def figuresInRange (f : Figures) : Bool :=
  f.ra ≤ figureLimit && f.ta ≤ figureLimit && f.fa ≤ figureLimit && f.ri ≤ figureLimit && f.ti ≤ figureLimit
    && f.fi ≤ figureLimit

/-- The row step stores the received figures as the mirror (R102). -/
def storesMirror (st : RowState) (held : Option Figures) (received : Figures) : Bool :=
  st = .awaiting || held ≠ some received

/-- The row state after the mirror is stored: PENDING and SILENT rows stay, the others are compared (R102, R104). -/
def comparedState (st : RowState) (ours received : Figures) : RowState :=
  match st with
  | .pending => .pending
  | .silent => .silent
  | .awaiting | .confirmed | .disputed | .empty => if figuresAgree ours received then .confirmed else .disputed

/-- The mirror of row `j` is stored and compared as its state asks; a row that turns DISPUTED announces it (R102, R104). -/
def storeMirror (j : Nat) (c : CloseRow) (received : Figures) (s : State) : State :=
  let r : Row := { closingRow s j with mirror := some received, haveYours := true }
  let st := comparedState c.state r.fig received
  let cont : Continuation :=
    if st = .disputed ∧ c.state ≠ .disputed then .notice (disputedNotice s j) else .none
  acceptFrame .mirrorStore [.row (closingSide s) j r] [] cont
    (setCloseRow j ⟨st, c.final⟩ (putRow (closingSide s) j r s))

/-- A POSITION with have-yours no draws this station's figures once its own side is final (R103). -/
def replyPosition (j : Nat) (haveYours : Bool) (c : CloseRow) (s : State) : State :=
  if !haveYours && c.final then callSend j s else s

/-- The clearing unit takes a POSITION (R102, R103). -/
def takePosition (f : LinkFrame) (_ext : Int) (s : State) : State :=
  match f.payload, s.positions.view with
  | .position period figures haveYours, some v =>
    if !s.positions.gen.closing ∨ period ≠ closingPeriod s ∨ !figuresInRange figures then s
    else
      let c := closeRow v f.src
      if v.completed then replyPosition f.src haveYours c s
      else if storesMirror c.state (closingRow s f.src).mirror figures then
        if frameFree s then examineCompletion (replyPosition f.src haveYours c (storeMirror f.src c figures s)) else s
      else replyPosition f.src haveYours c s
  | _, _ => s

/-- POSITION (R102). -/
def execPosition (s : State) : Host.Outcome State Fault Refusal := handOver isPosition (traded takePosition) s

end Sys2Proof.Machine
end

