-- ==== Sys2Proof/Machine/Timers.lean ====
section
/-! DEFINITION. Timers that run out, and work that waits for a frame slot: hold lives (R38, R39), hold timers (R76), answer waits
(R68, R71, R83), the move to IN_DOUBT (R71), releases of freed slots (R37, R85), the counter step (R166), close begin, the close
deadline and close completion (R96, R97, R107, R109, R110). -/

namespace Sys2Proof.Machine

/-! ### Hold lives -/

/-- The OPEN hold with a tag and its remaining life (R22, R38). -/
def openLife (s : State) (tag : Nat) : Option ((Nat × Grant) × Nat) :=
  match findHold s tag, tabGet s.requests.lives tag with
  | some p, some life => if grantOpen p.2 then some (p, life) else none
  | _, _ => none

/-- An expiry is held back: the entry stays OPEN with no life left (R39). A release that waits for it by R85 is made no more,
since the life ran out before a frame slot freed and the hold expires instead. R85 speaks of the life that runs out; that a
forced expiry held back, of a hold with life left, gives the waiting release up in the same way is the model's choice (DESIGN
CHOICE, log entry 57). -/
def holdBack (tag : Nat) (s : State) : State :=
  { s with requests := { s.requests with
      lives := tabPut s.requests.lives tag 0
      lapsing := s.requests.lapsing.filter fun t => t ≠ tag } }

/-- HOLD_EXPIRY: the life of an OPEN hold runs out; with the frame area full the expiry is held back (R38, R39). -/
def execHoldExpiry (tag : Nat) (s : State) : Host.Outcome State Fault Refusal :=
  answer
    (match openLife s tag with
     | some ((place, g), life) =>
       if isTrading s ∧ life ≠ 0 then if frameFree s then expireHold place g s else holdBack tag s else s
     | none => s)

/-- HELD_BACK_EXPIRY: an expiry held back takes a free frame slot (R39). -/
def execHeldBackExpiry (tag : Nat) (s : State) : Host.Outcome State Fault Refusal :=
  answer
    (match openLife s tag with
     | some ((place, g), life) => if isTrading s ∧ life = 0 ∧ frameFree s then expireHold place g s else s
     | none => s)

/-! ### Hold timers -/

/-- The HOLD_LAPSED outcome of a slot: an own card's carries its available balance (R64, R76). -/
def lapsedOutcome (s : State) (sl : Slot) : OutcomeRec :=
  if isOwn s sl.card then ownOutcome s .holdLapsed sl.card else outcomeOf .holdLapsed sl.card

/-- HOLD_TIMER_EXPIRY: the hold timer of a HELD slot runs out (R76). -/
def execHoldTimerExpiry (slot : Nat) (s : State) : Host.Outcome State Fault Refusal :=
  answer
    (match getSlot s slot with
     | some sl => if isTrading s ∧ sl.state = .held then setOutcome slot (lapsedOutcome s sl) s else s
     | none => s)

/-! ### Answer waits -/

/-- A volatile entry is dropped and its linked slot shows a code (R71). -/
def giveUp (code : OutcomeCode) (place : Nat) (t : Track) (s : State) : State :=
  reexamine t.data.home (linkedOutcome t.slot (fun sl => outcomeOf code sl.card) (delTrack place s))

/-- A SENT entry whose attempts are exhausted ends as its kind gives (R71). -/
def exhaust (place : Nat) (t : Track) (s : State) : State :=
  match t.data.kind with
  | .hold | .status _ => giveUp .noAnswer place t s
  | .release => giveUp .releaseAssumed place t s
  | .capture | .credit _ => moveInDoubt place t s

/-- An entry's answer wait runs out: offered again, exhausted, or, IN_DOUBT, left as it is (R68, R71, R83). -/
def waitOver (place : Nat) (t : Track) (s : State) : State :=
  match t.data.state with
  | .inDoubt => putTrack place { t with timer := none } s
  | .sent => if t.attempts < offerLimit then offerRequest place t s else exhaust place t s

/-- ANSWER_WAIT_EXPIRY (R68, R71, R83). -/
def execAnswerWaitExpiry (home reqNo : Nat) (s : State) : Host.Outcome State Fault Refusal :=
  answer
    (match findTrack s home reqNo with
     | some (place, t) => if isTrading s ∧ t.timer.isSome ∧ t.orphan.isNone then waitOver place t s else s
     | none => s)

/-- IN_DOUBT_MOVE: a waiting move takes a free frame slot (R71, R86). -/
def execInDoubtMove (home reqNo : Nat) (s : State) : Host.Outcome State Fault Refusal :=
  answer
    (match findTrack s home reqNo with
     | some (place, t) => if isTrading s ∧ t.moveWaiting ∧ frameFree s then moveInDoubt place t s else s
     | none => s)

/-! ### Waiting releases and the counter step -/

/-- A release is no longer waited for. -/
def undefer (tag : Nat) (s : State) : State :=
  { s with requests := { s.requests with
      deferred := s.requests.deferred.filter fun t => t ≠ tag
      lapsing := s.requests.lapsing.filter fun t => t ≠ tag } }

/-- A release of the hold with a tag waits for a frame slot (R37, R85). -/
def releasePending (s : State) (tag : Nat) : Bool := s.requests.deferred.contains tag || s.requests.lapsing.contains tag

/-- DEFERRED_RELEASE: the release of a freed slot's own hold takes a free frame slot, unless the hold has ended (R37, R85).
-/
def execDeferredRelease (tag : Nat) (s : State) : Host.Outcome State Fault Refusal :=
  answer
    (if isTrading s ∧ releasePending s tag ∧ frameFree s then
      match findHold s tag with
      | some (place, g) => if grantOpen g then releaseHold place g .none s else undefer tag s
      | none => undefer tag s
    else s)

/-- COUNTER_STEP: a needed step takes a free frame slot (R166; log entry 17). -/
def execCounterStep (s : State) : Host.Outcome State Fault Refusal :=
  answer (if isTrading s ∧ (nextNumber s).2 ∧ frameFree s then takeStep s else s)

/-! ### The close -/

/-- CLOSE_BEGIN: close begin is examined (R96, R97). -/
def execCloseBegin (s : State) : Host.Outcome State Fault Refusal := answer (examineBegin s)

/-- CLOSE_COMPLETION: close completion is examined (R109, R110). -/
def execCloseCompletion (s : State) : Host.Outcome State Fault Refusal := answer (examineCompletion s)

/-- Every counterpart row PENDING or AWAITING becomes SILENT, its own-side-final flag as it stood (R107). -/
def silenceRows (s : State) : State :=
  (counterparts s).foldl (fun s j =>
    match s.positions.view with
    | some v =>
      let c := closeRow v j
      if rowSettled c.state then s else setCloseRow j ⟨.silent, c.final⟩ s
    | none => s) s

/-- Every slot HELD on a hold of the closing period shows HOLD_LAPSED (R86). -/
def lapseSlots (p : Nat) (s : State) : State :=
  s.slots.foldl (fun s e =>
    match e.2.hold with
    | some h => if e.2.state = .held ∧ h.period = p then writeOutcome e.1 e.2 (lapsedOutcome s e.2) s else s
    | none => s) s

/-- A linked slot's outcome at the deadline; the clearing unit examines every row afterwards (R86). -/
def deadlineOutcome (code : OutcomeCode) (slot : Option Nat) (s : State) : State :=
  match slot with
  | some n =>
    match getSlot s n with
    | some sl => writeOutcome n sl (outcomeOf code sl.card) s
    | none => s
  | none => s

/-- The request-kind code of an ORPHANED notice (R176). -/
def orphanCode (k : TrackKind) : Nat := orphanKindCode (orphanKind k)

/-- What the deadline does to a tracker entry of the period (R86). -/
def deadlineTrack (place : Nat) (t : Track) (s : State) : State :=
  match t.data.kind with
  | .hold | .status _ => deadlineOutcome .noAnswer t.slot (delTrack place s)
  | .release => deadlineOutcome .releaseAssumed t.slot (delTrack place s)
  | .capture | .credit _ =>
    if t.orphan.isSome then s
    else
      post .orphaned (.work (some t.data.reqNo) (cardId t.data.home t.data.serial)) (orphanCode t.data.kind)
        (deadlineOutcome .inDoubt t.slot (putTrack place { t with orphan := some t.data.state, slot := none, timer := none } s))

/-- Every tracker entry of the closing period (R86). -/
def deadlineTracks (p : Nat) (s : State) : State :=
  s.tracker.entries.foldl (fun s e =>
    if e.2.data.period = p ∧ !trackFree (lastClosed s) e.2 then deadlineTrack e.1 e.2 s else s) s

/-- A forced expiry: taken while a frame slot is free, else held back "in the same way" (R39, R107). Held back, it takes the
rest of the hold's life, and a release that waits by R85 for a slot freed while AUTHORISING is given up with it, so that such
a hold can only expire: R39 and R85 leave the forced case open (DESIGN CHOICE, log entry 57). -/
def forceExpiry (place : Nat) (g : Grant) (s : State) : State :=
  if frameFree s then expireEntry place g s else holdBack ((grantTag g).getD 0) s

/-- Every OPEN hold of the closing period is forced to expire (R107; log entry 21 for the order). -/
def forceExpiries (p : Nat) (s : State) : State :=
  s.requests.grants.foldl (fun s e =>
    if grantOpen e.2 ∧ e.2.period = p ∧ !grantFree (lastClosed s) e.2 then forceExpiry e.1 e.2 s else s) s

/-- The deadline has passed: no time is left (R107). -/
def deadlineSpent (s : State) : State :=
  match s.positions.view with
  | some v => setView { v with deadline := some 0 } s
  | none => s

/-- The close deadline passes (R107): rows turn SILENT, slots lapse, entries are dropped or made orphan, holds expire; then
every row's finality and close completion are examined (log entry 21). -/
def passDeadline (s : State) : State :=
  let p := closingPeriod s
  examineCompletion (examineRows (forceExpiries p (deadlineTracks p (lapseSlots p (silenceRows (deadlineSpent s))))))

/-- The deadline still runs (R106). -/
def deadlineRuns (s : State) : Bool :=
  isTrading s && (match s.positions.view with
    | some v => !v.completed && v.deadline.any fun ms => ms ≠ 0
    | none => false)

/-- CLOSE_DEADLINE (R107). -/
def execCloseDeadline (s : State) : Host.Outcome State Fault Refusal :=
  answer (if deadlineRuns s then passDeadline s else s)

end Sys2Proof.Machine
end

