-- ==== Sys2Proof/Machine/StoreEvents.lean ====
section
/-! DEFINITION. The store's events: a program ends (R158, R162 to R164), an erase begins and ends (R139 to R141), reset, its
release, and the end of recovery (R168, R172 to R175). -/

namespace Sys2Proof.Machine

/-! ### A frame is stored -/

/-- A pending frame is marked stored. -/
def markStored (n : Nat) (s : State) : State :=
  { s with control := { s.control with
      frames := s.control.frames.map fun f => if f.frame.number = n then { f with stored := true } else f } }

/-- The generation record a frame carries. -/
def frameGen (f : Frame) : Option GenRec := f.writeBacks.findSome? fun w => match w.target with
  | .generation g => some g
  | _ => none

/-- The archived-through index a frame carries. -/
def frameArchived (f : Frame) : Option Nat := f.writeBacks.findSome? fun w => match w.target with
  | .control c => some c.archived
  | _ => none

/-- CLOSE_END is stored: the working generation record takes closing no and the last closed period the frame carries, and the
closing generation is gone; entries and cards retire by it (R20, R42, R66, R111, R137). -/
def closeEndStored (f : Frame) (s : State) : State :=
  match frameGen f with
  | some g =>
    retire { s with
      positions := { s.positions with
        gen := { s.positions.gen with closing := false, lastClosed := g.lastClosed }
        view := none } }
  | none => s

/-- ARCHIVE_STORE is stored: the stored archived-through index rises, and entries retire by it (R137, R155). -/
def archiveStored (f : Frame) (s : State) : State :=
  match frameArchived f with
  | some a => retire { s with journal := { s.journal with archivedStored := a } }
  | none => s

/-- What a frame's storing changes before its continuation is carried out. -/
def storedEffect (f : Frame) (s : State) : State :=
  match f.format with
  | .closeEnd => closeEndStored f s
  | .archiveStore => archiveStored f s
  | _ => s

/-- A grant whose AUTHORISING slot was freed is released now, or waits for a frame slot; one whose life has run out already
expires instead, by the expiry that is held back (R39, R85; log entry 22), and so does one whose forced expiry is held back
(DESIGN CHOICE, log entry 57). -/
def releaseUnshown (h : HoldRef) (serial : Nat) (s : State) : State :=
  match findSettled s (ownStation s) h.tag serial h.period with
  | none => s
  | some (place, g) =>
    if !grantOpen g || tabGet s.requests.lives h.tag = some 0 then s
    else if frameFree s then releaseHold place g .none s
    else { s with requests := { s.requests with lapsing := s.requests.lapsing ++ [h.tag] } }

/-- The owed slot outcome of a stored frame: set, unless the slot has been freed; a grant whose slot was freed is released
(R85, R162). -/
def announceOutcome (freed : Bool) (slot : Nat) (holds : Option HoldRef) (o : OutcomeRec) (s : State) : State :=
  match holds, freed with
  | some h, true => releaseUnshown h o.card.serial s
  | none, true => s
  | some h, false => enterHeld slot h o s
  | none, false => setOutcome slot o s

/-- A stored frame's continuation is carried out (R162). -/
def announce (freed : Bool) (c : Continuation) (s : State) : State :=
  match c with
  | .none => s
  | .answer dst n p => offerAnswer dst n p s
  | .request home n _ _ => offerRequestOf home n s
  | .slotOutcome slot _ holds o => announceOutcome freed slot holds o s
  | .notice n => post n.kind n.subject n.code s

/-- A frame that offers a PRESENCE when stored (R51, R97, R111). -/
def offersPresence (f : FrameFormat) : Bool := f = .closeBegin || f = .closeEnd

/-- A frame has been stored: continuation, PRESENCE, waits, and close begin after a CLOSE_END (R111, R162, R164). That the
notices of the continuation join the queue before those of the waits is the model's choice (R177 leaves it open; DESIGN
CHOICE, log entry 54). -/
def frameStored (p : PendingFrame) (s : State) : State :=
  let f := p.frame
  let s1 := announce p.slotFreed f.continuation (storedEffect f (markStored f.number s))
  let s2 := releaseWaits f.number (if offersPresence f.format then offerPresence s1 else s1)
  if f.format = .closeEnd then examineBegin s2 else s2

/-! ### A program ends -/

/-- A frame slot's done mark is programmed: the frame is no longer pending (R163). -/
def frameDone (slot : Nat) (s : State) : State :=
  { s with control := { s.control with frames := s.control.frames.filter fun f => f.slot ≠ slot } }

/-- A control-record program of the erase scheduler has completed in IDLE or TRADING: the erase starts, or, its end recorded,
the station halts with fewer than 4 usable blocks (R139, R141). -/
def controlStored (use : ControlUse) (s : State) : State :=
  match use with
  | .eraseBegin => startErase s
  | .eraseEnd => if usableBlocks s.journal.blocks < minUsable then enterHalted .journalWorn false s else s
  | .frame => s

/-- What the completion of a program brings about in IDLE or TRADING, its content already in the store. -/
def programDone (p : Program) (s : State) : State :=
  match p with
  | .frame slot _ =>
    match s.control.frames.find? fun f => f.slot = slot with
    | some pf => frameStored pf s
    | none => s
  | .done slot => frameDone slot s
  | .control _ _ use => controlStored use s
  | .target _ | .entry _ _ | .clearFrame _ => s

/-- The continuation a frame slot's frame owes, as recovery takes it when the frame is completed (R173). -/
def owedBy (st : Store) (slot : Nat) : List Continuation :=
  match (tabGet st.frames slot).bind slotFrame with
  | some f => match f.continuation with
    | .none => []
    | c => [c]
  | none => []

/-- What the completion of a program brings about in RECOVERING. -/
def recoveryProgramDone (p : Program) (s : State) : State :=
  match p with
  | .done slot =>
    { s with recovery := s.recovery.map fun r => { r with owed := r.owed ++ owedBy s.control.store slot } }
  | .control _ _ .eraseBegin => startErase s
  | .control _ _ .eraseEnd => scanAndComplete s
  | .control _ _ .frame | .frame _ _ | .target _ | .entry _ _ | .clearFrame _ => s

/-- The program at the head of the queue has left it, with its place as its end leaves it (R158). -/
def programEnds (p : Program) (rest : List Program) (result : ProgramResult) (s : State) : State :=
  { s with control := { s.control with
      queue := rest
      store := match result with
        | .completed => programWrite s.control.store p
        | .failedUnchanged => s.control.store
        | .failedTorn => programTear s.control.store p } }

/-- The blocks as the stored control record has them, the copy R157 takes. -/
def storedBlocks (st : Store) : List Block := (takenCopy st).1.content.blocks

/-- A program fails during recovery (R173): recovery stops, the blocks are read again from the stored control record and the
journal is scanned again, so that the write point and the block states of HALTED are the store's as it stands, and no place
that a program not run was to take is counted as taken (R142, R172). -/
def recoveryFails (s : State) : State :=
  recoveryStops .recoveryFailed
    (scanJournal { s with journal := { s.journal with blocks := storedBlocks s.control.store } })

/-- The end of the program under way, by station state (R158, R171, R173). -/
def endProgram (p : Program) (rest : List Program) (result : ProgramResult) (s : State) : State :=
  let s1 := programEnds p rest result s
  match s.station with
  | .idle | .trading =>
    if result = .completed then programDone p s1 else enterHalted .programFailed false s1
  | .recovering => if result = .completed then recoveryProgramDone p s1 else recoveryFails s1
  | .halted => s1
  | .held => s

/-- PROGRAM_COMPLETE (R158). -/
def execProgramComplete (result : ProgramResult) (s : State) : Host.Outcome State Fault Refusal :=
  answer
    (match s.control.queue with
     | p :: rest => endProgram p rest result s
     | [] => s)

/-! ### Erasing -/

/-- The station erases: IDLE or TRADING (R139). -/
def erases (s : State) : Bool := s.station = .idle || s.station = .trading

/-- ERASE_BEGIN (R139). -/
def execEraseBegin (s : State) : Host.Outcome State Fault Refusal :=
  answer
    (if erases s ∧ s.journal.erase = none ∧ minUsable ≤ usableBlocks s.journal.blocks then
      match eraseCandidate s with
      | some b => beginErase b s
      | none => s
    else s)

/-- The free count has left the reserve: JOURNAL_CLEAR, and close begin is examined (R135). -/
def clearReserve (before : Nat) (s : State) : State :=
  if before ≤ reserveSlots ∧ reserveSlots < freeCount s.journal then
    examineBegin (post .journalClear .none (freeCount s.journal) s)
  else s

/-- ERASE_COMPLETE: the erase that runs ends (R139, R141, R142). -/
def execEraseComplete (ok : Bool) (s : State) : Host.Outcome State Fault Refusal :=
  answer
    (match runningErase s with
     | some b =>
       match s.station with
       | .idle | .trading => clearReserve (freeCount s.journal) (endErase ok b s)
       | .recovering => endErase ok b s
       | .halted | .held => s
     | none => s)

/-! ### Reset and recovery -/

/-- The store as a reset leaves it: the place of the program under way is torn (R158, R168). -/
def cutOff (c : Control) : Store :=
  match c.queue with
  | p :: _ => programTear c.store p
  | [] => c.store

/-- RESET: the part is held in reset, every volatile state lost (R168, R175). An erase under way is cut off, and R142 erases
its block again; what the cut-off erase leaves in the slots of the block until then the manual does not say, and that every
slot stays as it was is the model's choice (DESIGN CHOICE, log entry 50). -/
def execReset (s : State) : Host.Outcome State Fault Refusal :=
  answer
    { station := .held, fault := none, conf := none, ident := none, custody := .blank, requests := .blank,
      link := .blank, slots := [], tracker := .blank, positions := .blank, journal := .blank, cursors := .blank,
      notices := .blank, control := ⟨cutOff s.control, [], [], [], 1⟩, recovery := none, leftStored := 0, port := .blank,
      pending := s.pending }

/-- RESET_RELEASE: from reset the station enters RECOVERING (R168, R172). -/
def execResetRelease (s : State) : Host.Outcome State Fault Refusal :=
  answer (if s.station = .held then beginRecovery s else s)

/-- Recovery has nothing left to do before its end (R172 to R174). -/
def recoveryDone (s : State) : Option Recovery :=
  match s.recovery with
  | some r =>
    if s.station = .recovering ∧ r.phase = .completing ∧ s.control.queue.isEmpty ∧ s.journal.erase = none then some r
    else none
  | none => none

/-- RECOVERY_END: the working copy is built, and the station enters IDLE, or HALTED on a fault (R172 to R174). The frames
that a fault leaves STORED stay pending, since R161 ends that with the done mark alone, and are counted so that STATUS
reports them (R172; DEDUCED, log entry 53). -/
def execRecoveryEnd (s : State) : Host.Outcome State Fault Refusal :=
  answer
    (match recoveryDone s with
     | some r =>
       let fault := r.fault <|> (if recordTorn s.control.store then some .recoveryFailed else none)
       let s1 := buildWorking s
       match fault with
       | some code => { enterHalted code false s1 with recovery := none, leftStored := storedCount s.control.store }
       | none => endRecovery r.owed s1
     | none => s)

end Sys2Proof.Machine
end

