-- ==== Sys2Proof/Machine/Time.lean ====
section
/-! DEFINITION. The passing of one millisecond: every timer that counts goes on, and one whose last millisecond has passed puts its
own command in the queue (R38, R51, R60, R68, R76, R106, R139; log entry 2). -/

namespace Sys2Proof.Machine

/-- A timer one millisecond later; its last millisecond is kept until its command is taken. -/
def countDown (ms : Nat) : Nat := if ms ≤ 1 then ms else ms - 1

/-- A timer's last millisecond has passed. A life of 0 is an expiry held back (R39), a deadline of 0 has passed (R107). -/
def lastMs (ms : Nat) : Bool := ms = 1

/-- A roster entry one millisecond later; an ABSENT one does not count (R60). -/
def silenceOn (e : RosterEntry) : RosterEntry :=
  if e.state = .absent ∨ silenceOver e then e else { e with silence := e.silence + 1 }

/-- The roster entries whose silence time reaches 15 s (R60). -/
def silenceDue (s : State) : List Instr :=
  (s.link.roster.filter fun p => silenceOver p.2).map fun p => .silenceTimeout p.1

/-- The timers of a TRADING station that run out, as their commands. -/
def timersDue (s : State) : List Instr :=
  ((s.requests.lives.filter fun p => lastMs p.2).map fun p => Instr.holdExpiry p.1)
    ++ ((s.slots.filter fun p => p.2.state = .held && p.2.timer.any lastMs).map fun p => .holdTimerExpiry p.1)
    ++ ((s.tracker.entries.filter fun p => !trackFree (lastClosed s) p.2 && p.2.timer.any lastMs).map
          fun p => .answerWaitExpiry p.2.data.home p.2.data.reqNo)
    ++ (if s.positions.view.any fun v => !v.completed && v.deadline.any lastMs then [.closeDeadline] else [])
    ++ (if s.link.presenceTimer ≤ 1 then [.presenceTimer] else [])

/-- The timers of a TRADING station one millisecond later. -/
def timersOn (s : State) : State :=
  { s with
    requests := { s.requests with lives := tabMap countDown s.requests.lives }
    slots := tabMap (fun sl => { sl with timer := sl.timer.map countDown }) s.slots
    tracker := { s.tracker with entries := tabMap (fun t => { t with timer := t.timer.map countDown }) s.tracker.entries }
    positions := { s.positions with
      view := s.positions.view.map fun v => { v with deadline := v.deadline.map countDown } }
    link := { s.link with presenceTimer := countDown s.link.presenceTimer } }

/-- The erase that runs has spent one millisecond more; one that programs suspend has not (R140). -/
def eraseOn (s : State) : State :=
  match s.journal.erase with
  | some ⟨b, .running spent⟩ =>
    if s.control.queue.isEmpty then
      { s with journal := { s.journal with erase := some ⟨b, .running (spent + 1)⟩ } }
    else s
  | _ => s

/-- The silence times one millisecond later (R60). -/
def silencesOn (s : State) : State :=
  { s with link := { s.link with roster := tabMap silenceOn s.link.roster } }

/-- One millisecond with no command waiting, by station state; the commands of timers that run out join the queue (log
entries 2 and 11). -/
def tick (s : State) : State :=
  match s.station with
  | .held => s
  | .recovering | .idle => eraseOn s
  | .trading => { eraseOn (timersOn (silencesOn s)) with pending := s.pending ++ timersDue s ++ silenceDue s }
  | .halted => { silencesOn s with pending := s.pending ++ silenceDue s }

end Sys2Proof.Machine
end

