-- ==== Sys2Proof/Machine/Dispatch.lean ====
section
/-! DEFINITION. exec: one arm for each command of the table, each one direct call of its meaning. -/

namespace Sys2Proof.Machine

def exec (i : Instr) (s : State) : Host.Outcome State Fault Refusal :=
  match i with
  | .status protectN => Sys2Proof.Machine.execStatus protectN s
  | .start station mall feeRate fixedFee ceiling holdLife closeLimit => Sys2Proof.Machine.execStart station mall feeRate fixedFee ceiling holdLife closeLimit s
  | .close => Sys2Proof.Machine.execClose s
  | .rosterRead => Sys2Proof.Machine.execRosterRead s
  | .issue slot amount reloadable tillRef => Sys2Proof.Machine.execIssue slot amount reloadable tillRef s
  | .redeem slot card amount allowPartial tillRef => Sys2Proof.Machine.execRedeem slot card amount allowPartial tillRef s
  | .complete slot amount => Sys2Proof.Machine.execComplete slot amount s
  | .cancel slot => Sys2Proof.Machine.execCancel slot s
  | .topup slot card amount tillRef => Sys2Proof.Machine.execTopup slot card amount tillRef s
  | .refund slot card amount tillRef => Sys2Proof.Machine.execRefund slot card amount tillRef s
  | .enquire slot card => Sys2Proof.Machine.execEnquire slot card s
  | .freeze slot card => Sys2Proof.Machine.execFreeze slot card s
  | .unfreeze slot card tillRef protectN => Sys2Proof.Machine.execUnfreeze slot card tillRef protectN s
  | .rangeLock lock low high active protectN => Sys2Proof.Machine.execRangeLock lock low high active protectN s
  | .slotRead slot => Sys2Proof.Machine.execSlotRead slot s
  | .slotFree slot => Sys2Proof.Machine.execSlotFree slot s
  | .takeNotice => Sys2Proof.Machine.execTakeNotice s
  | .setMask mask => Sys2Proof.Machine.execSetMask mask s
  | .positionRead generation station => Sys2Proof.Machine.execPositionRead generation station s
  | .cursorSet cursor startIndex count blockLen direction endAction mode filter notice => Sys2Proof.Machine.execCursorSet cursor startIndex count blockLen direction endAction mode filter notice s
  | .cursorRead cursor => Sys2Proof.Machine.execCursorRead cursor s
  | .archiveAck index => Sys2Proof.Machine.execArchiveAck index s
  | .badCommand opcode => Sys2Proof.Machine.execBadCommand opcode s
  | .cursorEntryRead => Sys2Proof.Machine.execCursorEntryRead s
  | .noticeRecordClocked => Sys2Proof.Machine.execNoticeRecordClocked s
  | .noticesLostCleared => Sys2Proof.Machine.execNoticesLostCleared s
  | .frameReceived bytes => Sys2Proof.Machine.execFrameReceived bytes s
  | .presence => Sys2Proof.Machine.execPresence s
  | .holdReq => Sys2Proof.Machine.execHoldReq s
  | .settleReq => Sys2Proof.Machine.execSettleReq s
  | .creditReq => Sys2Proof.Machine.execCreditReq s
  | .statusReq => Sys2Proof.Machine.execStatusReq s
  | .holdAns => Sys2Proof.Machine.execHoldAns s
  | .settleAns => Sys2Proof.Machine.execSettleAns s
  | .creditAns => Sys2Proof.Machine.execCreditAns s
  | .statusAns => Sys2Proof.Machine.execStatusAns s
  | .position => Sys2Proof.Machine.execPosition s
  | .attemptBegin => Sys2Proof.Machine.execAttemptBegin s
  | .attemptIntact => Sys2Proof.Machine.execAttemptIntact s
  | .attemptCollided draw => Sys2Proof.Machine.execAttemptCollided draw s
  | .backoffEnd => Sys2Proof.Machine.execBackoffEnd s
  | .presenceTimer => Sys2Proof.Machine.execPresenceTimer s
  | .owedFramePlaced => Sys2Proof.Machine.execOwedFramePlaced s
  | .silenceTimeout station => Sys2Proof.Machine.execSilenceTimeout station s
  | .holdExpiry tag => Sys2Proof.Machine.execHoldExpiry tag s
  | .heldBackExpiry tag => Sys2Proof.Machine.execHeldBackExpiry tag s
  | .holdTimerExpiry slot => Sys2Proof.Machine.execHoldTimerExpiry slot s
  | .answerWaitExpiry home reqNo => Sys2Proof.Machine.execAnswerWaitExpiry home reqNo s
  | .inDoubtMove home reqNo => Sys2Proof.Machine.execInDoubtMove home reqNo s
  | .deferredRelease tag => Sys2Proof.Machine.execDeferredRelease tag s
  | .counterStep => Sys2Proof.Machine.execCounterStep s
  | .closeBegin => Sys2Proof.Machine.execCloseBegin s
  | .closeDeadline => Sys2Proof.Machine.execCloseDeadline s
  | .closeCompletion => Sys2Proof.Machine.execCloseCompletion s
  | .programComplete result => Sys2Proof.Machine.execProgramComplete result s
  | .eraseBegin => Sys2Proof.Machine.execEraseBegin s
  | .eraseComplete ok => Sys2Proof.Machine.execEraseComplete ok s
  | .reset => Sys2Proof.Machine.execReset s
  | .resetRelease => Sys2Proof.Machine.execResetRelease s
  | .recoveryEnd => Sys2Proof.Machine.execRecoveryEnd s
  | .cursorRecordChosen => Sys2Proof.Machine.execCursorRecordChosen s

end Sys2Proof.Machine
end

