-- ==== Sys2Proof/Safety.lean ====
section
/-! DEFINITION. What the statements call safe: the laws of the whole part that every step keeps, and the parts of the state a
command may leave alone. -/

namespace Sys2Proof.Machine

/-! ### Laws every step keeps -/

/-- No area holds more than the manual gives it room for: the transmit and receive queues (R47, R54), the notice queue
and the mask (R177, R178). -/
structure Bounded (s : State) : Prop where
  tx : s.link.tx.length ≤ 16
  rx : s.link.rx.length ≤ 16
  notices : s.notices.queue.length ≤ 32
  mask : s.notices.mask ≤ 7

/-- The link follows the station state (R63): held in reset, RECOVERING and IDLE it is silent and deaf with the roster as
after reset; in HALTED the transmit queue holds nothing but the one PRESENCE. -/
structure LinkLaw (s : State) : Prop where
  down : s.station = .held ∨ s.station = .recovering ∨ s.station = .idle →
    s.link.tx = [] ∧ s.link.rx = [] ∧ s.link.driving = [] ∧ s.link.phase = .quiet ∧ s.link.roster = []
  halted : s.station = .halted → s.link.tx.length ≤ 1 ∧ s.link.tx.all (fun f => isPresence f.payload) = true

/-- The station state and what stands with it (R167, R169, R171): a fault code in HALTED and in no other state, frames
counted as left STORED in HALTED alone, and START's values and an identity record while TRADING. -/
structure StationLaw (s : State) : Prop where
  fault : s.station = .halted ↔ s.fault.isSome = true
  left : s.station ≠ .halted → s.leftStored = 0
  conf : s.station = .trading → s.conf.isSome = true ∧ s.ident.isSome = true

/-- The close under way (R89, R94, R98, R106, R110): row states are held only for a closing generation, a TRADING station
with one holds them, a close whose completion has run has no deadline, and the target is never below the open period less
one. -/
structure CloseLaw (s : State) : Prop where
  view : s.positions.view.isSome = true → s.positions.gen.closing = true
  held : s.station = .trading → s.positions.gen.closing = true → s.positions.view.isSome = true
  deadline : ∀ v, s.positions.view = some v → v.completed = true → v.deadline = none
  target : s.positions.gen.openPeriod ≤ s.positions.target + 1

/-- The canonical form of the durable store: every area's places strictly rising (R157). -/
def Store.wf (st : Store) : Bool :=
  tabWf st.cards && tabWf st.locks && tabWf st.grants && tabWf st.trackers && tabWf st.rows && tabWf st.journal
    && tabWf st.frames

/-- The canonical form of the store and of the working tables: every table's places strictly rising. -/
structure TablesLaw (s : State) : Prop where
  store : s.control.store.wf = true
  cards : tabWf s.custody.cards = true
  locks : tabWf s.custody.locks = true
  grants : tabWf s.requests.grants = true
  lives : tabWf s.requests.lives = true
  entries : tabWf s.tracker.entries = true
  slots : tabWf s.slots = true
  rowsA : tabWf s.positions.rowsA = true
  rowsB : tabWf s.positions.rowsB = true
  roster : tabWf s.link.roster = true
  cursors : tabWf s.cursors.table = true

/-- The working tables lie within their places: 16,384 card records (R1), 1,024 request-table entries with at most 256 OPEN
holds (R23), 8 till slots (R64) and 32 tracker entries (R66). -/
structure RoomLaw (s : State) : Prop where
  cards : ∀ p ∈ s.custody.cards, p.1 < 16384
  grants : ∀ p ∈ s.requests.grants, p.1 < 1024
  opens : openHolds s ≤ 256
  slots : ∀ p ∈ s.slots, p.1 < 8
  entries : ∀ p ∈ s.tracker.entries, p.1 < 32

/-- The frame area (R160, R161): pending frames carry rising numbers below the next one and each its own frame slot, and none
is pending while the part is held in reset or recovering. -/
structure FrameLaw (s : State) : Prop where
  room : s.control.frames.length ≤ 16
  numbers : s.control.frames.Pairwise fun f g => f.frame.number < g.frame.number
  below : ∀ f ∈ s.control.frames, f.frame.number < s.control.nextFrame
  slots : s.control.frames.Pairwise fun f g => f.slot ≠ g.slot
  down : s.station = .held ∨ s.station = .recovering → s.control.frames = []

/-- The sum of g over a card's OPEN holds (R2). -/
def heldOn (s : State) (serial : Nat) : Nat :=
  tabSum (fun g => if grantOpen g && g.serial = serial then grantAmount g else 0) s.requests.grants

/-- The number of a card's OPEN holds (R2). -/
def holdsOn (s : State) (serial : Nat) : Nat :=
  tabCount (fun g => grantOpen g && g.serial = serial) s.requests.grants

/-- The custody law (R1, R2, R6): every record's held and open-hold count are those of its OPEN holds, available plus held
stays within the ceiling of a TRADING station, no two records share a serial, every OPEN hold stands on a record and has a
period not closed, and the liability is the sum of available plus held. -/
structure CustodyLaw (s : State) : Prop where
  cardsForm : tabWf s.custody.cards = true
  grantsForm : tabWf s.requests.grants = true
  liability : s.custody.liability = tabSum (fun c => c.available + c.held) s.custody.cards
  held : ∀ p ∈ s.custody.cards, p.2.held = heldOn s p.2.serial ∧ p.2.openHolds = holdsOn s p.2.serial ∧ p.2.openHolds ≤ 4
  inCeiling : s.station = .trading → ∀ p ∈ s.custody.cards, p.2.available + p.2.held ≤ ceiling s
  given : ∀ p ∈ s.custody.cards, ∃ i, s.ident = some i ∧ p.2.serial ≤ i.serialCounter
  distinct : s.custody.cards.Pairwise fun p q => p.2.serial ≠ q.2.serial
  standing : ∀ p ∈ s.requests.grants, grantOpen p.2 = true →
    1 ≤ grantAmount p.2 ∧ lastClosed s < p.2.period ∧ ∃ q ∈ s.custody.cards, q.2.serial = p.2.serial
  periods : s.station = .idle ∨ s.station = .trading → lastClosed s < openPeriod s

/-! ### Frames that fit their layouts -/

/-- A payload whose fields fit their bytes and whose reason its kind lists (R45, R194). -/
def Payload.fits : Payload → Bool
  | .presence _ period target _ => period < 2 ^ 24 && target < 2 ^ 24
  | .holdReq serial amount _ => serial < 2 ^ 32 && amount < 2 ^ 24
  | .holdAns _ amount tag reason =>
    amount < 2 ^ 24 && tag < 2 ^ 24 && reason ≠ some .overCeiling && reason ≠ some .locked
  | .settleReq _ tag serial amount => tag < 2 ^ 24 && serial < 2 ^ 32 && amount < 2 ^ 24
  | .settleAns _ _ amount => amount < 2 ^ 24
  | .creditReq _ serial amount => serial < 2 ^ 32 && amount < 2 ^ 24
  | .creditAns _ reason => reason ≠ some .insufficient && reason ≠ some .locked
  | .statusReq _ serial => serial < 2 ^ 32
  | .statusAns _ available held => available < 2 ^ 24 && held < 2 ^ 24
  | .position period f _ =>
    period < 2 ^ 24 && f.ra < 2 ^ 40 && f.ta < 2 ^ 40 && f.fa < 2 ^ 40 && f.ri < 2 ^ 40 && f.ti < 2 ^ 40 && f.fi < 2 ^ 40

/-- A frame with a valid header whose fields fit their bytes (R44, R194). -/
def LinkFrame.fits (f : LinkFrame) : Bool :=
  headerValid f && f.stamp < 256 && f.reqNo < 65536 && f.payload.fits

/-! ### What a command leaves alone -/

/-- The records of the home and of the acquirer: custody and request tables, slots, tracker, positions, identity and
configuration. -/
def sameRecords (s t : State) : Prop :=
  t.ident = s.ident ∧ t.conf = s.conf ∧ t.custody = s.custody ∧ t.requests = s.requests ∧ t.slots = s.slots ∧
  t.tracker = s.tracker ∧ t.positions = s.positions

/-- The till port after an accepted command: the ACCEPTED byte, then the reply fields (R184, R185). -/
def acceptedPort (fields : List Byte) (s : State) : Port := { s.port with reply := 0 :: fields, session := .none }

/-- The till port after a refused command: the status byte alone (R184, R185). -/
def refusedPort (code : Nat) (s : State) : Port := { s.port with reply := [BitVec.ofNat 8 code], session := .none }

/-- A command is refused with a port status: nothing but the port differs (R185). -/
def refusedWith (code : Nat) (s : State) : Host.Outcome State Fault Refusal := .next { s with port := refusedPort code s }

/-- Of the till slots only one differs, and what it holds now (none: FREE). -/
def slotBecomes (n : Nat) (sl : Option Slot) (s t : State) : Prop := t.slots = tabSet s.slots n sl

/-- Of the card records only the one at a place differs, and what it holds now. -/
def cardBecomes (place : Nat) (c : Card) (s t : State) : Prop := t.custody.cards = tabPut s.custody.cards place c

/-- Of the request-table entries only the one at a place differs, and what it holds now. -/
def grantBecomes (place : Nat) (g : Grant) (s t : State) : Prop := t.requests.grants = tabPut s.requests.grants place g

/-- Of the position table only one row differs, and what it holds now. -/
def rowBecomes (side : Side) (j : Nat) (r : Row) (s t : State) : Prop :=
  t.positions = (putRow side j r s).positions

/-- The journal once one slot is claimed: the next index moves on, and so does the write point (R129, R131). -/
def claimedJournal (s : State) : Journal := { advance s.journal with next := s.journal.next + 1 }

/-- The notices once one slot is claimed: a claim that enters the reserve posts JOURNAL_RESERVE (R135). -/
def claimedNotices (s : State) : Notices :=
  if reserveSlots < freeCount s.journal ∧ freeCount (claimedJournal s) ≤ reserveSlots then
    postNotice ⟨.journalReserve, .none, freeCount (claimedJournal s)⟩ s.notices
  else s.notices

/-- One journal slot is claimed, and nothing else of the journal's bookkeeping and of the notices differs (R129, R131, R135).
-/
def claimsOne (s t : State) : Prop := t.journal = claimedJournal s ∧ t.notices = claimedNotices s

/-- The frame an operation builds: the next number, every write-back valid (R160). -/
def builtFrame (s : State) (format : FrameFormat) (targets : List Target) (cont : Continuation) : Frame :=
  ⟨s.control.nextFrame, format, targets.map fun t => ⟨true, t⟩, cont⟩

/-- The store controller once one frame is queued (R159, R161). -/
def withFrame (format : FrameFormat) (targets : List Target) (places : List Nat) (cont : Continuation) (s : State) :
    Control :=
  { s.control with
    queue := s.control.queue
      ++ (.frame (freeFrameSlot s.control.frames) (builtFrame s format targets cont)
          :: targets.flatMap (targetPrograms places s.journal))
      ++ [.done (freeFrameSlot s.control.frames)]
    frames := s.control.frames
      ++ [⟨freeFrameSlot s.control.frames, builtFrame s format targets cont, false, false⟩]
    nextFrame := s.control.nextFrame + 1 }

/-- One frame is queued: it takes a frame slot and a number, its programs join the tail of the queue, its own place first,
then its targets, then the done mark; the store and the waits stay (R159, R161). `places` are the journal slots of its run.
-/
def queuesFrame (format : FrameFormat) (targets : List Target) (places : List Nat) (cont : Continuation) (s t : State) :
    Prop :=
  t.control = withFrame format targets places cont s

/-- The journal entry a claim of one slot writes (R127, R129). -/
def entryOf (s : State) (kind : JournalKind) (period : Nat) (body : PlainBody) : JournalEntry :=
  ⟨s.journal.next, kind, period, .plain body⟩

/-- The outcome record of a slot, with a slot that has entered OUTCOME (R64, R65). -/
def slotOutcome (sl : Slot) (o : OutcomeRec) : Slot :=
  { sl with state := .outcome, timer := none, link := none, outcome := some o }

/-- The SLOT_OUTCOME notice has been posted, and nothing else has happened to the notices (R65, R176). -/
def postsSlot (n : Nat) (code : OutcomeCode) (s t : State) : Prop :=
  t.notices = postNotice ⟨.slotOutcome, .number n, outcomeCode code⟩ s.notices

/-- A command on a till slot is declined at once: the slot enters OUTCOME DECLINED with the reason and the card's available
balance, its notice is posted, and nothing else changes (R12, R31, R65). -/
def declinesSlot (c : Instr) (n : Nat) (sl : Slot) (r : Reason) (s : State) : Prop :=
  ∃ t, exec c s = .next t ∧
    slotBecomes n (some (slotOutcome sl ⟨.declined, 0, sl.card, availableOf s sl.card.serial, some r, none, 0⟩)) s t ∧
    postsSlot n .declined s t ∧ t.port = acceptedPort [] s ∧
    { t with slots := s.slots, notices := s.notices, port := s.port } = s

/-- A frame is taken from the head of the receive queue and answered at once with a payload, stamped with the open period; a
full transmit queue discards the answer; nothing else changes (R46, R50, R54). -/
def answersAtOnce (c : Instr) (f : LinkFrame) (rest : List LinkFrame) (p : Payload) (s : State) : Prop :=
  exec c s = .next { s with link := { s.link with
    rx := rest
    tx := if s.link.tx.length < 16 then s.link.tx ++ [⟨f.src, stampOf (openPeriod s), f.reqNo, p, 0⟩] else s.link.tx } }

/-- A frame is taken from the head of the receive queue and its answer held back behind frames that are not stored; nothing
else changes (R164). -/
def answersLater (c : Instr) (f : LinkFrame) (rest : List LinkFrame) (p : Payload) (frames : List Nat) (s : State) : Prop :=
  exec c s = .next { s with
    link := { s.link with rx := rest }
    control := { s.control with waits := s.control.waits ++ [⟨frames, .answer f.src f.reqNo p⟩] } }

/-- A frame is taken from the head of the receive queue and nothing else changes (R55). -/
def discards (c : Instr) (rest : List LinkFrame) (s : State) : Prop :=
  exec c s = .next { s with link := { s.link with rx := rest } }

/-- A command makes a volatile tracker entry in the lowest free place, with the next request number, linked to its slot, and
offers its request frame: at the tail of the transmit queue, or, with the queue full, its answer wait starts at once; nothing
else changes (R46, R50, R67). -/
def sendsNewEntry (c : Instr) (slot : Nat) (sl : Slot) (d : TrackRec) (part : Bool) (p : Payload) (s : State) : Prop :=
  exec c s = .next { s with
    tracker := ⟨tabPut s.tracker.entries (freeTrackPlace s)
      ⟨{ d with reqNo := (nextNumber s).1 }, 1, if s.link.tx.length < 16 then none else some 400, some slot, false, none,
        false, part⟩, (nextNumber s).1⟩
    slots := tabPut s.slots slot { sl with link := some (d.home, (nextNumber s).1) }
    link := { s.link with
      tx := if s.link.tx.length < 16 then s.link.tx ++ [⟨d.home, stampOf d.period, (nextNumber s).1, p, 0⟩] else s.link.tx }
    port := acceptedPort [] s }

/-- A command makes a stored tracker entry in the lowest free place, with the next request number, linked to its slot, and
queues its TRACKER_STORE frame, whose continuation is the request; nothing else changes (R67). -/
def queuesNewEntry (c : Instr) (slot : Nat) (sl : Slot) (d : TrackRec) (p : Payload) (s : State) : Prop :=
  ∃ t, exec c s = .next t ∧
    t.tracker = ⟨tabPut s.tracker.entries (freeTrackPlace s)
      ⟨{ d with reqNo := (nextNumber s).1 }, 0, none, some slot, false, none, false, false⟩, (nextNumber s).1⟩ ∧
    slotBecomes slot (some { sl with link := some (d.home, (nextNumber s).1) }) s t ∧
    queuesFrame .trackerStore [.tracker (freeTrackPlace s) (some { d with reqNo := (nextNumber s).1 })] []
      (.request d.home (nextNumber s).1 (stampOf d.period) p) s t ∧
    t.port = acceptedPort [] s ∧
    { t with tracker := s.tracker, slots := s.slots, control := s.control, port := s.port } = s

/-- A command takes an answer from the head of the receive queue that books: the entry is freed, `slots` are the slots with
its link cut, the home's row takes its new figures, one journal slot is claimed, and an ACQ_BOOK frame carries the freed
entry, the row and the journal entry; nothing else changes before the clearing unit examines the home's row (R70, R78, R81).
-/
def booksAnswer (c : Instr) (rest : List LinkFrame) (tp : Nat) (tr : Track) (slots : Tab Slot) (side : Side) (row : Row)
    (kind : JournalKind) (body : PlainBody) (cont : Continuation) (s : State) : Prop :=
  exec c s = .next (reexamine tr.data.home { s with
    tracker := { s.tracker with entries := tabDel s.tracker.entries tp }
    slots := slots
    positions := (putRow side tr.data.home row s).positions
    journal := claimedJournal s
    notices := claimedNotices s
    link := { s.link with rx := rest }
    control := withFrame .acqBook
      [.tracker tp none, .row side tr.data.home row, .journal [entryOf s kind tr.data.period body]] [writePoint s.journal] cont
      s })

/-- A command takes an answer from the head of the receive queue that books nothing: the entry is freed, `slots` are the
slots with its link cut, and a TRACKER_STORE frame carries the freed entry; nothing else changes before the clearing unit
examines the home's row (R70, R78, R81). -/
def freesEntry (c : Instr) (rest : List LinkFrame) (tp : Nat) (tr : Track) (slots : Tab Slot) (cont : Continuation)
    (s : State) : Prop :=
  exec c s = .next (reexamine tr.data.home { s with
    tracker := { s.tracker with entries := tabDel s.tracker.entries tp }
    slots := slots
    link := { s.link with rx := rest }
    control := withFrame .trackerStore [.tracker tp none] [] cont s })

/-- A command makes a SENT entry IN_DOUBT: its link and its wait end, `slots` are the slots with its link cut, and a
TRACKER_STORE frame carries the entry; nothing else changes (R71, R86). -/
def movesInDoubt (c : Instr) (tp : Nat) (tr : Track) (slots : Tab Slot) (cont : Continuation) (s : State) : Prop :=
  exec c s = .next { s with
    slots := slots
    tracker := ⟨tabPut s.tracker.entries tp
      { tr with data := { tr.data with state := .inDoubt }, timer := none, slot := none, moveWaiting := false },
      s.tracker.counter⟩
    control := withFrame .trackerStore [.tracker tp (some { tr.data with state := .inDoubt })] [] cont s }

/-- What a frame that ends or moves a stored entry announces: its slot's outcome when a slot is linked, else a RESOLVED
notice (R70). -/
def announces (tr : Track) (slot : Option Slot) (o : CardId → OutcomeRec) : Continuation :=
  match tr.slot, slot with
  | some n, some sl => .slotOutcome n (some tr.data.reqNo) none (o sl.card)
  | some n, none => .slotOutcome n (some tr.data.reqNo) none (o (cardId tr.data.home tr.data.serial))
  | none, _ =>
    .notice ⟨.resolved, .work (some tr.data.reqNo) (cardId tr.data.home tr.data.serial),
      outcomeCode (o (cardId tr.data.home tr.data.serial)).code⟩

/-- The slots with an entry's link cut. -/
def slotsCut (tr : Track) (s : State) : Tab Slot :=
  match tr.slot with
  | some n => match getSlot s n with
    | some sl => tabPut s.slots n { sl with link := none }
    | none => s.slots
  | none => s.slots

/-- The slot an entry serves. -/
def servedSlot (tr : Track) (s : State) : Option Slot := tr.slot.bind (getSlot s)

/-- An OPEN hold ends without being captured: its entry takes a state, the whole g returns to the card, its life and its
waiting release go, and one frame of the two records is queued; nothing else changes (R35, R37, R38). -/
def holdEnded (format : FrameFormat) (state : HoldState) (gp : Nat) (gr : Grant) (tag a place : Nat) (c : Card) (s : State) :
    State :=
  { s with
    custody := ⟨tabPut s.custody.cards place
      { c with available := c.available + a, held := c.held - a, openHolds := c.openHolds - 1,
               lastActivity := openPeriod s },
      s.custody.locks, s.custody.liability⟩
    requests := ⟨tabPut s.requests.grants gp { gr with body := .hold tag a state }, tabDel s.requests.lives tag,
      s.requests.deferred.filter fun x => x ≠ tag, s.requests.lapsing.filter fun x => x ≠ tag⟩
    control := withFrame format
      [.card place { c with available := c.available + a, held := c.held - a, openHolds := c.openHolds - 1,
                            lastActivity := openPeriod s },
       .grant gp { gr with body := .hold tag a state }] [] .none s }

/-- The store controller once the program at the head of its queue has completed (R158). -/
def programmed (p : Program) (rest : List Program) (s : State) : Control :=
  { s.control with queue := rest, store := programWrite s.control.store p }

/-- The same with a pending frame stored (R162). -/
def programmedFrame (slt : Nat) (fr : Frame) (rest : List Program) (n : Nat) (s : State) : Control :=
  { s.control with
    queue := rest
    store := { s.control.store with frames := tabPut s.control.store.frames slt (.stored fr) }
    frames := s.control.frames.map fun f => if f.frame.number = n then { f with stored := true } else f }

/-- The store controller and the journal once the erase scheduler has placed a control-record program (R133, R139, R157). -/
def marksErase (use : ControlUse) (blocks : List Block) (erase : Option Erase) (store : Store) (s : State) : State :=
  { s with
    journal := { s.journal with
      blocks := blocks, erase := erase, writes := s.journal.writes + 1, lastB := !s.journal.lastB }
    control := { s.control with
      store := store
      queue := s.control.queue ++ [.control (!s.journal.lastB)
        ⟨s.journal.writes + 1, ⟨s.journal.oldest, s.journal.archived, s.journal.next, blocks⟩⟩ use] } }

/-! ### Frames handed over -/

/-- The command that hands a frame of a kind over (R55). -/
def handOverOf : Payload → Instr
  | .presence .. => .presence
  | .holdReq .. => .holdReq
  | .holdAns .. => .holdAns
  | .settleReq .. => .settleReq
  | .settleAns .. => .settleAns
  | .creditReq .. => .creditReq
  | .creditAns .. => .creditAns
  | .statusReq .. => .statusReq
  | .statusAns .. => .statusAns
  | .position .. => .position

/-- A frame handed over raises nothing: its stamp extends to no later period than the open one, or than one above the target
held (R57, R94). -/
def raisesNothing (f : LinkFrame) (s : State) : Bool :=
  extendStamp (openPeriod s) f.stamp ≤ openPeriod s || extendStamp (openPeriod s) f.stamp ≤ s.positions.target + 1

/-- A payload that the home's period check is made for: a HOLD_REQ or CREDIT_REQ whose amount is not 0 (R13, R14, R26). -/
def Payload.asksPeriod : Payload → Bool
  | .holdReq _ amount _ => amount ≠ 0
  | .creditReq _ _ amount => amount ≠ 0
  | _ => false

/-- Some condition of close begin that a raise of the target does not meet fails (R96). -/
abbrev noCloseCanBegin (s : State) : Prop :=
  s.positions.gen.closing = true ∨ 16777215 ≤ openPeriod s ∨ freeCount s.journal ≤ 512 ∨ 16 ≤ s.control.frames.length

/-- The IN_DOUBT entries of a home heard that are due a resend, in table order (R83). -/
def resendsDue (s : State) (j : Nat) : Tab Track := s.tracker.entries.filter fun p => resendDue s j p.2

/-- The state once the entries that are due have been offered again: as many as the transmit queue has room for join it, and
the wait of the others starts at once (R50, R83). -/
def resentTo (j : Nat) (s noted : State) : State :=
  { noted with
    link := { noted.link with
      tx := s.link.tx ++ ((resendsDue s j).take (16 - s.link.tx.length)).map fun p => requestFrame p.2 }
    tracker := { s.tracker with entries := s.tracker.entries.map fun p =>
      if (resendsDue s j).contains p then
        (p.1, { p.2 with
          timer := if ((resendsDue s j).take (16 - s.link.tx.length)).contains p then none else some 400 })
      else p } }

/-- An entry whose request is offered: at the tail of the transmit queue with one more attempt made while SENT, or, with the
queue full, its answer wait starts at once; nothing else changes (R50, R68). -/
def offeredEntry (tp : Nat) (tr : Track) (s : State) : State :=
  { s with
    link := { s.link with tx := if s.link.tx.length < 16 then s.link.tx ++ [requestFrame tr] else s.link.tx }
    tracker := ⟨tabPut s.tracker.entries tp
      { tr with attempts := if tr.data.state = .sent then tr.attempts + 1 else tr.attempts,
                timer := if s.link.tx.length < 16 then none else some 400 }, s.tracker.counter⟩ }

/-- What each kind of held item does when it is let out of a TRADING station (R164): an answer is offered, a slot enters
OUTCOME, a request is offered unless its entry is gone or orphan, a POSITION of the closing period is placed, a notice is
posted. -/
def itemsGoOut (s : State) : Prop :=
  (∀ (dst n : Nat) (p : Payload), releaseItem (.answer dst n p) s = { s with link := { s.link with
    tx := if s.link.tx.length < 16 then s.link.tx ++ [⟨dst, stampOf (openPeriod s), n, p, 0⟩] else s.link.tx } }) ∧
  (∀ (n : Nat) (o : OutcomeRec) (sl : Slot), getSlot s n = some sl →
    releaseItem (.slotOutcome n o) s = slotLeft sl { s with
      slots := tabPut s.slots n { sl with state := .outcome, timer := none, link := none, outcome := some o }
      notices := postNotice ⟨.slotOutcome, .number n, outcomeCode o.code⟩ s.notices }) ∧
  (∀ (home n tp : Nat) (tr : Track), findTrack s home n = some (tp, tr) →
    releaseItem (.request home n) s = if tr.orphan.isSome then s else offeredEntry tp tr s) ∧
  (∀ home n : Nat, findTrack s home n = none → releaseItem (.request home n) s = s) ∧
  (∀ j p : Nat, p + 1 = openPeriod s → releaseItem (.positionSend j p) s = { s with link := { s.link with
    tx := if s.link.tx.length < 16 then
        s.link.tx ++ [⟨j, stampOf (openPeriod s), 0,
          .position p (readRow s (closingSide s) p j).fig (readRow s (closingSide s) p j).haveYours, 0⟩]
      else s.link.tx } }) ∧
  (∀ n : NoticeRec, releaseItem (.notice n) s = { s with notices := postNotice n s.notices })

/-! ### Work that waits -/

/-- A command on a till slot whose outcome is held back behind frames that are not stored: the slot stands as given, a wait
is made, and nothing else changes (R17, R36, R37, R164). -/
def waitsForOutcome (c : Instr) (n : Nat) (sl : Slot) (frames : List Nat) (o : OutcomeRec) (s : State) : Prop :=
  exec c s = .next { s with
    slots := tabPut s.slots n sl
    control := { s.control with waits := s.control.waits ++ [⟨frames, .slotOutcome n o⟩] }
    port := acceptedPort [] s }

/-- The state once the request counter has stepped: the mark 256 on, with its COUNTER_STEP frame queued (R166). -/
def stepTaken (i : Identity) (s : State) : State :=
  { s with
    ident := some { i with highWater := stepMark i.highWater }
    control := withFrame .counterStep [.identity { i with highWater := stepMark i.highWater }] [] .none s }

/-- A new volatile entry whose number needs a counter step: the step is taken, and the request waits for its frame (R67,
R166). -/
def entryBehindStep (tp : Nat) (d : TrackRec) (slot : Option Nat) (part : Bool) (i : Identity) (s : State) : State :=
  { stepTaken i s with
    tracker := ⟨tabPut s.tracker.entries tp
      ⟨{ d with reqNo := (nextNumber s).1 }, 0, none, slot, false, none, false, part⟩, (nextNumber s).1⟩
    control := { (stepTaken i s).control with
      waits := s.control.waits ++ [⟨[s.control.nextFrame], .request d.home (nextNumber s).1⟩] } }

/-- A command makes a volatile tracker entry whose number needs a counter step, linked to its slot (R67, R166). -/
def stepsThenWaits (c : Instr) (slot : Nat) (sl : Slot) (d : TrackRec) (part : Bool) (i : Identity) (s : State) : Prop :=
  exec c s = .next { entryBehindStep (freeTrackPlace s) d (some slot) part i s with
    slots := tabPut s.slots slot { sl with link := some (d.home, (nextNumber s).1) }
    port := acceptedPort [] s }

/-- A command makes a stored tracker entry whose number needs a counter step: the COUNTER_STEP frame is queued before the
TRACKER_STORE frame, whose continuation is the request (R67, R166). -/
def stepsThenStores (c : Instr) (slot : Nat) (sl : Slot) (d : TrackRec) (p : Payload) (i : Identity) (s : State) : Prop :=
  exec c s = .next { stepTaken i s with
    tracker := ⟨tabPut s.tracker.entries (freeTrackPlace s)
      ⟨{ d with reqNo := (nextNumber s).1 }, 0, none, some slot, false, none, false, false⟩, (nextNumber s).1⟩
    slots := tabPut s.slots slot { sl with link := some (d.home, (nextNumber s).1) }
    control := withFrame .trackerStore [.tracker (freeTrackPlace s) (some { d with reqNo := (nextNumber s).1 })] []
      (.request d.home (nextNumber s).1 (stampOf d.period) p) (stepTaken i s)
    port := acceptedPort [] s }

/-- The notice an owed continuation posts at the end of recovery, if any: a slot outcome is RESOLVED (R174). -/
def owedNotice (u : Notices) (c : Continuation) : Notices :=
  match c with
  | .slotOutcome _ n _ o => postNotice ⟨.resolved, .work n o.card, outcomeCode o.code⟩ u
  | .notice n => postNotice n u
  | .answer .. | .request .. | .none => u

/-- A write-back's target that is one record, written by one program: neither a run of the journal nor the control record
(R159). -/
def oneRecord : Target → Bool
  | .journal _ | .control _ => false
  | _ => true

/-! ### A cursor's entry read -/

/-- A cursor once an entry has been read, when its count does not run out or its end action is RELOAD: the count down and the
index past the entry, or both back where a RELOAD takes them, and the block buffer as the mode fills it (R150 to R153). -/
def cursorAfter (oldest : Nat) (c : Cursor) (en : JournalEntry) : Cursor :=
  { c with
    count := if c.count = 1 then c.setCount else c.count - 1
    current :=
      if c.count = 1 then max c.start oldest else if c.direction = .forward then en.index + 1 else en.index - 1
    buffer := if c.mode = .single then [en] else if c.mode = .block then c.buffer ++ [en] else c.buffer }

/-- The cursors with one rewritten and, for cursor 0, the read-through mark raised to an entry (R147, R150). -/
def cursorsRead (n : Nat) (c : Cursor) (en : JournalEntry) (s : State) : Cursors :=
  ⟨tabPutD Cursor.blank s.cursors.table n c, if n = 0 then max s.cursors.mark en.index else s.cursors.mark⟩

/-! ### Recovery -/

/-- The state once recovery has read the control record, before it erases or scans anything (R157, R172). -/
def controlRead (s : State) : State :=
  { s with
    station := .recovering
    recovery := some ⟨.erasing, none, []⟩
    journal := { Journal.blank with
      blocks := (takenCopy s.control.store).1.content.blocks
      next := (takenCopy s.control.store).1.content.next
      oldest := (takenCopy s.control.store).1.content.oldest
      archived := (takenCopy s.control.store).1.content.archived
      archivedStored := (takenCopy s.control.store).1.content.archived
      writes := (takenCopy s.control.store).1.writes
      lastB := (takenCopy s.control.store).2 } }

/-- A journal slot of the store is not erased: programmed or void (R142). -/
def slotTaken (st : Store) (block slot : Nat) : Bool := (tabGet st.journal (block * 512 + slot)).isSome

/-- The write point is the first erased slot on the ring of usable blocks from slot 0 of block `b0`: slot `k` of the block
`n` blocks on (R142). -/
def firstErased (st : Store) (blocks : List Block) (b0 n k : Nat) : Bool :=
  n < 32 && k < 512 && !slotTaken st ((nextBlock blocks)^[n] b0) k
    && ((List.range n).all fun m => (List.range 512).all fun q => slotTaken st ((nextBlock blocks)^[m] b0) q)
    && (List.range k).all fun q => slotTaken st ((nextBlock blocks)^[n] b0) q

/-- A block's state by what the scan finds, the write point `n` blocks on from `b0` in slot `k`: BAD and ERASING are taken
from the record, the write point's block is IN_USE, but for one recorded ERASED and not entered; the blocks passed, and every
other one with a slot that is not erased or not recorded ERASED, are FULL (R130, R133, R142). -/
def stateFound (st : Store) (blocks : List Block) (b0 n k i : Nat) (was : BlockState) : BlockState :=
  if was = .bad ∨ was = .erasing then was
  else if i = (nextBlock blocks)^[n] b0 then (if was = .erased ∧ n = 0 ∧ k = 0 then .erased else .inUse)
  else if (List.range n).any (fun m => (nextBlock blocks)^[m] b0 = i) then .full
  else if was = .erased ∧ (st.journal.all fun p => p.1 / 512 ≠ i) then .erased
  else .full

/-- The scan of the journal, from a state whose control record has been read, has found its write point and block states, and
nothing else of the journal's bookkeeping differs (R142). It starts at the block recorded IN_USE, or at block 0 when none is;
the model passes over a block 0 that is BAD (log entry 29). -/
def scanFinds (u t : State) : Prop :=
  ∀ b0 n k : Nat,
    ((List.range 32).find? fun i => blockStateOf u.journal.blocks i = .inUse) = some b0 ∨
      (((List.range 32).all fun i => blockStateOf u.journal.blocks i ≠ .inUse) = true ∧
        b0 = if blockStateOf u.journal.blocks 0 = .bad then nextBlock u.journal.blocks 0 else 0) →
    firstErased u.control.store u.journal.blocks b0 n k = true →
    t.journal = { u.journal with
      wpBlock := (nextBlock u.journal.blocks)^[n] b0
      wpSlot := k
      blocks := u.journal.blocks.mapIdx fun i bk =>
        { bk with state := stateFound u.control.store u.journal.blocks b0 n k i bk.state } }

/-- A frame's target that is no run of the journal: to write it again claims no slot (R142, R173). -/
def noRun : Target → Bool
  | .journal _ => false
  | _ => true

/-- Every STORED frame's write-backs pass a test. -/
def storedTargets (p : Target → Bool) (st : Store) : Bool :=
  (storedFrames st).all fun x => x.2.writeBacks.all fun w => p w.target

/-- How many frames a store holds that read as STORED: no done mark, or a torn one, known to the part or not (R160, R163). -/
def framesLeft (st : Store) : Nat := st.frames.countP fun p => match p.2 with
  | .stored _ | .doneTorn _ => true
  | .unknown _ stored => stored
  | .done _ | .torn => false

/-- A command takes recovery on, from a state whose control record has been read and whose block to erase has been erased:
the journal is scanned; two torn frame slots, or a frame the part does not know, end it in FRAME_FORMAT, and fewer than 4
usable blocks in JOURNAL_WORN; otherwise the programs are queued that clear a torn frame slot and write the stored frames
again, in frame-number order, each with its done mark last, the control record with the block states and erase counts of the
working copy; nothing else changes (R133, R142, R172, R173). -/
def recoveryGoesOn (c : Instr) (rcv : Recovery) (s u : State) : Prop :=
  ∃ t, exec c s = .next t ∧
    { t with journal := u.journal, control := u.control, recovery := u.recovery } = u ∧
    t.control = { u.control with queue := t.control.queue } ∧
    (storedTargets oneRecord u.control.store = true → scanFinds u t) ∧
    (storedTargets noRun u.control.store = true →
      scanFinds u { t with journal := { t.journal with writes := u.journal.writes, lastB := u.journal.lastB } }) ∧
    (1 < (u.control.store.frames.countP fun p => p.2 = .torn) ∨
        (u.control.store.frames.any fun p => match p.2 with
          | .unknown _ stored => stored
          | _ => false) = true →
      framesAtFault u.control.store = true) ∧
    (framesAtFault u.control.store = true →
      t.recovery = some ⟨.completing, some .frameFormat, rcv.owed⟩ ∧ t.control.queue = []) ∧
    (framesAtFault u.control.store = false → usableBlocks u.journal.blocks < 4 →
      t.recovery = some ⟨.completing, some .journalWorn, rcv.owed⟩ ∧
      t.control.queue = u.control.queue ++ (tornSlots u.control.store).map .clearFrame) ∧
    (framesAtFault u.control.store = false → 4 ≤ usableBlocks u.journal.blocks →
      t.recovery = some ⟨.completing, rcv.fault, rcv.owed⟩ ∧
      (∀ (slt : Nat) (frm : Frame) (c : ControlRec), storedFrames u.control.store = [(slt, frm)] →
        frm.writeBacks = [⟨true, .control c⟩] →
        t.journal.writes = u.journal.writes + 1 ∧ t.journal.lastB = (!u.journal.lastB) ∧
        t.control.queue = u.control.queue ++ (tornSlots u.control.store).map .clearFrame ++
          [.control (!u.journal.lastB) ⟨u.journal.writes + 1, ⟨c.oldest, c.archived, c.next, t.journal.blocks⟩⟩ .frame,
           .done slt]) ∧
      (storedTargets oneRecord u.control.store = true →
        t.control.queue = u.control.queue ++ (tornSlots u.control.store).map .clearFrame ++
          (inOrder (storedFrames u.control.store)).flatMap fun x =>
            ((x.2.writeBacks.filter (·.valid)).map fun w => .target w.target) ++ [.done x.1]))

/-- A program of recovery fails, its place left as a store shows it: no program is left, recovery has stopped with
RECOVERY_FAILED, and the journal is as a scan finds it from that store's control record; nothing else changes (R142, R172,
R173). -/
def recoveryBreaksOff (c : Instr) (rcv : Recovery) (st : Store) (s : State) : Prop :=
  ∃ t, exec c s = .next t ∧
    { t with journal := s.journal, control := s.control, recovery := s.recovery } = s ∧
    t.control = { s.control with queue := [], store := st } ∧
    t.recovery = some ⟨.completing, some .recoveryFailed, rcv.owed⟩ ∧ t.journal.erase = none ∧
    scanFinds { t with journal := { s.journal with erase := none, blocks := (takenCopy st).1.content.blocks } } t

/-- TOPUP or REFUND, by credit kind. -/
def creditCommand (kind : CreditKind) (slot : Nat) (card : CardId) (amount : Nat) (ref : Option Nat) : Instr :=
  match kind with
  | .topup => .topup slot card amount ref
  | .refund => .refund slot card amount ref

end Sys2Proof.Machine
end

