-- ==== Sys2Proof/Certificates/Slice0/Obligations.lean ====
section
/-! DEFINITION. The statements for the provers, each about the commands' effects and the laws of the whole part. -/

open Sys2Proof Sys2Proof.Machine

/-! ### The queue and the passing of time -/

/-- A step takes the command at the front of the queue and is that command's effect on the state with the queue's rest. -/
def Obligations.StepRunsTheFrontCommand : Prop :=
  ∀ (c : Instr) (s : State), step { s with pending := c :: s.pending } = exec c s

/-- Every command ends in a next state, and none but the step itself touches the queue. R167 and R185 say so of host
commands; that a command for an event ends in a next state also where its occasion is absent is the model's choice (log entry
1, DESIGN CHOICE). -/
def Obligations.CommandsEndAndLeaveTheQueue : Prop :=
  ∀ (c : Instr) (s : State), ∃ t, exec c s = .next t ∧ t.pending = s.pending

/-- With no command waiting one millisecond passes (log entries 2 and 11: the model's choice). In TRADING every remaining
life, hold timer, answer wait, the deadline and the PRESENCE timer lose a millisecond down to their last, and one at its last
puts its own command in the queue; nothing else of a table changes. An erase that runs spends one millisecond in RECOVERING,
IDLE and TRADING, unless programs suspend it. In HALTED only silence times go on, and in reset nothing does. -/
def Obligations.EmptyQueuePassesOneMillisecond : Prop :=
  ∀ s : State, s.pending = [] →
    ∃ t, step s = .next t ∧
      { t with requests := s.requests, slots := s.slots, tracker := s.tracker, positions := s.positions, link := s.link,
               journal := s.journal, pending := s.pending } = s ∧
      { t.requests with lives := s.requests.lives } = s.requests ∧
      { t.positions with view := s.positions.view } = s.positions ∧
      { t.link with roster := s.link.roster, presenceTimer := s.link.presenceTimer } = s.link ∧
      { t.journal with erase := s.journal.erase } = s.journal ∧ t.tracker.counter = s.tracker.counter ∧
      (s.station = .held → t = s) ∧
      (s.station = .recovering ∨ s.station = .idle → { t with journal := s.journal } = s) ∧
      (s.station = .recovering ∨ s.station = .idle ∨ s.station = .trading →
        (∀ b n, s.journal.erase = some ⟨b, .running n⟩ → s.control.queue = [] →
          t.journal.erase = some ⟨b, .running (n + 1)⟩) ∧
        (s.control.queue ≠ [] ∨ s.journal.erase = none ∨ (s.journal.erase.all fun k => k.phase = .marking) = true →
          t.journal.erase = s.journal.erase)) ∧
      (s.station = .halted →
        { t with link := { t.link with roster := s.link.roster }, pending := [] } = s ∧
        ∀ p ∈ s.link.roster, p.2.state ≠ .absent → 15000 ≤ p.2.silence + 1 → .silenceTimeout p.1 ∈ t.pending) ∧
      (s.station = .trading ∨ s.station = .halted →
        ∀ j e, tabGet s.link.roster j = some e →
          (e.state ≠ .absent → e.silence + 1 < 15000 →
            tabGet t.link.roster j = some { e with silence := e.silence + 1 }) ∧
          (e.state = .absent ∨ 15000 ≤ e.silence + 1 → tabGet t.link.roster j = some e)) ∧
      (∀ j, tabGet s.link.roster j = none → tabGet t.link.roster j = none) ∧
      (∀ tag, tabGet s.requests.lives tag = none → tabGet t.requests.lives tag = none) ∧
      (∀ n, getSlot s n = none → getSlot t n = none) ∧
      (s.station = .trading →
        (∀ tag ms, tabGet s.requests.lives tag = some ms →
          tabGet t.requests.lives tag = some (if ms ≤ 1 then ms else ms - 1)) ∧
        (∀ p ∈ s.requests.lives, p.2 = 1 → .holdExpiry p.1 ∈ t.pending) ∧
        (∀ n sl, getSlot s n = some sl →
          getSlot t n = some { sl with timer := sl.timer.map fun ms => if ms ≤ 1 then ms else ms - 1 }) ∧
        (∀ p ∈ s.slots, p.2.state = .held → p.2.timer = some 1 → .holdTimerExpiry p.1 ∈ t.pending) ∧
        (∀ tp tr, tabGet s.tracker.entries tp = some tr →
          tabGet t.tracker.entries tp = some { tr with timer := tr.timer.map fun ms => if ms ≤ 1 then ms else ms - 1 }) ∧
        (∀ tp, tabGet s.tracker.entries tp = none → tabGet t.tracker.entries tp = none) ∧
        (∀ p ∈ s.tracker.entries, trackFree (lastClosed s) p.2 = false → p.2.timer = some 1 →
          .answerWaitExpiry p.2.data.home p.2.data.reqNo ∈ t.pending) ∧
        (∀ v, s.positions.view = some v →
          t.positions.view = some { v with deadline := v.deadline.map fun ms => if ms ≤ 1 then ms else ms - 1 } ∧
          (v.completed = false → v.deadline = some 1 → .closeDeadline ∈ t.pending)) ∧
        (s.positions.view = none → t.positions.view = none) ∧
        (∀ p ∈ s.link.roster, p.2.state ≠ .absent → 15000 ≤ p.2.silence + 1 → .silenceTimeout p.1 ∈ t.pending) ∧
        t.link.presenceTimer = (if s.link.presenceTimer ≤ 1 then s.link.presenceTimer else s.link.presenceTimer - 1) ∧
        (s.link.presenceTimer ≤ 1 → .presenceTimer ∈ t.pending))

/-! ### The till port -/

/-- Held in reset, the port discards every select period without a reply: every host command does nothing but empty the
reply, and MISO is not driven (R168, R184). -/
def Obligations.HeldInResetDiscardsSelectPeriods : Prop :=
  ∀ (c : Instr) (s : State), (opcodeOf c).isSome → s.station = .held →
    exec c s = .next { s with port := { s.port with reply := [], session := .none } } ∧ ∀ n k : Nat, misoByte n s k = none

/-- A command taken in a station state that does not take it is refused NOT_TRADING (0x03) whatever its arguments (R167,
R185). The level of PROTECT_N is recorded as UNFREEZE and RANGE_LOCK are taken. -/
def Obligations.StationStateIsCheckedFirst : Prop :=
  ∀ s : State, s.station ≠ .held →
    (s.station ≠ .trading →
      exec .close s = refusedWith 0x03 s ∧
      (∀ slot amount rel ref, exec (.issue slot amount rel ref) s = refusedWith 0x03 s) ∧
      (∀ slot card amount part ref, exec (.redeem slot card amount part ref) s = refusedWith 0x03 s) ∧
      (∀ slot amount, exec (.complete slot amount) s = refusedWith 0x03 s) ∧
      (∀ slot, exec (.cancel slot) s = refusedWith 0x03 s) ∧
      (∀ slot card amount ref, exec (.topup slot card amount ref) s = refusedWith 0x03 s) ∧
      (∀ slot card amount ref, exec (.refund slot card amount ref) s = refusedWith 0x03 s) ∧
      (∀ slot card, exec (.enquire slot card) s = refusedWith 0x03 s) ∧
      (∀ slot card, exec (.freeze slot card) s = refusedWith 0x03 s) ∧
      (∀ slot card ref p, exec (.unfreeze slot card ref p) s =
        refusedWith 0x03 { s with port := { s.port with protectN := p } }) ∧
      (∀ n lo hi a p, exec (.rangeLock n lo hi a p) s =
        refusedWith 0x03 { s with port := { s.port with protectN := p } }) ∧
      (∀ slot, exec (.slotRead slot) s = refusedWith 0x03 s) ∧
      (∀ slot, exec (.slotFree slot) s = refusedWith 0x03 s) ∧
      (∀ g j, exec (.positionRead g j) s = refusedWith 0x03 s)) ∧
    (s.station ≠ .idle → ∀ st ml fr ff ce hl cl, exec (.start st ml fr ff ce hl cl) s = refusedWith 0x03 s) ∧
    (s.station = .recovering →
      exec .takeNotice s = refusedWith 0x03 s ∧ (∀ m, exec (.setMask m) s = refusedWith 0x03 s) ∧
      (∀ c i n b d e m f nt, exec (.cursorSet c i n b d e m f nt) s = refusedWith 0x03 s) ∧
      (∀ c, exec (.cursorRead c) s = refusedWith 0x03 s)) ∧
    (s.station = .recovering ∨ s.station = .halted → ∀ i, exec (.archiveAck i) s = refusedWith 0x03 s)

/-- A refused command's reply ends with its port status, and it changes nothing but the port (R184, R185); a CLOSE refused
with CLOSE_BUSY (0x10), and no other refused command, raises the close target to the open period, and a raise taken offers a
PRESENCE (R51, R94, R95). -/
def Obligations.RefusedCommandsChangeNothing : Prop :=
  ∀ (c : Instr) (s t : State), (opcodeOf c).isSome → exec c s = .next t →
    ∀ b rest, t.port.reply = b :: rest → b ≠ 0 →
      rest = [] ∧ (c ≠ .close ∨ b ≠ 0x10 → { t with port := s.port } = s) ∧
      (c = .close → b = 0x10 →
        s.station = .trading ∧ s.positions.gen.closing = true ∧
        { t with port := s.port, link := s.link, positions := s.positions } = s ∧
        t.positions = { s.positions with target := max s.positions.target (openPeriod s) } ∧
        t.link = (if s.positions.target < openPeriod s then
            (offerPresence { s with positions := { s.positions with target := openPeriod s } }).link else s.link))

/-- STATUS, ROSTER_READ, SLOT_READ and POSITION_READ are answered with ACCEPTED and the layout's bytes, and an opcode that
names no command with BAD_COMMAND; nothing but the port changes (R93, R184, R187, R191, R192). STATUS reports the pending
frames, with those a recovery that stopped has left STORED (log entry 53). Of every host command the part shifts out 0xFF
while its bytes come in, then the reply from the port status on, and 0xFF after its end (R184). Model's choices and
inferences in it: log entries 4, 19, 37, 53, 55, 56. -/
def Obligations.ReadsAnswerAndChangeOnlyThePort : Prop :=
  ∀ s : State, s.station ≠ .held →
    (∀ p, exec (.status p) s =
      .next { s with port := ⟨0 :: statusReply { s with port := { s.port with protectN := p } }, .statusFlag, p⟩ }) ∧
    (∀ s' : State, (statusReply s').length = 25 ∧ (s'.station ≠ .recovering →
      (statusReply s')[12]? = some (BitVec.ofNat 8 (s'.control.frames.length + s'.leftStored)))) ∧
    exec .rosterRead s = .next { s with port := acceptedPort (rosterReply s) s } ∧ (rosterReply s).length = 504 ∧
    (s.station = .trading → ∀ slot, slot < 8 →
      exec (.slotRead slot) s = .next { s with port := acceptedPort (slotReply (getSlot s slot)) s } ∧
      (getSlot s slot = none → slotReply (getSlot s slot) = 1 :: List.replicate 39 0)) ∧
    (s.station = .trading → ∀ slot, 8 ≤ slot → exec (.slotRead slot) s = refusedWith 0x02 s) ∧
    (s.station = .trading → ∀ j, 1 ≤ j → j ≤ 63 →
      exec (.positionRead 0 j) s = .next { s with port := acceptedPort (openReply s j) s } ∧
      exec (.positionRead 1 j) s =
        (if s.positions.gen.closing then .next { s with port := acceptedPort (closingReply s j) s }
         else refusedWith 0x02 s)) ∧
    (∀ op, exec (.badCommand op) s = refusedWith 0x01 s) ∧
    (∀ (c : Instr) (t : State) (bytes : List Byte), encodeTill c = some bytes → exec c s = .next t → ∀ k : Nat,
      (k < bytes.length → misoByte bytes.length t k = some 0xFF) ∧
      (k < t.port.reply.length → misoByte bytes.length t (bytes.length + k) = t.port.reply[k]?) ∧
      ((∀ cs, t.port.session ≠ .cursor cs) → bytes.length + t.port.reply.length ≤ k →
        misoByte bytes.length t k = some 0xFF))

/-! ### Encodings -/

/-- What the till port's encoder writes for a well-formed host command, the decoder reads back as that command, whatever
bytes follow; a select period cut short before its last argument byte gives no command (R184, R190). -/
def Obligations.TillCommandsRoundTrip : Prop :=
  ∀ (c : Instr) (bytes : List Byte), c.wellFormed = true → encodeTill c = some bytes →
    (∀ more, decodeTill (protectLevel c) (bytes ++ more) = some c) ∧
    ∀ k level, k < bytes.length → decodeTill level (bytes.take k) = none

/-- A link frame that fits its layout is read back from its bytes as it was, with a good frame check and its mall id (R44,
R45, R194). Model's choices and inferences in it: log entry 55. -/
def Obligations.LinkFramesRoundTrip : Prop :=
  ∀ (mall : Nat) (f : LinkFrame), f.fits = true → mall < 65536 →
    decodeFrame (encodeFrame mall f) = some f ∧ frameCheckOk (encodeFrame mall f) = true ∧
    frameMall (encodeFrame mall f) = mall

/-- A card identifier is valid exactly when its numbers are in range and its check value is the one the home forms (R3,
R186). -/
def Obligations.CheckValueDecidesValidity : Prop :=
  ∀ c : CardId, cardValid c = true ↔
    1 ≤ c.ss ∧ c.ss ≤ 63 ∧ 1 ≤ c.serial ∧ c.serial ≤ 99999999 ∧ c.cc = 98 - (c.ss * 10 ^ 8 + c.serial) * 100 % 97

/-! ### Cards -/

/-- ISSUE that passes its checks (R4, R11): the next serial, its record ACTIVE with the amount in the lowest free custody
place, the liability and the own row's TO raised, the slot ISSUING, and an ISSUE frame with four write-backs whose
continuation is the ISSUED outcome; nothing else changes. Model's choices and inferences in it: log entries 9, 10. -/
def Obligations.IssueCreatesACard : Prop :=
  ∀ (s : State) (i : Identity) (slot amount : Nat) (rel : Bool) (ref : Option Nat),
    s.station = .trading → s.ident = some i → slot < 8 → getSlot s slot = none → 1 ≤ amount → amount ≤ ceiling s →
    i.serialCounter < 99999999 → cardCount s < 16384 → (openRow s i.station).own.tO + amount ≤ 999999999999 →
    insideReserve s = false → frameFree s = true →
    ∃ t, exec (.issue slot amount rel ref) s = .next t ∧
      t.ident = some { i with serialCounter := i.serialCounter + 1 } ∧
      cardBecomes (freeCardPlace s) ⟨i.serialCounter + 1, .active, amount, 0, 0, rel, openPeriod s⟩ s t ∧
      t.custody.locks = s.custody.locks ∧ t.custody.liability = s.custody.liability + amount ∧
      slotBecomes slot
        (some ⟨.issuing, .issue, cardId i.station (i.serialCounter + 1), amount, false, ref, none, none, none, none⟩) s t ∧
      rowBecomes s.positions.gen.openSide i.station
        { openRow s i.station with
          own := { (openRow s i.station).own with tO := (openRow s i.station).own.tO + amount } } s t ∧
      claimsOne s t ∧
      queuesFrame .issue
        [.card (freeCardPlace s) ⟨i.serialCounter + 1, .active, amount, 0, 0, rel, openPeriod s⟩,
         .identity { i with serialCounter := i.serialCounter + 1 },
         .row s.positions.gen.openSide i.station
           { openRow s i.station with
             own := { (openRow s i.station).own with tO := (openRow s i.station).own.tO + amount } },
         .journal [entryOf s .issue (openPeriod s)
           { card := some (cardId i.station (i.serialCounter + 1)), amount := some amount, tillRef := ref }]]
        [writePoint s.journal]
        (.slotOutcome slot none none
          ⟨.issued, amount, cardId i.station (i.serialCounter + 1), some amount, none, none, 0⟩) s t ∧
      t.port = acceptedPort [] s ∧
      { t with ident := s.ident, custody := s.custody, slots := s.slots, positions := s.positions, journal := s.journal,
               notices := s.notices, control := s.control, port := s.port } = s

/-- The checks of ISSUE in order: the first that fails gives the port status, and nothing else changes (R10). -/
def Obligations.IssueChecksInOrder : Prop :=
  ∀ (s : State) (i : Identity) (slot amount : Nat) (rel : Bool) (ref : Option Nat),
    s.station ≠ .held → s.ident = some i →
    (s.station ≠ .trading → exec (.issue slot amount rel ref) s = refusedWith 0x03 s) ∧
    (s.station = .trading →
      (8 ≤ slot → exec (.issue slot amount rel ref) s = refusedWith 0x02 s) ∧
      (slot < 8 →
        (getSlot s slot ≠ none → exec (.issue slot amount rel ref) s = refusedWith 0x04 s) ∧
        (getSlot s slot = none →
          (amount = 0 ∨ ceiling s < amount → exec (.issue slot amount rel ref) s = refusedWith 0x06 s) ∧
          (1 ≤ amount ∧ amount ≤ ceiling s →
            (99999999 ≤ i.serialCounter → exec (.issue slot amount rel ref) s = refusedWith 0x0A s) ∧
            (i.serialCounter < 99999999 →
              (16384 ≤ cardCount s → exec (.issue slot amount rel ref) s = refusedWith 0x09 s) ∧
              (cardCount s < 16384 →
                (999999999999 < (openRow s i.station).own.tO + amount →
                  exec (.issue slot amount rel ref) s = refusedWith 0x0D s) ∧
                ((openRow s i.station).own.tO + amount ≤ 999999999999 →
                  (freeCount s.journal ≤ 512 → exec (.issue slot amount rel ref) s = refusedWith 0x0B s) ∧
                  (512 < freeCount s.journal → s.control.frames.length = 16 →
                    exec (.issue slot amount rel ref) s = refusedWith 0x0C s))))))))

/-- REDEEM of an own card (R25, R28 to R31). One that passes every check is granted, in full or, when partial is allowed,
with what is available: card, OPEN entry with a fresh tag and the full hold life, identity record, a HOLD_GRANT frame whose
continuation brings the slot to HELD; the slot is AUTHORISING, the liability stays, and nothing else changes. One that fails
a check of the home is declined with the first reason that holds: UNKNOWN_CARD, FROZEN, BUSY, LIMIT, INSUFFICIENT. Model's
choices and inferences in it: log entries 9, 18. -/
def Obligations.OwnRedeemIsDecided : Prop :=
  (∀ (s : State) (i : Identity) (slot amount : Nat) (card : CardId) (part : Bool) (ref : Option Nat) (place : Nat) (c : Card)
     (amt : Nat),
     s.station = .trading → s.ident = some i → slot < 8 → getSlot s slot = none → cardValid card = true →
     card.ss = i.station → 1 ≤ amount → amount ≤ 9999999 → 512 < freeCount s.journal →
     findCard s card.serial = some (place, c) → cardFrozen s c = false → grantCount s < 1024 → openHolds s < 256 →
     c.openHolds < 4 → frameFree s = true →
     (openRow s i.station).own.ro + openHeld s i.station + amount ≤ 999999999999 →
     ((amount ≤ c.available ∧ amt = amount) ∨ (c.available < amount ∧ part = true ∧ 1 ≤ c.available ∧ amt = c.available)) →
     ∃ t, exec (.redeem slot card amount part ref) s = .next t ∧
       t.ident = some { i with tagCounter := freshTag s } ∧
       cardBecomes place { c with available := c.available - amt, held := c.held + amt, openHolds := c.openHolds + 1,
                                  lastActivity := openPeriod s } s t ∧
       t.custody.locks = s.custody.locks ∧ t.custody.liability = s.custody.liability ∧
       grantBecomes (freeGrantPlace s)
         ⟨i.station, none, c.serial, openPeriod s, .hold (freshTag s) amt .isOpen⟩ s t ∧
       t.requests.lives = tabPut s.requests.lives (freshTag s) (holdLifeMs s) ∧
       t.requests.deferred = s.requests.deferred ∧ t.requests.lapsing = s.requests.lapsing ∧
       slotBecomes slot (some ⟨.authorising, .redeem, card, amount, part, ref, none, none, none, none⟩) s t ∧
       queuesFrame .holdGrant
         [.card place { c with available := c.available - amt, held := c.held + amt, openHolds := c.openHolds + 1,
                               lastActivity := openPeriod s },
          .grant (freeGrantPlace s) ⟨i.station, none, c.serial, openPeriod s, .hold (freshTag s) amt .isOpen⟩,
          .identity { i with tagCounter := freshTag s }] []
         (.slotOutcome slot none (some ⟨freshTag s, openPeriod s, amt⟩)
           ⟨if amount ≤ c.available then .approved else .partially, amt, card, some (c.available - amt), none, none, 0⟩) s t ∧
       t.port = acceptedPort [] s ∧
       { t with ident := s.ident, custody := s.custody, requests := s.requests, slots := s.slots, control := s.control,
                port := s.port } = s) ∧
  (∀ (s : State) (i : Identity) (slot amount : Nat) (card : CardId) (part : Bool) (ref : Option Nat),
     s.station = .trading → s.ident = some i → slot < 8 → getSlot s slot = none → cardValid card = true →
     card.ss = i.station → 1 ≤ amount → amount ≤ 9999999 → 512 < freeCount s.journal →
     (findCard s card.serial = none →
       declinesSlot (.redeem slot card amount part ref) slot
         ⟨.authorising, .redeem, card, amount, part, ref, none, none, none, none⟩ .unknownCard s) ∧
     (∀ (place : Nat) (c : Card), findCard s card.serial = some (place, c) →
       (cardFrozen s c = true →
         declinesSlot (.redeem slot card amount part ref) slot
           ⟨.authorising, .redeem, card, amount, part, ref, none, none, none, none⟩ .frozen s) ∧
       (cardFrozen s c = false →
         (1024 ≤ grantCount s ∨ 256 ≤ openHolds s ∨ 4 ≤ c.openHolds ∨ 16 ≤ s.control.frames.length →
           declinesSlot (.redeem slot card amount part ref) slot
             ⟨.authorising, .redeem, card, amount, part, ref, none, none, none, none⟩ .busy s) ∧
         (grantCount s < 1024 ∧ openHolds s < 256 ∧ c.openHolds < 4 ∧ s.control.frames.length < 16 →
           (999999999999 < (openRow s i.station).own.ro + openHeld s i.station + amount →
             declinesSlot (.redeem slot card amount part ref) slot
               ⟨.authorising, .redeem, card, amount, part, ref, none, none, none, none⟩ .limit s) ∧
           ((openRow s i.station).own.ro + openHeld s i.station + amount ≤ 999999999999 → c.available < amount →
             part = false ∨ c.available = 0 →
             declinesSlot (.redeem slot card amount part ref) slot
               ⟨.authorising, .redeem, card, amount, part, ref, none, none, none, none⟩ .insufficient s)))))

/-- COMPLETE of an own hold (R36): an OPEN entry is captured for the amount, at most g, with the rest back on the card, RO
and KO of the period's own row booked, the liability lowered, a CAPTURE_OWN entry and a HOLD_SETTLE frame whose continuation
is the CAPTURED outcome; an entry CAPTURED before answers its amount; one that is gone, RELEASED or EXPIRED is
CAPTURE_REFUSED; behind pending frames that write the entry the outcome is held back, the slot SETTLING till they are stored.
The clearing unit then examines the own row (R65, R99). Model's choices and inferences in it: log entries 9, 10, 18, 30, 54.
-/
def Obligations.OwnCompleteCaptures : Prop :=
  ∀ (s : State) (slot amount : Nat) (sl : Slot) (h : HoldRef),
    s.station = .trading → slot < 8 → heldSlot s slot = some (sl, h) → sl.card.ss = ownStation s → 1 ≤ amount →
    amount ≤ h.g → frameFree s = true →
    (∀ (gp : Nat) (gr : Grant) (tag a : Nat) (place : Nat) (c : Card) (side : Side),
      findSettled s (ownStation s) h.tag sl.card.serial h.period = some (gp, gr) → gr.body = .hold tag a .isOpen →
      findCard s gr.serial = some (place, c) → generationOf s gr.period = some side →
      ∃ t0, exec (.complete slot amount) s = .next (accepted [] (reexamine (ownStation s) t0)) ∧
        cardBecomes place { c with available := c.available + (a - min amount a), held := c.held - a,
                                   openHolds := c.openHolds - 1, lastActivity := openPeriod s } s t0 ∧
        t0.custody.locks = s.custody.locks ∧ t0.custody.liability = s.custody.liability - min amount a ∧
        grantBecomes gp { gr with body := .hold tag a (.captured (min amount a)) } s t0 ∧
        t0.requests.lives = tabDel s.requests.lives tag ∧
        t0.requests.deferred = s.requests.deferred.filter (fun x => x ≠ tag) ∧
        t0.requests.lapsing = s.requests.lapsing.filter (fun x => x ≠ tag) ∧
        rowBecomes side (ownStation s)
          (captureBooking true (min amount a) (readRow s side gr.period (ownStation s))) s t0 ∧
        slotBecomes slot (some { sl with state := .settling, op := .complete, amount := amount, timer := none,
                                         outcome := none }) s t0 ∧
        claimsOne s t0 ∧
        queuesFrame .holdSettle
          [.card place { c with available := c.available + (a - min amount a), held := c.held - a,
                                openHolds := c.openHolds - 1, lastActivity := openPeriod s },
           .grant gp { gr with body := .hold tag a (.captured (min amount a)) },
           .row side (ownStation s) (captureBooking true (min amount a) (readRow s side gr.period (ownStation s))),
           .journal [entryOf s .captureOwn gr.period
             { card := some sl.card, amount := some (min amount a), tag := some tag, tillRef := sl.tillRef }]]
          [writePoint s.journal]
          (.slotOutcome slot none none
            ⟨.captured, min amount a, sl.card, some (c.available + (a - min amount a)), none, none, 0⟩) s t0 ∧
        { t0 with custody := s.custody, requests := s.requests, slots := s.slots, positions := s.positions,
                  journal := s.journal, notices := s.notices, control := s.control } = s) ∧
    (findSettled s (ownStation s) h.tag sl.card.serial h.period = none →
      ∃ t0, exec (.complete slot amount) s = .next (accepted [] (reexamine (ownStation s) t0)) ∧
        slotBecomes slot (some (slotOutcome { sl with op := .complete, amount := amount }
          ⟨.captureRefused, 0, sl.card, availableOf s sl.card.serial, none, none, 0⟩)) s t0 ∧
        postsSlot slot .captureRefused s t0 ∧ { t0 with slots := s.slots, notices := s.notices } = s) ∧
    (∀ (gp : Nat) (gr : Grant) (tag a x : Nat),
      findSettled s (ownStation s) h.tag sl.card.serial h.period = some (gp, gr) → gr.body = .hold tag a (.captured x) →
      (unstored (writesGrant gp) s = [] →
        ∃ t0, exec (.complete slot amount) s = .next (accepted [] (reexamine (ownStation s) t0)) ∧
          slotBecomes slot (some (slotOutcome { sl with op := .complete, amount := amount }
            ⟨.captured, x, sl.card, availableOf s sl.card.serial, none, none, 0⟩)) s t0 ∧
          postsSlot slot .captured s t0 ∧ { t0 with slots := s.slots, notices := s.notices } = s) ∧
      (unstored (writesGrant gp) s ≠ [] →
        waitsForOutcome (.complete slot amount) slot
          { sl with state := .settling, op := .complete, amount := amount, timer := none, outcome := none }
          (unstored (writesGrant gp) s)
          ⟨.captured, x, sl.card, availableOf s sl.card.serial, none, none, 0⟩ s)) ∧
    (∀ (gp : Nat) (gr : Grant) (tag a : Nat),
      findSettled s (ownStation s) h.tag sl.card.serial h.period = some (gp, gr) →
      gr.body = .hold tag a .released ∨ gr.body = .hold tag a .expired →
      (unstored (writesGrant gp) s = [] →
        ∃ t0, exec (.complete slot amount) s = .next (accepted [] (reexamine (ownStation s) t0)) ∧
          slotBecomes slot (some (slotOutcome { sl with op := .complete, amount := amount }
            ⟨.captureRefused, 0, sl.card, availableOf s sl.card.serial, none, none, 0⟩)) s t0 ∧
          postsSlot slot .captureRefused s t0 ∧ { t0 with slots := s.slots, notices := s.notices } = s) ∧
      (unstored (writesGrant gp) s ≠ [] →
        waitsForOutcome (.complete slot amount) slot
          { sl with state := .settling, op := .complete, amount := amount, timer := none, outcome := none }
          (unstored (writesGrant gp) s)
          ⟨.captureRefused, 0, sl.card, availableOf s sl.card.serial, none, none, 0⟩ s))

/-- CANCEL of an own hold (R37): an OPEN entry is RELEASED with the whole g back on the card and a HOLD_SETTLE frame of two
write-backs whose continuation is the RELEASED outcome; one already ended is RELEASED with no write, at once or behind
pending frames that write the entry; one that is gone is RELEASED at once. The clearing unit then examines the own row (R65,
R99). Model's choices and inferences in it: log entries 9, 18, 30, 49, 54. -/
def Obligations.OwnCancelReleases : Prop :=
  ∀ (s : State) (slot : Nat) (sl : Slot) (h : HoldRef),
    s.station = .trading → slot < 8 → heldSlot s slot = some (sl, h) → sl.card.ss = ownStation s → frameFree s = true →
    (∀ (gp : Nat) (gr : Grant) (tag a : Nat) (place : Nat) (c : Card),
      findSettled s (ownStation s) h.tag sl.card.serial h.period = some (gp, gr) → gr.body = .hold tag a .isOpen →
      findCard s gr.serial = some (place, c) →
      ∃ t0, exec (.cancel slot) s = .next (accepted [] (reexamine (ownStation s) t0)) ∧
        cardBecomes place { c with available := c.available + a, held := c.held - a, openHolds := c.openHolds - 1,
                                   lastActivity := openPeriod s } s t0 ∧
        t0.custody.locks = s.custody.locks ∧ t0.custody.liability = s.custody.liability ∧
        grantBecomes gp { gr with body := .hold tag a .released } s t0 ∧
        t0.requests.lives = tabDel s.requests.lives tag ∧
        t0.requests.deferred = s.requests.deferred.filter (fun x => x ≠ tag) ∧
        t0.requests.lapsing = s.requests.lapsing.filter (fun x => x ≠ tag) ∧
        slotBecomes slot (some { sl with state := .settling, op := .cancel, timer := none, outcome := none }) s t0 ∧
        queuesFrame .holdSettle
          [.card place { c with available := c.available + a, held := c.held - a, openHolds := c.openHolds - 1,
                                lastActivity := openPeriod s },
           .grant gp { gr with body := .hold tag a .released }] []
          (.slotOutcome slot none none ⟨.released, 0, sl.card, some (c.available + a), none, none, 0⟩) s t0 ∧
        { t0 with custody := s.custody, requests := s.requests, slots := s.slots, control := s.control } = s) ∧
    (findSettled s (ownStation s) h.tag sl.card.serial h.period = none →
      ∃ t0, exec (.cancel slot) s = .next (accepted [] (reexamine (ownStation s) t0)) ∧
        slotBecomes slot (some (slotOutcome { sl with op := .cancel }
          ⟨.released, 0, sl.card, availableOf s sl.card.serial, none, none, 0⟩)) s t0 ∧
        postsSlot slot .released s t0 ∧ { t0 with slots := s.slots, notices := s.notices } = s) ∧
    (∀ (gp : Nat) (gr : Grant),
      findSettled s (ownStation s) h.tag sl.card.serial h.period = some (gp, gr) → grantOpen gr = false →
      (unstored (writesGrant gp) s = [] →
        ∃ t0, exec (.cancel slot) s = .next (accepted [] (reexamine (ownStation s) t0)) ∧
          slotBecomes slot (some (slotOutcome { sl with op := .cancel }
            ⟨.released, 0, sl.card, availableOf s sl.card.serial, none, none, 0⟩)) s t0 ∧
          postsSlot slot .released s t0 ∧ { t0 with slots := s.slots, notices := s.notices } = s) ∧
      (unstored (writesGrant gp) s ≠ [] →
        waitsForOutcome (.cancel slot) slot { sl with state := .settling, op := .cancel, timer := none, outcome := none }
          (unstored (writesGrant gp) s) ⟨.released, 0, sl.card, availableOf s sl.card.serial, none, none, 0⟩ s))

/-- TOPUP and REFUND of an own card (R9, R12). One that passes every check raises available, liability and the own row's TO
or FO by the amount, makes an APPLIED entry, and queues a CREDIT_APPLY frame of four write-backs whose continuation is the
CREDITED outcome; the slot is CREDITING and nothing else changes. One that fails a check of the home is declined with the
first reason that holds: UNKNOWN_CARD, FROZEN for a TOPUP alone, OVER_CEILING, BUSY, LIMIT. Model's choices and inferences in
it: log entries 9, 10, 18. -/
def Obligations.OwnCreditIsDecided : Prop :=
  (∀ (s : State) (i : Identity) (kind : CreditKind) (slot amount : Nat) (card : CardId) (ref : Option Nat) (place : Nat)
     (c : Card),
     s.station = .trading → s.ident = some i → slot < 8 → getSlot s slot = none → cardValid card = true →
     card.ss = i.station → 1 ≤ amount → amount ≤ 9999999 → 512 < freeCount s.journal → frameFree s = true →
     findCard s card.serial = some (place, c) → (kind = .topup → cardFrozen s c = false) →
     c.available + c.held + amount ≤ ceiling s → grantCount s < 1024 → creditFigure s i.station kind + amount ≤ 999999999999 →
     ∃ t, exec (creditCommand kind slot card amount ref) s = .next t ∧
       cardBecomes place { c with available := c.available + amount, lastActivity := openPeriod s } s t ∧
       t.custody.locks = s.custody.locks ∧ t.custody.liability = s.custody.liability + amount ∧
       grantBecomes (freeGrantPlace s) ⟨i.station, none, c.serial, openPeriod s, .credit kind amount⟩ s t ∧
       t.requests.lives = s.requests.lives ∧ t.requests.deferred = s.requests.deferred ∧
       t.requests.lapsing = s.requests.lapsing ∧
       rowBecomes s.positions.gen.openSide i.station (creditBooking true kind amount (openRow s i.station)) s t ∧
       slotBecomes slot (some ⟨.crediting, creditOp kind, card, amount, false, ref, none, none, none, none⟩) s t ∧
       claimsOne s t ∧
       queuesFrame .creditApply
         [.card place { c with available := c.available + amount, lastActivity := openPeriod s },
          .grant (freeGrantPlace s) ⟨i.station, none, c.serial, openPeriod s, .credit kind amount⟩,
          .row s.positions.gen.openSide i.station (creditBooking true kind amount (openRow s i.station)),
          .journal [entryOf s (ownCreditKind kind) (openPeriod s)
            { card := some card, amount := some amount, tillRef := ref }]]
         [writePoint s.journal]
         (.slotOutcome slot none none ⟨.credited, amount, card, some (c.available + amount), none, none, 0⟩) s t ∧
       t.port = acceptedPort [] s ∧
       { t with custody := s.custody, requests := s.requests, slots := s.slots, positions := s.positions,
                journal := s.journal, notices := s.notices, control := s.control, port := s.port } = s) ∧
  (∀ (s : State) (i : Identity) (kind : CreditKind) (slot amount : Nat) (card : CardId) (ref : Option Nat),
     s.station = .trading → s.ident = some i → slot < 8 → getSlot s slot = none → cardValid card = true →
     card.ss = i.station → 1 ≤ amount → amount ≤ 9999999 → 512 < freeCount s.journal → frameFree s = true →
     (findCard s card.serial = none →
       declinesSlot (creditCommand kind slot card amount ref) slot
         ⟨.crediting, creditOp kind, card, amount, false, ref, none, none, none, none⟩ .unknownCard s) ∧
     (∀ (place : Nat) (c : Card), findCard s card.serial = some (place, c) →
       (kind = .topup → cardFrozen s c = true →
         declinesSlot (creditCommand kind slot card amount ref) slot
           ⟨.crediting, creditOp kind, card, amount, false, ref, none, none, none, none⟩ .frozen s) ∧
       (kind = .refund ∨ cardFrozen s c = false →
         (ceiling s < c.available + c.held + amount →
           declinesSlot (creditCommand kind slot card amount ref) slot
             ⟨.crediting, creditOp kind, card, amount, false, ref, none, none, none, none⟩ .overCeiling s) ∧
         (c.available + c.held + amount ≤ ceiling s →
           (1024 ≤ grantCount s →
             declinesSlot (creditCommand kind slot card amount ref) slot
               ⟨.crediting, creditOp kind, card, amount, false, ref, none, none, none, none⟩ .busy s) ∧
           (grantCount s < 1024 → 999999999999 < creditFigure s i.station kind + amount →
             declinesSlot (creditCommand kind slot card amount ref) slot
               ⟨.crediting, creditOp kind, card, amount, false, ref, none, none, none, none⟩ .limit s)))))

/-- ENQUIRE, FREEZE and UNFREEZE of an own card (R17, R18, R19). An enquiry shows UNKNOWN with zeros, or LOCKED, FROZEN or
ACTIVE with the balances, at once or behind pending frames that write the card. A FREEZE of an ACTIVE card, and an UNFREEZE
of a FROZEN one, change its state alone, with a journal entry in a STATUS_CHANGE frame; a FREEZE that changes nothing is
answered as an enquiry, at once or behind pending frames; an UNFREEZE that changes nothing is UNFROZEN at once, and with no
record it is DECLINED. That the outcome amount of STATUS, UNFROZEN and DECLINED is 0 is log entry 18 (DEDUCED). Model's
choices and inferences in it: log entries 9, 10, 18. -/
def Obligations.OwnCardStatusCommands : Prop :=
  ∀ (s : State) (slot : Nat) (card : CardId) (ref : Option Nat),
    s.station = .trading → slot < 8 → getSlot s slot = none → cardValid card = true → card.ss = ownStation s →
    (findCard s card.serial = none → cardView s card.serial = (.unknown, 0, 0)) ∧
    (∀ (place : Nat) (c : Card), findCard s card.serial = some (place, c) →
      cardView s card.serial =
        (if cardLocked s card.serial then .locked else if c.state = .frozen then .frozen else .active, c.available, c.held)) ∧
    (cardFrames s card.serial = [] →
      ∃ t, exec (.enquire slot card) s = .next t ∧
        slotBecomes slot (some (slotOutcome ⟨.enquiring, .enquire, card, 0, false, none, none, none, none, none⟩
          ⟨.status, 0, card, some (cardView s card.serial).2.1, none, some (cardView s card.serial).1,
            (cardView s card.serial).2.2⟩)) s t ∧
        postsSlot slot .status s t ∧ t.port = acceptedPort [] s ∧
        { t with slots := s.slots, notices := s.notices, port := s.port } = s) ∧
    (cardFrames s card.serial ≠ [] →
      waitsForOutcome (.enquire slot card) slot ⟨.enquiring, .enquire, card, 0, false, none, none, none, none, none⟩
        (cardFrames s card.serial)
        ⟨.status, 0, card, some (cardView s card.serial).2.1, none, some (cardView s card.serial).1,
          (cardView s card.serial).2.2⟩ s) ∧
    (512 < freeCount s.journal → frameFree s = true →
      (∀ (place : Nat) (c : Card), findCard s card.serial = some (place, c) → c.state = .active →
        ∃ t, exec (.freeze slot card) s = .next t ∧
          cardBecomes place { c with state := .frozen } s t ∧ t.custody.locks = s.custody.locks ∧
          t.custody.liability = s.custody.liability ∧
          slotBecomes slot (some ⟨.enquiring, .freeze, card, 0, false, none, none, none, none, none⟩) s t ∧
          claimsOne s t ∧
          queuesFrame .statusChange
            [.card place { c with state := .frozen },
             .journal [entryOf s .freeze (openPeriod s)
               { card := some (cardId card.ss card.serial), counterpart := some card.ss }]]
            [writePoint s.journal]
            (.slotOutcome slot none none
              ⟨.status, 0, card, some c.available, none, some (if cardLocked s card.serial then .locked else .frozen),
                c.held⟩) s t ∧
          t.port = acceptedPort [] s ∧
          { t with custody := s.custody, slots := s.slots, journal := s.journal, notices := s.notices, control := s.control,
                   port := s.port } = s) ∧
      ((findCard s card.serial).all (fun p => p.2.state = .frozen) = true →
        (cardFrames s card.serial = [] →
          ∃ t, exec (.freeze slot card) s = .next t ∧
            slotBecomes slot (some (slotOutcome ⟨.enquiring, .freeze, card, 0, false, none, none, none, none, none⟩
              ⟨.status, 0, card, some (cardView s card.serial).2.1, none, some (cardView s card.serial).1,
                (cardView s card.serial).2.2⟩)) s t ∧
            postsSlot slot .status s t ∧ t.port = acceptedPort [] s ∧
            { t with slots := s.slots, notices := s.notices, port := s.port } = s) ∧
        (cardFrames s card.serial ≠ [] →
          waitsForOutcome (.freeze slot card) slot ⟨.enquiring, .freeze, card, 0, false, none, none, none, none, none⟩
            (cardFrames s card.serial)
            ⟨.status, 0, card, some (cardView s card.serial).2.1, none, some (cardView s card.serial).1,
              (cardView s card.serial).2.2⟩ s)) ∧
      (findCard s card.serial = none →
        declinesSlot (.unfreeze slot card ref true) slot ⟨.enquiring, .unfreeze, card, 0, false, ref, none, none, none, none⟩
          .unknownCard { s with port := { s.port with protectN := true } }) ∧
      (∀ (place : Nat) (c : Card), findCard s card.serial = some (place, c) → c.state = .active →
        ∃ t, exec (.unfreeze slot card ref true) s = .next t ∧
          slotBecomes slot (some (slotOutcome ⟨.enquiring, .unfreeze, card, 0, false, ref, none, none, none, none⟩
            ⟨.unfrozen, 0, card, some c.available, if cardLocked s card.serial then some .locked else none, none, 0⟩)) s t ∧
          postsSlot slot .unfrozen s t ∧ t.port = { acceptedPort [] s with protectN := true } ∧
          { t with slots := s.slots, notices := s.notices, port := s.port } = s) ∧
      (∀ (place : Nat) (c : Card), findCard s card.serial = some (place, c) → c.state = .frozen →
        ∃ t, exec (.unfreeze slot card ref true) s = .next t ∧
          cardBecomes place { c with state := .active } s t ∧ t.custody.locks = s.custody.locks ∧
          t.custody.liability = s.custody.liability ∧
          slotBecomes slot (some ⟨.enquiring, .unfreeze, card, 0, false, ref, none, none, none, none⟩) s t ∧
          claimsOne s t ∧
          queuesFrame .statusChange
            [.card place { c with state := .active },
             .journal [entryOf s .unfreeze (openPeriod s) { card := some card, tillRef := ref }]]
            [writePoint s.journal]
            (.slotOutcome slot none none
              ⟨.unfrozen, 0, card, some c.available, if cardLocked s card.serial then some .locked else none, none, 0⟩) s t ∧
          t.port = { acceptedPort [] s with protectN := true } ∧
          { t with custody := s.custody, slots := s.slots, journal := s.journal, notices := s.notices, control := s.control,
                   port := s.port } = s))

/-- PROTECT_N low turns UNFREEZE and RANGE_LOCK away with PROTECTED, once the checks before it pass, and nothing but the port
changes (R8, R19). RANGE_LOCK that passes its checks (R8): an active one replaces the lock whole, an inactive one clears its
flag alone; a RANGE_SET frame carries the lock and a RANGE_LOCK journal entry, with nothing to announce, and nothing else
changes. That the entry of a clear carries the lock's own serials, 0 for a lock never set, is log entry 30 (DEDUCED). Model's
choices and inferences in it: log entries 9, 10, 30. -/
def Obligations.ProtectLineAndRangeLocks : Prop :=
  (∀ (s : State) (slot : Nat) (card : CardId) (ref : Option Nat) (n lo hi : Nat) (act : Bool), s.station = .trading →
     (slot < 8 → getSlot s slot = none → cardValid card = true → card.ss = ownStation s →
       exec (.unfreeze slot card ref false) s = refusedWith 0x0E { s with port := { s.port with protectN := false } }) ∧
     (slot < 8 → getSlot s slot = none → cardValid card = true → card.ss ≠ ownStation s →
       exec (.unfreeze slot card ref false) s = refusedWith 0x0F { s with port := { s.port with protectN := false } }) ∧
     (1 ≤ n → n ≤ 4 →
       exec (.rangeLock n lo hi act false) s = refusedWith 0x0E { s with port := { s.port with protectN := false } }) ∧
     (n = 0 ∨ 5 ≤ n →
       exec (.rangeLock n lo hi act false) s = refusedWith 0x02 { s with port := { s.port with protectN := false } })) ∧
  (∀ (s : State) (n lo hi : Nat) (act : Bool),
     s.station = .trading → 1 ≤ n → n ≤ 4 → (act = true → 1 ≤ lo ∧ lo ≤ hi ∧ hi ≤ 99999999) → 512 < freeCount s.journal →
     frameFree s = true →
     ∃ t, exec (.rangeLock n lo hi act true) s = .next t ∧
       t.custody = ⟨s.custody.cards,
         tabPutD RangeLock.blank s.custody.locks n
           (if act then ⟨lo, hi, true⟩ else ⟨(getLock s n).low, (getLock s n).high, false⟩),
         s.custody.liability⟩ ∧
       claimsOne s t ∧
       queuesFrame .rangeSet
         [.lock n (if act then ⟨lo, hi, true⟩ else ⟨(getLock s n).low, (getLock s n).high, false⟩),
          .journal [entryOf s .rangeLock (openPeriod s)
            { card := some (cardId (ownStation s) (if act then lo else (getLock s n).low)),
              amount := some (if act then hi else (getLock s n).high), outcome := some (.lock act n) }]]
         [writePoint s.journal] .none s t ∧
       t.port = { acceptedPort [] s with protectN := true } ∧
       { t with custody := s.custody, journal := s.journal, notices := s.notices, control := s.control, port := s.port } = s)

/-! ### Foreign cards -/

/-- REDEEM, ENQUIRE and FREEZE of a foreign card, and CANCEL of a foreign hold, whose number needs no step, make a volatile
entry and offer its request frame (R67, R72, R73, R74, R79, R82). A home that is not heard turns foreign work away with
HOME_ABSENT, and a tracker with 32 entries with TRACKER_FULL; nothing but the port changes then (R62, R72). Model's choices
and inferences in it: log entry 9. -/
def Obligations.ForeignWorkSendsItsRequest : Prop :=
  (∀ (s : State) (slot : Nat),
     s.station = .trading → slot < 8 → trackCount s < 32 → (nextNumber s).2 = false →
     unstored (coversNumber (nextNumber s).1) s = [] → numberHeld s (nextNumber s).1 = false →
     (∀ (card : CardId) (amount : Nat) (part : Bool) (ref : Option Nat),
       getSlot s slot = none → cardValid card = true → card.ss ≠ ownStation s → rosterPresent s card.ss = true →
       lastClosed s < openPeriod s →
       (1 ≤ amount → amount ≤ 9999999 → 512 < freeCount s.journal → redeemInLimit s card.ss amount = true →
         sendsNewEntry (.redeem slot card amount part ref) slot
           ⟨.authorising, .redeem, card, amount, part, ref, none, none, none, none⟩
           ⟨.hold, card.ss, 0, openPeriod s, card.serial, amount, none, .sent⟩ part (.holdReq card.serial amount part) s) ∧
       sendsNewEntry (.enquire slot card) slot ⟨.enquiring, .enquire, card, 0, false, none, none, none, none, none⟩
         ⟨.status .enquire, card.ss, 0, openPeriod s, card.serial, 0, none, .sent⟩ false
         (.statusReq .enquire card.serial) s ∧
       (512 < freeCount s.journal →
         sendsNewEntry (.freeze slot card) slot ⟨.enquiring, .freeze, card, 0, false, none, none, none, none, none⟩
           ⟨.status .freeze, card.ss, 0, openPeriod s, card.serial, 0, none, .sent⟩ false
           (.statusReq .freeze card.serial) s)) ∧
     (∀ (sl : Slot) (h : HoldRef), heldSlot s slot = some (sl, h) → sl.card.ss ≠ ownStation s →
       rosterPresent s sl.card.ss = true → lastClosed s < h.period →
       sendsNewEntry (.cancel slot) slot { sl with state := .settling, op := .cancel, timer := none, outcome := none }
         ⟨.release, sl.card.ss, 0, h.period, sl.card.serial, 0, some h.tag, .sent⟩ false
         (.settleReq .release h.tag sl.card.serial 0) s)) ∧
  (∀ (s : State) (slot amount : Nat) (card : CardId) (part : Bool) (ref : Option Nat) (kind : CreditKind),
     s.station = .trading → slot < 8 → getSlot s slot = none → cardValid card = true → card.ss ≠ ownStation s →
     1 ≤ amount → amount ≤ 9999999 →
     (rosterPresent s card.ss = false →
       exec (.redeem slot card amount part ref) s = refusedWith 0x07 s ∧
       exec (creditCommand kind slot card amount ref) s = refusedWith 0x07 s ∧
       exec (.enquire slot card) s = refusedWith 0x07 s ∧ exec (.freeze slot card) s = refusedWith 0x07 s) ∧
     (rosterPresent s card.ss = true → 32 ≤ trackCount s →
       exec (.redeem slot card amount part ref) s = refusedWith 0x08 s ∧
       exec (creditCommand kind slot card amount ref) s = refusedWith 0x08 s ∧
       exec (.enquire slot card) s = refusedWith 0x08 s ∧ exec (.freeze slot card) s = refusedWith 0x08 s))

/-- COMPLETE of a foreign hold, and TOPUP and REFUND of a foreign card, whose number needs no step, make a stored entry and
queue its TRACKER_STORE frame; the request goes out once it is stored (R67, R72, R73, R77, R80). Model's choices and
inferences in it: log entry 9. -/
def Obligations.ForeignMoneyIsStoredFirst : Prop :=
  ∀ (s : State) (slot amount : Nat),
    s.station = .trading → slot < 8 → trackCount s < 32 → (nextNumber s).2 = false → frameFree s = true → 1 ≤ amount →
    (∀ (sl : Slot) (h : HoldRef), heldSlot s slot = some (sl, h) → sl.card.ss ≠ ownStation s →
      rosterPresent s sl.card.ss = true → amount ≤ h.g →
      queuesNewEntry (.complete slot amount) slot
        { sl with state := .settling, op := .complete, amount := amount, timer := none, outcome := none }
        ⟨.capture, sl.card.ss, 0, h.period, sl.card.serial, amount, some h.tag, .sent⟩
        (.settleReq .capture h.tag sl.card.serial amount) s) ∧
    (∀ (kind : CreditKind) (card : CardId) (ref : Option Nat),
      getSlot s slot = none → cardValid card = true → card.ss ≠ ownStation s → rosterPresent s card.ss = true →
      amount ≤ 9999999 → 512 < freeCount s.journal → creditInLimit s card.ss kind amount = true →
      queuesNewEntry (creditCommand kind slot card amount ref) slot
        ⟨.crediting, creditOp kind, card, amount, false, ref, none, none, none, none⟩
        ⟨.credit kind, card.ss, 0, openPeriod s, card.serial, amount, none, .sent⟩
        (.creditReq kind card.serial amount) s)

/-- A request number given is in 1 to 65,535 and held by no live entry, and a hold tag given is in 1 to 16,777,215 and
belongs to none (R25, R67, R166). -/
def Obligations.NumbersGivenAreFresh : Prop :=
  ∀ s : State,
    (trackCount s ≤ 32 →
      1 ≤ (nextNumber s).1 ∧ (nextNumber s).1 ≤ 65535 ∧ numberHeld s (nextNumber s).1 = false) ∧
    (grantCount s ≤ 1024 → 1 ≤ freshTag s ∧ freshTag s ≤ 16777215 ∧ tagHeld s (freshTag s) = false)

/-- A request number past the working mark (R164, R166). REDEEM, ENQUIRE and FREEZE of a foreign card and CANCEL of a foreign
hold raise the mark by 256 with a COUNTER_STEP frame, and the request waits until that frame is stored; COMPLETE, TOPUP and
REFUND queue the COUNTER_STEP frame before their TRACKER_STORE frame and need two free frame slots; with too few free each is
refused STORE_BUSY. With no frame slot free the detached RELEASE of a freed slot is not made, and an abandoned HOLD_REQ entry
that is granted is dropped; with one free each waits behind its step in the same way (R84, R85). Model's choices and
inferences in it: log entry 9. -/
def Obligations.CounterStepsGoFirst : Prop :=
  ∀ (s : State) (i : Identity) (slot : Nat), s.station = .trading → s.ident = some i → slot < 8 → (nextNumber s).2 = true →
    (∀ (card : CardId) (amount : Nat) (part : Bool) (ref : Option Nat) (kind : CreditKind),
      getSlot s slot = none → cardValid card = true → card.ss ≠ i.station → rosterPresent s card.ss = true →
      trackCount s < 32 →
      (frameFree s = true → coveredBy (stepMark i.highWater) (nextNumber s).1 = true →
        unstored (coversNumber (nextNumber s).1) s = [] →
        stepsThenWaits (.enquire slot card) slot ⟨.enquiring, .enquire, card, 0, false, none, none, none, none, none⟩
          ⟨.status .enquire, card.ss, 0, openPeriod s, card.serial, 0, none, .sent⟩ false i s ∧
        (512 < freeCount s.journal →
          stepsThenWaits (.freeze slot card) slot ⟨.enquiring, .freeze, card, 0, false, none, none, none, none, none⟩
            ⟨.status .freeze, card.ss, 0, openPeriod s, card.serial, 0, none, .sent⟩ false i s) ∧
        (512 < freeCount s.journal → 1 ≤ amount → amount ≤ 9999999 → redeemInLimit s card.ss amount = true →
          stepsThenWaits (.redeem slot card amount part ref) slot
            ⟨.authorising, .redeem, card, amount, part, ref, none, none, none, none⟩
            ⟨.hold, card.ss, 0, openPeriod s, card.serial, amount, none, .sent⟩ part i s)) ∧
      (frameFree s = false →
        exec (.enquire slot card) s = refusedWith 0x0C s ∧
        (512 < freeCount s.journal → exec (.freeze slot card) s = refusedWith 0x0C s) ∧
        (512 < freeCount s.journal → 1 ≤ amount → amount ≤ 9999999 → redeemInLimit s card.ss amount = true →
          exec (.redeem slot card amount part ref) s = refusedWith 0x0C s)) ∧
      (512 < freeCount s.journal → 1 ≤ amount → amount ≤ 9999999 → creditInLimit s card.ss kind amount = true →
        (2 ≤ framesFree s →
          stepsThenStores (creditCommand kind slot card amount ref) slot
            ⟨.crediting, creditOp kind, card, amount, false, ref, none, none, none, none⟩
            ⟨.credit kind, card.ss, 0, openPeriod s, card.serial, amount, none, .sent⟩
            (.creditReq kind card.serial amount) i s) ∧
        (framesFree s < 2 → exec (creditCommand kind slot card amount ref) s = refusedWith 0x0C s))) ∧
    (∀ (sl : Slot) (h : HoldRef), heldSlot s slot = some (sl, h) → sl.card.ss ≠ i.station →
      (rosterPresent s sl.card.ss = true → trackCount s < 32 →
        (frameFree s = true → coveredBy (stepMark i.highWater) (nextNumber s).1 = true →
          unstored (coversNumber (nextNumber s).1) s = [] →
          stepsThenWaits (.cancel slot) slot { sl with state := .settling, op := .cancel, timer := none, outcome := none }
            ⟨.release, sl.card.ss, 0, h.period, sl.card.serial, 0, some h.tag, .sent⟩ false i s) ∧
        (frameFree s = false → exec (.cancel slot) s = refusedWith 0x0C s) ∧
        (∀ amount : Nat, 1 ≤ amount → amount ≤ h.g →
          (2 ≤ framesFree s →
            stepsThenStores (.complete slot amount) slot
              { sl with state := .settling, op := .complete, amount := amount, timer := none, outcome := none }
              ⟨.capture, sl.card.ss, 0, h.period, sl.card.serial, amount, some h.tag, .sent⟩
              (.settleReq .capture h.tag sl.card.serial amount) i s) ∧
          (framesFree s < 2 → exec (.complete slot amount) s = refusedWith 0x0C s))) ∧
      (trackCount s < 32 →
        (frameFree s = true → coveredBy (stepMark i.highWater) (nextNumber s).1 = true →
          unstored (coversNumber (nextNumber s).1) s = [] →
          exec (.slotFree slot) s = .next (accepted [] (reexamine sl.card.ss
            (entryBehindStep (freeTrackPlace s)
              ⟨.release, sl.card.ss, 0, h.period, sl.card.serial, 0, some h.tag, .sent⟩ none false i
              { s with slots := tabDel s.slots slot, control := (forsake slot s).control })))) ∧
        (frameFree s = false →
          exec (.slotFree slot) s = .next (accepted [] (reexamine sl.card.ss
            { s with slots := tabDel s.slots slot, control := (forsake slot s).control }))))) ∧
    (∀ (f : LinkFrame) (rest : List LinkFrame) (tp : Nat) (tr : Track) (how : HoldAnswer) (g tag : Nat) (r : Option Reason),
      s.link.rx = f :: rest → f.payload = .holdAns how g tag r → raisesNothing f s = true → how ≠ .declined →
      findTrack s f.src f.reqNo = some (tp, tr) → tr.data.kind = .hold →
      (tr.data.period : Int) ≤ extendStamp (openPeriod s) f.stamp → tr.orphan = none → tr.abandoned = true →
      (frameFree s = true → coveredBy (stepMark i.highWater) (nextNumber s).1 = true →
        unstored (coversNumber (nextNumber s).1) s = [] →
        exec .holdAns s = .next (entryBehindStep tp
          ⟨.release, tr.data.home, 0, tr.data.period, tr.data.serial, 0, some tag, .sent⟩ none false i
          { s with link := { s.link with rx := rest } })) ∧
      (frameFree s = false →
        exec .holdAns s = .next (reexamine tr.data.home { s with
          tracker := { s.tracker with entries := tabDel s.tracker.entries tp },
          link := { s.link with rx := rest } })))

/-- SLOT_FREE (R84, R85): refused while money is in flight; a slot in OUTCOME becomes FREE and nothing announces to it any
more: pending frames with its outcome are marked and waits for it dropped. A foreign AUTHORISING slot abandons its request
and a foreign ENQUIRING one drops it; an own one is only freed, and the pending grant of an own REDEEM is released when its
frame is stored, or waits for a frame slot, or expires with its life. A HELD own hold that is OPEN is released, or waits for
a frame slot; one that has ended is left as it is. A HELD foreign one sends a detached RELEASE while the tracker has room.
The clearing unit then examines the card's row. Model's choices and inferences in it: log entries 9, 22, 54, 57. -/
def Obligations.SlotFreeLetsGo : Prop :=
  ∀ (s : State) (slot : Nat) (sl : Slot), s.station = .trading → slot < 8 →
    (getSlot s slot = none → exec (.slotFree slot) s = .next { s with port := acceptedPort [] s }) ∧
    (getSlot s slot = some sl →
      (sl.state = .settling ∨ sl.state = .crediting ∨ sl.state = .issuing →
        exec (.slotFree slot) s = refusedWith 0x04 s) ∧
      (sl.state = .outcome →
        exec (.slotFree slot) s = .next { s with
          slots := tabDel s.slots slot,
          control := (forsake slot s).control,
          port := acceptedPort [] s }) ∧
      (sl.state = .authorising ∨ sl.state = .enquiring → linkedTrack s sl = none →
        exec (.slotFree slot) s = .next { s with
          slots := tabDel s.slots slot,
          control := (forsake slot s).control,
          port := acceptedPort [] s }) ∧
      (∀ (slt : Nat) (frm : Frame) (prs : List Program) (pf : PendingFrame) (orq : Option Nat) (h : HoldRef)
        (oout : OutcomeRec) (gp a place : Nat) (gr : Grant) (c : Card) (freed : State),
        sl.state = .authorising → linkedTrack s sl = none →
        freed = { s with
          slots := tabDel s.slots slot, control := (forsake slot s).control, port := acceptedPort [] s } →
        s.control.queue = .frame slt frm :: prs → (s.control.frames.find? fun k => k.slot = slt) = some pf →
        pf.frame.format = .holdGrant → pf.frame.continuation = .slotOutcome slot orq (some h) oout →
        findSettled s (ownStation s) h.tag oout.card.serial h.period = some (gp, gr) →
        gr.body = .hold h.tag a .isOpen → findCard s gr.serial = some (place, c) → s.control.waits = [] →
        exec (.slotFree slot) s = .next freed ∧
        (tabGet s.requests.lives h.tag = some 0 →
          exec (.programComplete .completed) freed =
            .next { freed with control := programmedFrame slt frm prs pf.frame.number freed }) ∧
        (tabGet s.requests.lives h.tag ≠ some 0 →
          (frameFree s = true →
            exec (.programComplete .completed) freed = .next (reexamine gr.requester
              (holdEnded .holdSettle .released gp gr h.tag a place c
                { freed with control := programmedFrame slt frm prs pf.frame.number freed }))) ∧
          (frameFree s = false →
            exec (.programComplete .completed) freed = .next { freed with
              control := programmedFrame slt frm prs pf.frame.number freed,
              requests := { s.requests with lapsing := s.requests.lapsing ++ [h.tag] } }))) ∧
      (∀ (tp : Nat) (tr : Track), sl.state = .authorising → linkedTrack s sl = some (tp, tr) →
        exec (.slotFree slot) s = .next { s with
          slots := tabDel s.slots slot,
          control := (forsake slot s).control,
          tracker := { s.tracker with entries := tabPut s.tracker.entries tp { tr with abandoned := true, slot := none } },
          port := acceptedPort [] s }) ∧
      (∀ (tp : Nat) (tr : Track), sl.state = .enquiring → linkedTrack s sl = some (tp, tr) →
        exec (.slotFree slot) s = .next (accepted [] (reexamine tr.data.home { s with
          slots := tabDel s.slots slot,
          control := (forsake slot s).control,
          tracker := { s.tracker with entries := tabDel s.tracker.entries tp } }))) ∧
      (∀ (h : HoldRef) (gp : Nat) (gr : Grant) (tag a : Nat) (place : Nat) (c : Card),
        sl.state = .held → sl.hold = some h → sl.card.ss = ownStation s →
        findSettled s (ownStation s) h.tag sl.card.serial h.period = some (gp, gr) → gr.body = .hold tag a .isOpen →
        findCard s gr.serial = some (place, c) →
        (frameFree s = true →
          exec (.slotFree slot) s = .next (accepted [] (reexamine (ownStation s) (reexamine (ownStation s)
            (holdEnded .holdSettle .released gp gr tag a place c
              { s with slots := tabDel s.slots slot, control := (forsake slot s).control }))))) ∧
        (frameFree s = false →
          exec (.slotFree slot) s = .next (accepted [] (reexamine (ownStation s) { s with
            slots := tabDel s.slots slot,
            control := (forsake slot s).control,
            requests := { s.requests with deferred := s.requests.deferred ++ [h.tag] } })))) ∧
      (∀ h : HoldRef, sl.state = .held → sl.hold = some h → sl.card.ss = ownStation s →
        ((findSettled s (ownStation s) h.tag sl.card.serial h.period).all fun k => !grantOpen k.2) = true →
        exec (.slotFree slot) s = .next (accepted [] (reexamine (ownStation s) { s with
          slots := tabDel s.slots slot,
          control := (forsake slot s).control }))) ∧
      (forsake slot s).control = { s.control with
        frames := (forsake slot s).control.frames,
        waits := s.control.waits.filter fun w => !waitFor slot w } ∧
      (forsake slot s).control.frames.map (fun k => k.frame) = s.control.frames.map (fun k => k.frame) ∧
      (∀ (n : Nat) (orq : Option Nat) (oh : Option HoldRef) (oout : OutcomeRec) (pf : PendingFrame),
        s.control.frames[n]? = some pf →
        (pf.frame.continuation = .slotOutcome slot orq oh oout →
          (forsake slot s).control.frames[n]? = some { pf with slotFreed := true }) ∧
        (outcomeFor slot pf.frame.continuation = false → (forsake slot s).control.frames[n]? = some pf)) ∧
      (∀ (h : HoldRef), sl.state = .held → sl.hold = some h → sl.card.ss ≠ ownStation s → (nextNumber s).2 = false →
        unstored (coversNumber (nextNumber s).1) s = [] → numberHeld s (nextNumber s).1 = false → lastClosed s < h.period →
        (trackCount s < 32 →
          exec (.slotFree slot) s = .next (accepted [] (reexamine sl.card.ss { s with
            slots := tabDel s.slots slot,
            control := (forsake slot s).control,
            tracker := ⟨tabPut s.tracker.entries (freeTrackPlace s)
              ⟨⟨.release, sl.card.ss, (nextNumber s).1, h.period, sl.card.serial, 0, some h.tag, .sent⟩, 1,
                if s.link.tx.length < 16 then none else some 400, none, false, none, false, false⟩, (nextNumber s).1⟩,
            link := { s.link with
              tx := if s.link.tx.length < 16 then
                  s.link.tx ++ [⟨sl.card.ss, stampOf h.period, (nextNumber s).1,
                    .settleReq .release h.tag sl.card.serial 0, 0⟩]
                else s.link.tx } }))) ∧
        (32 ≤ trackCount s →
          exec (.slotFree slot) s = .next (accepted [] (reexamine sl.card.ss { s with
            slots := tabDel s.slots slot,
            control := (forsake slot s).control })))))

/-! ### The station -/

/-- CLOSE of a TRADING station (R94, R95, R96, R97): with a closing generation the target rises and the command is refused
CLOSE_BUSY; otherwise it is accepted, the target rises with a PRESENCE offered, and the close begins when the journal and the
frame area allow it: the other slot becomes the open generation of the next period, every row is PENDING, the deadline
starts, a CLOSE_BEGIN frame is queued and every row is examined. Model's choices and inferences in it: log entries 5, 9, 42.
-/
def Obligations.CloseRaisesTheTargetAndBegins : Prop :=
  ∀ (s : State) (link : Link), s.station = .trading →
    link = (if s.positions.target < openPeriod s then
        (offerPresence { s with positions := { s.positions with target := openPeriod s } }).link else s.link) →
    (s.positions.gen.closing = true →
      exec .close s = .next { s with
        positions := { s.positions with target := max s.positions.target (openPeriod s) },
        link := link,
        port := refusedPort 0x10 s }) ∧
    (s.positions.gen.closing = false →
      (freeCount s.journal ≤ 512 ∨ 16 ≤ s.control.frames.length ∨ 16777215 ≤ openPeriod s →
        exec .close s = .next { s with
          positions := { s.positions with target := max s.positions.target (openPeriod s) },
          link := link,
          port := acceptedPort [] s }) ∧
      (512 < freeCount s.journal → frameFree s = true → openPeriod s < 16777215 →
        ∃ t0, exec .close s = .next (accepted [] (examineCompletion (examineRows t0))) ∧
          t0.positions = { s.positions with
            gen := ⟨otherSide s.positions.gen.openSide, openPeriod s + 1, true, s.positions.gen.lastClosed⟩,
            target := max s.positions.target (openPeriod s),
            view := some ⟨[], false, s.conf.map fun k => k.closeLimit * 1000, false⟩ } ∧
          t0.link = link ∧
          queuesFrame .closeBegin
            [.generation ⟨otherSide s.positions.gen.openSide, openPeriod s + 1, true, s.positions.gen.lastClosed⟩] []
            (.notice ⟨.closeBegun, .number (openPeriod s), 0⟩) s t0 ∧
          { t0 with positions := s.positions, link := s.link, control := s.control } = s))

/-- START from IDLE (R2, R43, R112, R169, R170). With every argument in range the station is TRADING with the configuration
taken, hold life and close limit clamped; on a blank store the identity record is made and its IDENTITY_WRITE frame is queued
first; the first frame in the transmit queue is a PRESENCE, and a kept SENT entry is offered behind it, a kept IN_DOUBT one
not; every OPEN hold has the full life; a closing generation is taken up with its full deadline, unless it completes at once;
records stay as they were. Out-of-range arguments are BAD_ARGUMENT, another station number or mall id than the identity
record's IDENTITY, a ceiling below what a record holds BAD_ARGUMENT; nothing but the port changes then and the station stays
IDLE. Model's choices and inferences in it: log entry 9. -/
def Obligations.StartIsCheckedAndTaken : Prop :=
  (∀ (s : State) (st ml fr ff ce hl cl : Nat),
     s.station = .idle → 1 ≤ st → st ≤ 63 → 1 ≤ ml → ml ≤ 65535 → fr ≤ 1000 → ff ≤ 99 → 100 ≤ ce → ce ≤ 9999999 →
     (s.ident.all fun k => k.station = st && k.mall = ml) = true →
     (s.ident = none ∨ (s.custody.cards.all fun p => p.2.available + p.2.held ≤ ce) = true) → s.link.tx = [] →
     ∃ t, exec (.start st ml fr ff ce hl cl) s = .next t ∧ t.station = .trading ∧
       t.conf = some ⟨fr, ff, ce, max 30 (min 600 hl), max 60 (min 3600 cl)⟩ ∧
       (s.ident.isSome = true → t.ident = s.ident) ∧ (s.ident = none → t.ident = some ⟨st, ml, 0, 0, 0⟩) ∧
       t.custody = s.custody ∧ t.requests.grants = s.requests.grants ∧ t.slots = s.slots ∧
       t.control.store = s.control.store ∧
       t.link.tx.head?.map (fun f => (f.dst, isPresence f.payload)) = some (0, true) ∧
       (∀ p ∈ s.requests.grants, grantOpen p.2 = true → grantFree (lastClosed s) p.2 = false →
         ∀ tag : Nat, grantTag p.2 = some tag → tabGet t.requests.lives tag = some (max 30 (min 600 hl) * 1000)) ∧
       (s.positions.gen.closing = true →
         (t.positions.view.map fun v => (v.completed, v.deadline)) = some (false, some (max 60 (min 3600 cl) * 1000)) ∨
         (t.positions.view.map fun v => (v.completed, v.deadline)) = some (true, none)) ∧
       (s.positions.gen.closing = false → s.positions.target < openPeriod s →
         t.positions = s.positions ∧ t.journal = s.journal ∧ t.notices = s.notices ∧
         (s.ident.isSome = true → t.control = s.control) ∧
         (s.ident = none → frameFree s = true →
           queuesFrame .identityWrite [.identity ⟨st, ml, 0, 0, 0⟩] [] .none s t)) ∧
       (s.ident = none → frameFree s = true →
         (∃ more, t.control.queue =
           (withFrame .identityWrite [.identity ⟨st, ml, 0, 0, 0⟩] [] .none s).queue ++ more) ∧
         ∃ more, t.control.frames =
           (withFrame .identityWrite [.identity ⟨st, ml, 0, 0, 0⟩] [] .none s).frames ++ more) ∧
       (∀ (tp : Nat) (tr : Track), s.link.owed = [] → s.tracker.entries = [(tp, tr)] → s.positions.gen.closing = false →
         s.positions.target < openPeriod s → s.ident.isSome = true → trackFree (lastClosed s) tr = false →
         (tr.data.state = .sent →
           t.tracker.entries = [(tp, { tr with attempts := tr.attempts + 1, timer := none })] ∧
           t.link.tx.tail = [requestFrame tr]) ∧
         (tr.data.state = .inDoubt → t.tracker = s.tracker ∧ t.link.tx.tail = [])) ∧
       t.port = acceptedPort [] s) ∧
  (∀ (s : State) (st ml fr ff ce hl cl : Nat), s.station = .idle →
     (st = 0 ∨ 63 < st ∨ ml = 0 ∨ 65535 < ml ∨ 1000 < fr ∨ 99 < ff ∨ ce < 100 ∨ 9999999 < ce →
       exec (.start st ml fr ff ce hl cl) s = refusedWith 0x02 s) ∧
     (1 ≤ st → st ≤ 63 → 1 ≤ ml → ml ≤ 65535 → fr ≤ 1000 → ff ≤ 99 → 100 ≤ ce → ce ≤ 9999999 →
       ∀ i : Identity, s.ident = some i →
         (i.station ≠ st ∨ i.mall ≠ ml → exec (.start st ml fr ff ce hl cl) s = refusedWith 0x11 s) ∧
         (i.station = st → i.mall = ml → (s.custody.cards.any fun p => ce < p.2.available + p.2.held) = true →
           exec (.start st ml fr ff ce hl cl) s = refusedWith 0x02 s)))

/-! ### Notices -/

/-- A queued notice is eligible when its level is above the mask, or is 7; the mask is 7 after reset. SET_MASK replaces it in
IDLE, TRADING and HALTED, is refused NOT_TRADING in RECOVERING, and refuses a value above 7; nothing else changes (R178). The
notices-lost flag is cleared once the byte of STATUS that carries it has been clocked out (R182); that NOTICES_LOST_CLEARED
with no STATUS reply under way changes nothing is the model's choice (log entry 1, DESIGN CHOICE). -/
def Obligations.MaskAndLostFlag : Prop :=
  ∀ (s : State) (m : Nat) (nt : Notice),
    (eligible s.notices.mask nt = true ↔ s.notices.mask < levelOf nt ∨ levelOf nt = 7) ∧
    State.reset.notices.mask = 7 ∧
    (s.station = .recovering → exec (.setMask m) s = refusedWith 0x03 s) ∧
    (s.station = .idle ∨ s.station = .trading ∨ s.station = .halted →
      (m ≤ 7 → exec (.setMask m) s =
        .next { s with notices := { s.notices with mask := m }, port := acceptedPort [] s }) ∧
      (7 < m → exec (.setMask m) s = refusedWith 0x02 s)) ∧
    (s.station ≠ .held → s.port.session = .statusFlag →
      exec .noticesLostCleared s =
        .next { s with notices := { s.notices with lost := false }, port := { s.port with session := .none } }) ∧
    (s.port.session ≠ .statusFlag → exec .noticesLostCleared s = .next s)

/-- TAKE_NOTICE reports, of the eligible notices, the one posted first among those of the highest level, and leaves it
queued; with none eligible it reports SPURIOUS; the reported notice leaves the queue when its record has been clocked out
(R178, R180). NOTICE_N is low while an eligible notice is queued and the part is not held in reset, and goes high when the
last eligible one leaves (R168, R179). That NOTICE_RECORD_CLOCKED with no notice record under way changes nothing is the
model's choice (log entry 1, DESIGN CHOICE). -/
def Obligations.NoticesAreTakenByLevel : Prop :=
  ∀ s : State,
    (s.station = .idle ∨ s.station = .trading ∨ s.station = .halted →
      (∀ (ln : List Notice) (nt : Notice) (rn : List Notice), s.notices.queue = ln ++ nt :: rn →
        eligible s.notices.mask nt = true →
        (ln.all fun k => !eligible s.notices.mask k || levelOf k < levelOf nt) = true →
        (rn.all fun k => !eligible s.notices.mask k || levelOf k ≤ levelOf nt) = true →
        exec .takeNotice s = .next { s with
          port := { s.port with reply := 0 :: noticeBytes nt.data, session := .notice nt.seq } }) ∧
      ((s.notices.queue.any fun k => eligible s.notices.mask k) = false →
        exec .takeNotice s = .next { s with
          port := { s.port with reply := [0, 0, 0xFF] ++ List.replicate 12 0, session := .none } })) ∧
    (∀ n : Nat, s.port.session = .notice n →
      exec .noticeRecordClocked s = .next { s with
        notices := { s.notices with queue := s.notices.queue.filter fun k => k.seq ≠ n },
        port := { s.port with session := .none } }) ∧
    (s.port.session = .none ∨ s.port.session = .statusFlag → exec .noticeRecordClocked s = .next s) ∧
    (noticeLow s = true ↔ s.station ≠ .held ∧ ∃ k ∈ s.notices.queue, s.notices.mask < levelOf k ∨ levelOf k = 7) ∧
    (∀ (ln : List Notice) (nt : Notice) (rn : List Notice), s.notices.queue = ln ++ nt :: rn →
      s.port.session = .notice nt.seq → ((ln ++ rn).any fun k => eligible s.notices.mask k) = false →
      ∃ t, exec .noticeRecordClocked s = .next t ∧ noticeLow t = false)

/-- Posting a notice: with room it joins the end of the queue (R177); with the queue full the oldest of the lowest level is
dropped for it when that level is below its own, else it is dropped itself (R181); either drop sets the notices-lost flag
(R182). That a posted or dropped notice takes the next sequence number is the model's own bookkeeping (log entry 20, DESIGN
CHOICE). -/
def Obligations.OverflowDropsTheLowest : Prop :=
  ∀ (n : NoticeRec) (u : Notices),
    (u.queue.length < 32 → postNotice n u = { u with queue := u.queue ++ [⟨u.nextSeq, n⟩], nextSeq := u.nextSeq + 1 }) ∧
    (32 ≤ u.queue.length → (∀ k ∈ u.queue, noticeLevel n.kind ≤ levelOf k) →
      postNotice n u = { u with lost := true, nextSeq := u.nextSeq + 1 }) ∧
    (∀ (l : List Notice) (v : Notice) (r : List Notice), 32 ≤ u.queue.length → u.queue = l ++ v :: r →
      (∀ k ∈ l ++ r, k.seq ≠ v.seq) → levelOf v < noticeLevel n.kind → (∀ k ∈ l, levelOf v < levelOf k) →
      (∀ k ∈ r, levelOf v ≤ levelOf k) →
      postNotice n u = { u with queue := l ++ r ++ [⟨u.nextSeq, n⟩], lost := true, nextSeq := u.nextSeq + 1 })

/-! ### Export cursors -/

/-- CURSOR_SET that passes its checks makes the cursor READY as given and replies with its start, the oldest and the newest
index (R146); cursor 0 goes forward over all entries from the first not archived (R147); nothing else changes. Which of
cursor 0's arguments are not looked at is the model's choice (log entry 33). Model's choices and inferences in it: log entry
33. -/
def Obligations.CursorSetReadiesTheCursor : Prop :=
  ∀ (s : State) (cur idx cnt len : Nat) (dir : Direction) (ea : EndAction) (mode : CursorMode) (fil : CursorFilter)
    (ad ae am af : Nat) (nb : Bool),
    s.station = .idle ∨ s.station = .trading ∨ s.station = .halted → 1 ≤ cnt → 1 ≤ len → len ≤ 64 →
    endActionArg ae = some ea → modeArg am = some mode →
    (1 ≤ cur → cur ≤ 3 → directionArg ad = some dir → filterArg af = some fil →
      exec (.cursorSet cur idx cnt len ad ae am af nb) s = .next { s with
        cursors := ⟨tabPut s.cursors.table cur
          ⟨.ready, clampStart s.journal.oldest (newestStored s) idx, clampStart s.journal.oldest (newestStored s) idx, cnt, cnt,
            len, dir, ea, mode, fil, nb, false, []⟩,
          s.cursors.mark⟩,
        port := acceptedPort (toBytes 4 (clampStart s.journal.oldest (newestStored s) idx) ++ toBytes 4 s.journal.oldest
          ++ toBytes 4 ((newestStored s).getD 0)) s }) ∧
    (exec (.cursorSet 0 idx cnt len ad ae am af nb) s = .next { s with
        cursors := ⟨tabPut s.cursors.table 0
          ⟨.ready, s.journal.archived + 1, s.journal.archived + 1, cnt, cnt, len, .forward, ea, mode, .all, nb, false, []⟩,
          max s.cursors.mark s.journal.archived⟩,
        port := acceptedPort (toBytes 4 (s.journal.archived + 1) ++ toBytes 4 s.journal.oldest
          ++ toBytes 4 ((newestStored s).getD 0)) s })

/-- CURSOR_READ replies with the header and stands on it; a PAUSED cursor is READY again and a BLOCK read starts with an
empty buffer (R148, R153); an IDLE or unnamed cursor is refused BAD_ARGUMENT. Each record is then chosen: a FORWARD cursor
that is READY gives the visible entry of lowest index from where it stands that its filter takes, a BACKWARD one the highest,
an END record stands where there is none (R145, R149, R151). Model's choices and inferences in it: log entry 23. -/
def Obligations.CursorReadChoosesEntries : Prop :=
  ∀ (s : State) (cur : Nat),
    (s.station = .idle ∨ s.station = .trading ∨ s.station = .halted →
      (cur ≤ 3 → (getCursor s cur).state ≠ .idle →
        ∃ t, exec (.cursorRead cur) s = .next t ∧
          t.port = { acceptedPort (headerBytes (getCursor s cur)) s with
            session := .cursor ⟨cur, .header, none, false, 0, false⟩ } ∧
          t.cursors = ⟨tabPutD Cursor.blank s.cursors.table cur (getCursor t cur), s.cursors.mark⟩ ∧ getCursor t cur =
            { getCursor s cur with
              state := if (getCursor s cur).state = .paused then .ready else (getCursor s cur).state,
              paused := if (getCursor s cur).state = .paused then false else (getCursor s cur).paused,
              buffer := if (getCursor s cur).mode = .block ∧ (getCursor s cur).state ≠ .ended then []
                else (getCursor s cur).buffer } ∧
          { t with cursors := s.cursors, port := s.port } = s) ∧
      (4 ≤ cur ∨ (getCursor s cur).state = .idle → exec (.cursorRead cur) s = refusedWith 0x02 s)) ∧
    (∀ (cs : CursorStream), s.port.session = .cursor cs → cs.item = .header ∨ cs.item = .endRecord → cs.endOnly = false →
      (getCursor s cs.cursor).state = .ready → cs.given = none → cs.complete = false →
      (∀ en ∈ visible s, filterAccepts (getCursor s cs.cursor).filter en.kind = true →
        ((getCursor s cs.cursor).direction = .forward → (getCursor s cs.cursor).current ≤ en.index →
          (∀ k ∈ visible s, filterAccepts (getCursor s cs.cursor).filter k.kind = true →
            (getCursor s cs.cursor).current ≤ k.index → k = en ∨ en.index < k.index) →
          exec .cursorRecordChosen s = .next (streamOn cs (.entry en)
            (putCursor cs.cursor { getCursor s cs.cursor with current := en.index } s))) ∧
        ((getCursor s cs.cursor).direction = .backward → en.index ≤ (getCursor s cs.cursor).current →
          (∀ k ∈ visible s, filterAccepts (getCursor s cs.cursor).filter k.kind = true →
            k.index ≤ (getCursor s cs.cursor).current → k = en ∨ k.index < en.index) →
          exec .cursorRecordChosen s = .next (streamOn cs (.entry en)
            (putCursor cs.cursor { getCursor s cs.cursor with current := en.index } s)))) ∧
      ((∀ k ∈ visible s, filterAccepts (getCursor s cs.cursor).filter k.kind = true →
          ((getCursor s cs.cursor).direction = .forward → k.index < (getCursor s cs.cursor).current) ∧
          ((getCursor s cs.cursor).direction = .backward → (getCursor s cs.cursor).current < k.index)) →
        ∃ t, exec .cursorRecordChosen s = .next t ∧ t.port.reply = endBytes ∧
          (getCursor t cs.cursor).state =
            (if (getCursor s cs.cursor).direction = .forward then .ready else .ended)))

/-- CURSOR_ENTRY_READ (R147, R150 to R154): the entry counts down the cursor and moves it past itself, and cursor 0's
read-through mark rises to it. A count that reaches 0 ends a STOP cursor in every mode, which gives END from then on and
posts CURSOR_ENDED; it returns a RELOAD cursor to its start with its count restored. In SUCCESSIVE mode, and in a block that
is not complete, the next record is chosen; in SINGLE mode the entry is given again; a block that is complete, its length
read or its count run out with RELOAD, pauses the cursor, posts CURSOR_PAUSED where notices are enabled, and is given again
from its first entry. An entry given again counts nothing down. Model's choices and inferences in it: log entry 23. -/
def Obligations.EntryReadMovesTheCursor : Prop :=
  ∀ (s : State) (cs : CursorStream) (en : JournalEntry), s.port.session = .cursor cs →
    (cs.item = .entry en →
      ((getCursor s cs.cursor).count = 1 → (getCursor s cs.cursor).endAction = .stop →
        ∃ t, exec .cursorEntryRead s = .next t ∧ (getCursor t cs.cursor).state = .ended ∧
          (getCursor t cs.cursor).count = 0 ∧ (getCursor t cs.cursor).current =
            (if (getCursor s cs.cursor).direction = .forward then en.index + 1 else en.index - 1) ∧
          t.port.reply = endBytes ∧
          t.cursors = cursorsRead cs.cursor (getCursor t cs.cursor) en s ∧
          t.notices = (if (getCursor s cs.cursor).notice then
              postNotice ⟨.cursorEnded, .number cs.cursor, 0⟩ s.notices else s.notices) ∧
          { t with cursors := s.cursors, port := s.port, notices := s.notices } = s) ∧
      (2 ≤ (getCursor s cs.cursor).count ∨
          ((getCursor s cs.cursor).count = 1 ∧ (getCursor s cs.cursor).endAction = .reload) →
        ((getCursor s cs.cursor).mode = .successive →
          exec .cursorEntryRead s = .next (nextRecord { cs with given := some en } { s with
            cursors := cursorsRead cs.cursor (cursorAfter s.journal.oldest (getCursor s cs.cursor) en) en s })) ∧
        ((getCursor s cs.cursor).mode = .single → (getCursor s cs.cursor).state ≠ .ended → cs.endOnly = false →
          exec .cursorEntryRead s = .next { s with
            cursors := cursorsRead cs.cursor (cursorAfter s.journal.oldest (getCursor s cs.cursor) en) en s,
            port := { s.port with
              reply := entryBytes en, session := .cursor { cs with given := some en, item := .again en } } }) ∧
        ((getCursor s cs.cursor).mode = .block → 2 ≤ (getCursor s cs.cursor).count →
          (getCursor s cs.cursor).buffer.length + 1 < (getCursor s cs.cursor).blockLen →
          exec .cursorEntryRead s = .next (nextRecord { cs with given := some en } { s with
            cursors := cursorsRead cs.cursor (cursorAfter s.journal.oldest (getCursor s cs.cursor) en) en s })) ∧
        (∀ (first : JournalEntry) (others : List JournalEntry), (getCursor s cs.cursor).mode = .block →
          cs.endOnly = false → (getCursor s cs.cursor).buffer ++ [en] = first :: others →
          (getCursor s cs.cursor).count = 1 ∨
            (getCursor s cs.cursor).blockLen ≤ (getCursor s cs.cursor).buffer.length + 1 →
          exec .cursorEntryRead s = .next { s with
            cursors := cursorsRead cs.cursor
              { cursorAfter s.journal.oldest (getCursor s cs.cursor) en with state := .paused, paused := true } en s,
            notices := if (getCursor s cs.cursor).notice then
                postNotice ⟨.cursorPaused, .number cs.cursor, 0⟩ s.notices else s.notices,
            port := { s.port with
              reply := entryBytes first,
              session := .cursor { cs with
                given := some en, complete := true, nextAgain := 1, item := .again first } } }))) ∧
    (cs.item = .again en → ∃ t, exec .cursorEntryRead s = .next t ∧
      ((getCursor s cs.cursor).mode = .single → cs.given = some en →
        { t with port := s.port } = s) ∧
      ((getCursor s cs.cursor).mode = .block → cs.complete = true → { t with port := s.port } = s))

/-- ARCHIVE_ACK (R155): an index above the archived-through one, up to the read-through mark, becomes it through an
ARCHIVE_STORE frame with the control record; one at or below it is accepted and changes nothing; one above the mark is
refused BAD_ARGUMENT, and a full frame area STORE_BUSY. Model's choices and inferences in it: log entry 9. -/
def Obligations.ArchiveAckStoresTheIndex : Prop :=
  ∀ (s : State) (idx : Nat),
    (s.station = .recovering ∨ s.station = .halted → exec (.archiveAck idx) s = refusedWith 0x03 s) ∧
    (s.station = .idle ∨ s.station = .trading → s.cursors.mark < idx → exec (.archiveAck idx) s = refusedWith 0x02 s) ∧
    (s.station = .idle ∨ s.station = .trading → idx ≤ s.cursors.mark → idx ≤ s.journal.archived →
      exec (.archiveAck idx) s = .next { s with port := acceptedPort [] s }) ∧
    (s.station = .idle ∨ s.station = .trading → idx ≤ s.cursors.mark → s.journal.archived < idx →
      (frameFree s = false → exec (.archiveAck idx) s = refusedWith 0x0C s) ∧
      (frameFree s = true →
        ∃ t, exec (.archiveAck idx) s = .next t ∧
          t.journal = { s.journal with archived := idx, writes := s.journal.writes + 1, lastB := !s.journal.lastB } ∧
          queuesFrame .archiveStore [.control ⟨s.journal.oldest, idx, s.journal.next, s.journal.blocks⟩] [] .none s t ∧
          t.port = acceptedPort [] s ∧
          { t with journal := s.journal, control := s.control, port := s.port } = s))

/-! ### The link -/

/-- FRAME_RECEIVED (R52, R53): a frame with a good check, this mall's id and valid fields sets its source's silence time to 0
and joins the receive queue when it is addressed here or to all and there is room; one that bears the own number discards
itself and takes a TRADING station to HALTED with STATION_CLASH; a frame that fails a test, reaches a deaf station, or is
heard back while the station drives an attempt (log entry 40), changes nothing. A queued frame that is no PRESENCE is
discarded when a HALTED station hands it over (R55). Model's choices and inferences in it: log entry 51. -/
def Obligations.FramesAreTestedInOrder : Prop :=
  ∀ (s : State) (bytes : List Byte),
    (s.station ≠ .trading → s.station ≠ .halted → exec (.frameReceived bytes) s = .next s) ∧
    (s.link.phase = .attempting ∨ s.link.phase = .abandoned → exec (.frameReceived bytes) s = .next s) ∧
    (frameCheckOk bytes = false → exec (.frameReceived bytes) s = .next s) ∧
    (frameMall bytes ≠ ownMall s → exec (.frameReceived bytes) s = .next s) ∧
    (decodeFrame bytes = none → exec (.frameReceived bytes) s = .next s) ∧
    (s.station = .trading ∨ s.station = .halted → s.link.phase ≠ .attempting → s.link.phase ≠ .abandoned →
      frameCheckOk bytes = true → frameMall bytes = ownMall s →
      ∀ f : LinkFrame, decodeFrame bytes = some f →
        (f.src ≠ ownStation s → (f.dst = 0 ∨ f.dst = ownStation s) → s.link.rx.length < 16 →
          exec (.frameReceived bytes) s = .next { s with link := { s.link with
            roster := tabPutD RosterEntry.blank s.link.roster f.src { rosterEntry s f.src with silence := 0 },
            rx := s.link.rx ++ [f] } }) ∧
        (f.src ≠ ownStation s → (f.dst ≠ 0 ∧ f.dst ≠ ownStation s) ∨ 16 ≤ s.link.rx.length →
          exec (.frameReceived bytes) s = .next { s with link := { s.link with
            roster := tabPutD RosterEntry.blank s.link.roster f.src { rosterEntry s f.src with silence := 0 } } }) ∧
        (f.src = ownStation s → s.station = .halted → exec (.frameReceived bytes) s = .next s) ∧
        (f.src = ownStation s → s.station = .trading →
          ∃ t, exec (.frameReceived bytes) s = .next t ∧ t.station = .halted ∧ t.fault = some .stationClash ∧
            t.notices = postNotice ⟨.fault, .none, 2⟩ s.notices ∧
            t.link.tx = [⟨0, stampOf (openPeriod s), 0,
              .presence true (openPeriod s) s.positions.target s.positions.gen.closing, 0⟩] ∧
            t.link.phase = .quiet ∧ t.link.rx = s.link.rx ∧ t.link.roster = s.link.roster ∧
            t.control = { s.control with
              queue := s.control.queue.take 1, frames := s.control.frames.filter (·.stored), waits := [] } ∧
            t.port = s.port ∧ t.cursors = s.cursors ∧ sameRecords s t)) ∧
    (∀ (f : LinkFrame) (rest : List LinkFrame), s.station = .halted → s.link.rx = f :: rest → isPresence f.payload = false →
      discards (handOverOf f.payload) rest s)

/-- An attempt begins with the head frame on a quiet pair, a PRESENCE filled in afresh; sent whole, the frame leaves the
queue and a request's entry begins its answer wait of 400 ms; collided, its count rises and a backoff is drawn from 0 to 2^k
- 1 slots, k the smaller of the count and 6, but a sixteenth collision drops it; a backoff that ends leaves the sender quiet
(R47, R48, R49, R51). An attempt that ran when the station entered HALTED ends with no further effect (R63). Model's choices
and inferences in it: log entries 1, 13, 31. -/
def Obligations.SendingFollowsTheQueue : Prop :=
  (∀ (s : State) (tf : TxFrame) (txs : List TxFrame) (draw : Nat), s.station = .trading →
     (s.link.tx = tf :: txs → s.link.phase = .quiet →
       exec .attemptBegin s = .next { s with link := { s.link with
         tx := (if isPresence tf.payload then presenceFrame s tf.attempts else tf) :: txs,
         phase := .attempting,
         driving := encodeFrame (ownMall s) (onTheWire s
           (if isPresence tf.payload then presenceFrame s tf.attempts else tf)) } }) ∧
     (s.link.tx = tf :: txs → s.link.phase = .attempting →
       (isRequest tf.payload = false →
         exec .attemptIntact s = .next { s with link := { s.link with tx := txs, phase := .quiet, driving := [] } }) ∧
       (∀ (tp : Nat) (tr : Track), isRequest tf.payload = true → findTrack s tf.dst tf.reqNo = some (tp, tr) →
         tr.orphan = none →
         exec .attemptIntact s = .next { s with
           link := { s.link with tx := txs, phase := .quiet, driving := [] },
           tracker := { s.tracker with entries := tabPut s.tracker.entries tp { tr with timer := some 400 } } }) ∧
       (tf.attempts < 15 →
         exec (.attemptCollided draw) s = .next { s with link := { s.link with
           tx := { tf with attempts := tf.attempts + 1 } :: txs,
           phase := .backoff (draw % 2 ^ min (tf.attempts + 1) 6),
           driving := [] } }) ∧
       (15 ≤ tf.attempts → exec (.attemptCollided draw) s = exec .attemptIntact s)) ∧
     (∀ k : Nat, s.link.phase = .backoff k → exec .backoffEnd s = .next { s with link := { s.link with phase := .quiet } })) ∧
  (∀ (s : State) (draw : Nat), s.link.phase = .abandoned →
     exec .attemptIntact s = .next { s with link := { s.link with phase := .quiet, driving := [] } } ∧
     exec (.attemptCollided draw) s = .next { s with link := { s.link with phase := .quiet, driving := [] } } ∧
     exec .backoffEnd s = .next s ∧ exec .attemptBegin s = .next s)

/-- PRESENCE_TIMER of a TRADING station restarts the 5 s timer and places one PRESENCE unless one waits or the queue is full
(R50, R51); an owed frame is placed, first come first placed, when the queue has room (R50, R162, R170). Model's choices and
inferences in it: log entries 1, 3. -/
def Obligations.PresenceAndOwedFrames : Prop :=
  ∀ s : State, s.station = .trading →
    ((s.link.tx.any (fun x => isPresence x.payload) = true ∨ 16 ≤ s.link.tx.length) →
      exec .presenceTimer s = .next { s with link := { s.link with presenceTimer := 5000 } }) ∧
    (s.link.tx.any (fun x => isPresence x.payload) = false → s.link.tx.length < 16 →
      exec .presenceTimer s = .next { s with link := { s.link with
        presenceTimer := 5000,
        tx := s.link.tx ++ [⟨0, stampOf (openPeriod s), 0,
          .presence false (openPeriod s) s.positions.target s.positions.gen.closing, 0⟩] } }) ∧
    (∀ (odst oreq : Nat) (opay : Payload) (cfs : List Continuation), s.link.owed = .answer odst oreq opay :: cfs →
      (s.link.tx.length < 16 →
        exec .owedFramePlaced s = .next { s with link := { s.link with
          owed := cfs, tx := s.link.tx ++ [⟨odst, stampOf (openPeriod s), oreq, opay, 0⟩] } }) ∧
      (16 ≤ s.link.tx.length → exec .owedFramePlaced s = .next s)) ∧
    (∀ (odst oreq ost : Nat) (opay : Payload) (cfs : List Continuation) (tp : Nat) (tr : Track),
      s.link.owed = .request odst oreq ost opay :: cfs → findTrack s odst oreq = some (tp, tr) → tr.orphan = none →
      s.link.tx.length < 16 →
      exec .owedFramePlaced s = .next { s with
        link := { s.link with owed := cfs, tx := s.link.tx ++ [requestFrame tr] },
        tracker := ⟨tabPut s.tracker.entries tp
          { tr with attempts := if tr.data.state = .sent then tr.attempts + 1 else tr.attempts, timer := none },
          s.tracker.counter⟩ })

/-- SILENCE_TIMEOUT of a PRESENT or HALTED entry whose 15 s of silence end: it becomes ABSENT with its period and target
kept, STATION_ABSENT is posted, and the clearing unit reads it; when a frame from the station was taken first, so that its
silence is below 15 s, nothing happens, nor for an ABSENT entry and the own one (R58, R60, R105). Model's choices and
inferences in it: log entries 1, 3, 11, 54. -/
def Obligations.SilenceMakesAStationAbsent : Prop :=
  ∀ (s : State) (j : Nat), s.station = .trading ∨ s.station = .halted → 1 ≤ j → j ≤ 63 →
    (j ≠ ownStation s → (rosterEntry s j).state ≠ .absent → 15000 ≤ (rosterEntry s j).silence + 1 →
      ∃ t0, exec (.silenceTimeout j) s = .next (rosterDown j t0) ∧
        t0.link = { s.link with
          roster := tabPutD RosterEntry.blank s.link.roster j { rosterEntry s j with state := .absent, silence := 15000 } } ∧
        t0.notices = postNotice ⟨.stationAbsent, .number j, 0⟩ s.notices ∧
        { t0 with link := s.link, notices := s.notices } = s) ∧
    (j = ownStation s ∨ (rosterEntry s j).state = .absent ∨ (rosterEntry s j).silence + 1 < 15000 →
      exec (.silenceTimeout j) s = .next s) ∧
    (∀ v : CloseView, ∀ u : State, u.station = .trading → u.positions.view = some v →
      (v.completed = true ∨ (closeRow v j).state ≠ .awaiting ∨ (closingRow u j).fig ≠ .zero → rosterDown j u = u) ∧
      (v.completed = false → (closeRow v j).state = .awaiting → (closingRow u j).fig = .zero →
        rosterDown j u = examineCompletion { u with positions := { u.positions with
          view := some { v with rows := tabPutD CloseRow.blank v.rows j ⟨.empty, (closeRow v j).final⟩ } } })) ∧
    (∀ u : State, u.positions.view = none ∨ u.station = .halted → rosterDown j u = u)

/-- A PRESENCE handed over (R59, R61, R62, R83, R94, R103): the roster entry takes its state, period and target, with a
notice when the state changes; in HALTED nothing else happens. In TRADING a PRESENCE of a HALTED station is read by the
clearing unit (R105); one of a TRADING station raises the close target to the higher of its target and its period less one;
then each IN_DOUBT entry of its home that is due is offered again, in table order, the transmit queue's room deciding whose
wait starts at once (log entry 44); then POSITION is called for while its row is AWAITING and it shows the same period
closing. A send called for waits for the pending frames that write its row or the generation record, but after completion not
for the CLOSE_END frame, is joined to one that waits, or is placed at once (R101). Model's choices and inferences in it: log
entry 54. -/
def Obligations.PresenceUpdatesTheRoster : Prop :=
  (∀ (s noted : State) (f : LinkFrame) (rest : List LinkFrame) (halted : Bool) (period target : Nat) (closing : Bool),
     s.link.rx = f :: rest → f.payload = .presence halted period target closing → f.src ≠ 0 →
     noted = { s with
       link := { s.link with
         rx := rest,
         roster := tabPutD RosterEntry.blank s.link.roster f.src
           { rosterEntry s f.src with
             state := if halted then .halted else .present, lastPeriod := period, target := target } },
       notices :=
         if (rosterEntry s f.src).state = (if halted then Presence.halted else Presence.present) then s.notices
         else postNotice ⟨if halted then .stationHalted else .stationPresent, .number f.src, 0⟩ s.notices } →
     (s.station = .halted → exec .presence s = .next noted) ∧
     (s.station = .trading → halted = true → exec .presence s = .next (rosterDown f.src noted)) ∧
     (s.station = .trading ∨ s.station = .halted →
       ∃ t, exec .presence s = .next t ∧ t.link.rx = rest ∧
         rosterEntry t f.src =
           { rosterEntry s f.src with
             state := if halted then .halted else .present, lastPeriod := period, target := target } ∧
         t.custody = s.custody ∧ t.requests = s.requests ∧ t.slots = s.slots ∧ t.ident = s.ident ∧ t.port = s.port ∧
         (∃ more : List NoticeRec, t.notices = more.foldl (fun u n => postNotice n u) noted.notices) ∧
         t.positions.target = (if s.station = .trading ∧ halted = false then
             max s.positions.target (max target (period - 1)) else s.positions.target)) ∧
     (s.station = .trading → halted = false → target ≤ s.positions.target → period - 1 ≤ s.positions.target →
       tabWf s.tracker.entries = true → ((resendsDue s f.src).map fun p => p.2.data.reqNo).Nodup →
       exec .presence s = .next
         (if (s.positions.view.any fun v => !v.completed && (closeRow v f.src).state = .awaiting) = true ∧ closing = true ∧
             period = openPeriod s
           then callSend f.src (resentTo f.src s noted) else resentTo f.src s noted))) ∧
  (∀ (s : State) (j : Nat), s.station = .trading → 1 ≤ openPeriod s →
     (∀ n : Nat, n ∈ sendFrames j s ↔ ∃ pf ∈ s.control.frames, pf.stored = false ∧ pf.frame.number = n ∧
       (writesRow (closingSide s) j pf.frame = true ∨
         (writesGen pf.frame = true ∧
           ((s.positions.view.any fun v => v.completed) = false ∨ pf.frame.format ≠ .closeEnd)))) ∧
     (sendWaiting s j (closingPeriod s) = false →
       (sendFrames j s = [] →
         callSend j s = { s with link := { s.link with
           tx := if s.link.tx.length < 16 then
               s.link.tx ++ [⟨j, stampOf (openPeriod s), 0,
                 .position (closingPeriod s) (closingRow s j).fig (closingRow s j).haveYours, 0⟩]
             else s.link.tx } }) ∧
       (sendFrames j s ≠ [] →
         callSend j s = { s with control := { s.control with
           waits := s.control.waits ++ [⟨sendFrames j s, .positionSend j (closingPeriod s)⟩] } })) ∧
     (∀ (lw : List Wait) (fs : List Nat) (rw : List Wait),
       s.control.waits = lw ++ ⟨fs, .positionSend j (closingPeriod s)⟩ :: rw →
       ((lw ++ rw).all fun w => w.item ≠ .positionSend j (closingPeriod s)) = true →
       callSend j s = { s with control := { s.control with
         waits := lw ++ ⟨fs ++ (sendFrames j s).filter (fun n => !fs.contains n),
           .positionSend j (closingPeriod s)⟩ :: rw } }))

/-! ### Requests of other stations -/

/-- HOLD_REQ whose stamp raises nothing (R24 to R30; a stamp that raises is O60's). One that repeats no grant is granted when
its checks pass, in full or in part, as an own REDEEM is, with the answer as its frame's continuation; nothing else changes.
Of the others no record changes: amount 0 is discarded; an earlier stamp, and a later one when no close can begin, is
declined PERIOD; a repeat of a grant of this period is answered as granted, at once or behind its pending frame, and grants
nothing, a smaller amount asked again answered PARTIAL (log entry 39, DESIGN CHOICE); a check of the home that fails declines
with its reason. Model's choices and inferences in it: log entries 9, 39. -/
def Obligations.HoldRequestIsDecided : Prop :=
  (∀ (s : State) (i : Identity) (f : LinkFrame) (rest : List LinkFrame) (serial amount : Nat) (part : Bool) (place : Nat)
     (c : Card) (amt : Nat),
     s.station = .trading → s.ident = some i → s.link.rx = f :: rest → f.payload = .holdReq serial amount part →
     extendStamp (openPeriod s) f.stamp = openPeriod s → 1 ≤ amount → findHoldRepeat s f.src f.reqNo serial = none →
     findCard s serial = some (place, c) → cardFrozen s c = false → grantCount s < 1024 → openHolds s < 256 →
     c.openHolds < 4 → 512 < freeCount s.journal → frameFree s = true →
     captureFigure s f.src + openHeld s f.src + amount ≤ 999999999999 →
     ((amount ≤ c.available ∧ amt = amount) ∨ (c.available < amount ∧ part = true ∧ 1 ≤ c.available ∧ amt = c.available)) →
     ∃ t, exec .holdReq s = .next t ∧ t.ident = some { i with tagCounter := freshTag s } ∧
       cardBecomes place { c with available := c.available - amt, held := c.held + amt, openHolds := c.openHolds + 1,
                                  lastActivity := openPeriod s } s t ∧
       t.custody.locks = s.custody.locks ∧ t.custody.liability = s.custody.liability ∧
       grantBecomes (freeGrantPlace s)
         ⟨f.src, some f.reqNo, c.serial, openPeriod s, .hold (freshTag s) amt .isOpen⟩ s t ∧
       t.requests.lives = tabPut s.requests.lives (freshTag s) (holdLifeMs s) ∧
       t.requests.deferred = s.requests.deferred ∧
       t.requests.lapsing = s.requests.lapsing ∧ t.link = { s.link with rx := rest } ∧
       queuesFrame .holdGrant
         [.card place { c with available := c.available - amt, held := c.held + amt, openHolds := c.openHolds + 1,
                               lastActivity := openPeriod s },
          .grant (freeGrantPlace s) ⟨f.src, some f.reqNo, c.serial, openPeriod s, .hold (freshTag s) amt .isOpen⟩,
          .identity { i with tagCounter := freshTag s }] []
         (.answer f.src f.reqNo
           (.holdAns (if amount ≤ c.available then .granted else .partially) amt (freshTag s) none)) s t ∧
       { t with ident := s.ident, custody := s.custody, requests := s.requests, link := s.link, control := s.control } = s) ∧
  (∀ (s : State) (f : LinkFrame) (rest : List LinkFrame) (serial amount : Nat) (part : Bool),
     s.station = .trading → s.link.rx = f :: rest → f.payload = .holdReq serial amount part →
     raisesNothing f s = true →
     (amount = 0 → discards .holdReq rest s) ∧
     (1 ≤ amount → extendStamp (openPeriod s) f.stamp < openPeriod s ∨
         (openPeriod s < extendStamp (openPeriod s) f.stamp ∧ noCloseCanBegin s) →
       answersAtOnce .holdReq f rest (.holdAns .declined 0 0 (some .period)) s) ∧
     (1 ≤ amount → extendStamp (openPeriod s) f.stamp = openPeriod s →
       (∀ (gp : Nat) (gr : Grant), findHoldRepeat s f.src f.reqNo serial = some (gp, gr) →
         (unstored (grantFrameOf gp) s = [] → answersAtOnce .holdReq f rest (grantAgain gr amount) s) ∧
         (unstored (grantFrameOf gp) s ≠ [] →
           answersLater .holdReq f rest (grantAgain gr amount) (unstored (grantFrameOf gp) s) s)) ∧
       (findHoldRepeat s f.src f.reqNo serial = none →
         (findCard s serial = none → answersAtOnce .holdReq f rest (.holdAns .declined 0 0 (some .unknownCard)) s) ∧
         (∀ (place : Nat) (c : Card), findCard s serial = some (place, c) →
           (cardFrozen s c = true → answersAtOnce .holdReq f rest (.holdAns .declined 0 0 (some .frozen)) s) ∧
           (cardFrozen s c = false →
             (1024 ≤ grantCount s ∨ 256 ≤ openHolds s ∨ 4 ≤ c.openHolds ∨ freeCount s.journal ≤ 512 ∨
                 16 ≤ s.control.frames.length →
               answersAtOnce .holdReq f rest (.holdAns .declined 0 0 (some .busy)) s) ∧
             (grantCount s < 1024 → openHolds s < 256 → c.openHolds < 4 → 512 < freeCount s.journal → frameFree s = true →
               (999999999999 < captureFigure s f.src + openHeld s f.src + amount →
                 answersAtOnce .holdReq f rest (.holdAns .declined 0 0 (some .limit)) s) ∧
               (captureFigure s f.src + openHeld s f.src + amount ≤ 999999999999 → c.available < amount →
                 part = false ∨ c.available = 0 →
                 answersAtOnce .holdReq f rest (.holdAns .declined 0 0 (some .insufficient)) s)))))))

/-- SETTLE_REQ (R24, R32 to R35). On an OPEN hold it names by tag, requester, serial and period, CAPTURE takes the amount, at
most g, books RI of the requester's row in the hold's generation and writes a CAPTURE_HOME entry; RELEASE returns the whole
g; the answer is the frame's continuation and the clearing unit examines the row; with the frame area full the request is
discarded. One that ends no hold changes no record: a CAPTURE of amount 0 is discarded; with no such hold a CAPTURE is
TOO_LATE and a RELEASE is DONE with 0; a hold captured before answers its amount again, one released or expired is TOO_LATE,
and a RELEASE of one that has ended is DONE with 0, each at once or behind pending frames that write the entry. Model's
choices and inferences in it: log entries 9, 10, 49, 54. -/
def Obligations.SettleRequestIsServed : Prop :=
  (∀ (s : State) (f : LinkFrame) (rest : List LinkFrame) (serial amount tag a gp : Nat) (gr : Grant) (place : Nat) (c : Card),
     s.station = .trading → s.link.rx = f :: rest → raisesNothing f s = true →
     findSettled s f.src tag serial (extendStamp (openPeriod s) f.stamp) = some (gp, gr) → gr.body = .hold tag a .isOpen →
     findCard s gr.serial = some (place, c) →
     (∀ side : Side, f.payload = .settleReq .capture tag serial amount → 1 ≤ amount → frameFree s = true →
       generationOf s gr.period = some side → f.src ≠ ownStation s →
       ∃ t0, exec .settleReq s = .next (reexamine f.src t0) ∧
         cardBecomes place { c with available := c.available + (a - min amount a), held := c.held - a,
                                    openHolds := c.openHolds - 1, lastActivity := openPeriod s } s t0 ∧
         t0.custody.locks = s.custody.locks ∧ t0.custody.liability = s.custody.liability - min amount a ∧
         grantBecomes gp { gr with body := .hold tag a (.captured (min amount a)) } s t0 ∧
         t0.requests.lives = tabDel s.requests.lives tag ∧
         t0.requests.deferred = s.requests.deferred.filter (fun y => y ≠ tag) ∧
         t0.requests.lapsing = s.requests.lapsing.filter (fun y => y ≠ tag) ∧
         rowBecomes side f.src (captureBooking false (min amount a) (readRow s side gr.period f.src)) s t0 ∧
         claimsOne s t0 ∧ t0.link = { s.link with rx := rest } ∧
         queuesFrame .holdSettle
           [.card place { c with available := c.available + (a - min amount a), held := c.held - a,
                                 openHolds := c.openHolds - 1, lastActivity := openPeriod s },
            .grant gp { gr with body := .hold tag a (.captured (min amount a)) },
            .row side f.src (captureBooking false (min amount a) (readRow s side gr.period f.src)),
            .journal [entryOf s .captureHome gr.period
              { card := some (cardId (ownStation s) gr.serial), amount := some (min amount a), counterpart := some f.src,
                tag := some tag, reqNo := some f.reqNo }]]
           [writePoint s.journal] (.answer f.src f.reqNo (.settleAns .done .capture (min amount a))) s t0 ∧
         { t0 with custody := s.custody, requests := s.requests, positions := s.positions, journal := s.journal,
                   notices := s.notices, link := s.link, control := s.control } = s) ∧
     (f.payload = .settleReq .release tag serial amount → frameFree s = true →
       ∃ t0, exec .settleReq s = .next (reexamine f.src t0) ∧
         cardBecomes place { c with available := c.available + a, held := c.held - a, openHolds := c.openHolds - 1,
                                    lastActivity := openPeriod s } s t0 ∧
         t0.custody.locks = s.custody.locks ∧ t0.custody.liability = s.custody.liability ∧
         grantBecomes gp { gr with body := .hold tag a .released } s t0 ∧
         t0.requests.lives = tabDel s.requests.lives tag ∧
         t0.requests.deferred = s.requests.deferred.filter (fun y => y ≠ tag) ∧
         t0.requests.lapsing = s.requests.lapsing.filter (fun y => y ≠ tag) ∧ t0.link = { s.link with rx := rest } ∧
         queuesFrame .holdSettle
           [.card place { c with available := c.available + a, held := c.held - a, openHolds := c.openHolds - 1,
                                 lastActivity := openPeriod s },
            .grant gp { gr with body := .hold tag a .released }] []
           (.answer f.src f.reqNo (.settleAns .done .release a)) s t0 ∧
         { t0 with custody := s.custody, requests := s.requests, link := s.link, control := s.control } = s) ∧
     (f.payload = .settleReq .capture tag serial amount ∨ f.payload = .settleReq .release tag serial amount →
       frameFree s = false → discards .settleReq rest s)) ∧
  (∀ (s : State) (f : LinkFrame) (rest : List LinkFrame) (serial amount tag : Nat),
     s.station = .trading → s.link.rx = f :: rest → raisesNothing f s = true →
     (f.payload = .settleReq .capture tag serial 0 → discards .settleReq rest s) ∧
     (findSettled s f.src tag serial (extendStamp (openPeriod s) f.stamp) = none →
       (f.payload = .settleReq .capture tag serial amount → 1 ≤ amount →
         answersAtOnce .settleReq f rest (.settleAns .tooLate .capture 0) s) ∧
       (f.payload = .settleReq .release tag serial amount →
         answersAtOnce .settleReq f rest (.settleAns .done .release 0) s)) ∧
     (∀ (gp : Nat) (gr : Grant), findSettled s f.src tag serial (extendStamp (openPeriod s) f.stamp) = some (gp, gr) →
       grantOpen gr = false →
       (unstored (writesGrant gp) s = [] →
         (f.payload = .settleReq .release tag serial amount →
           answersAtOnce .settleReq f rest (.settleAns .done .release 0) s) ∧
         (∀ (a x : Nat), f.payload = .settleReq .capture tag serial amount → 1 ≤ amount → gr.body = .hold tag a (.captured x) →
           answersAtOnce .settleReq f rest (.settleAns .done .capture x) s) ∧
         (∀ a : Nat, f.payload = .settleReq .capture tag serial amount → 1 ≤ amount →
           gr.body = .hold tag a .released ∨ gr.body = .hold tag a .expired →
           answersAtOnce .settleReq f rest (.settleAns .tooLate .capture 0) s)) ∧
       (unstored (writesGrant gp) s ≠ [] →
         (f.payload = .settleReq .release tag serial amount →
           answersLater .settleReq f rest (.settleAns .done .release 0) (unstored (writesGrant gp) s) s) ∧
         (∀ (a x : Nat), f.payload = .settleReq .capture tag serial amount → 1 ≤ amount → gr.body = .hold tag a (.captured x) →
           answersLater .settleReq f rest (.settleAns .done .capture x) (unstored (writesGrant gp) s) s) ∧
         (∀ a : Nat, f.payload = .settleReq .capture tag serial amount → 1 ≤ amount →
           gr.body = .hold tag a .released ∨ gr.body = .hold tag a .expired →
           answersLater .settleReq f rest (.settleAns .tooLate .capture 0) (unstored (writesGrant gp) s) s))))

/-- CREDIT_REQ whose stamp raises nothing (R13 to R16; a stamp that raises is O60's). One that repeats no credit is applied
when its checks pass: card, liability, entry, TI or FI of the requester's row, a CREDIT_HOME entry, and a CREDIT_APPLY frame
whose continuation is the answer; nothing else changes. Of the others no record changes: amount 0 is discarded; an earlier
stamp, and a later one when no close can begin, is declined PERIOD; a repeat is answered APPLIED again, at once or behind its
pending frame; a check that fails declines with its reason. Model's choices and inferences in it: log entries 9, 10. -/
def Obligations.CreditRequestIsDecided : Prop :=
  (∀ (s : State) (f : LinkFrame) (rest : List LinkFrame) (kind : CreditKind) (serial amount place : Nat) (c : Card),
     s.station = .trading → s.link.rx = f :: rest → f.payload = .creditReq kind serial amount →
     extendStamp (openPeriod s) f.stamp = openPeriod s → 1 ≤ amount → f.src ≠ ownStation s →
     findCreditRepeat s f.src f.reqNo serial kind amount = none → findCard s serial = some (place, c) →
     (kind = .topup → cardFrozen s c = false) → c.available + c.held + amount ≤ ceiling s → grantCount s < 1024 →
     512 < freeCount s.journal → frameFree s = true → creditFigure s f.src kind + amount ≤ 999999999999 →
     ∃ t, exec .creditReq s = .next t ∧
       cardBecomes place { c with available := c.available + amount, lastActivity := openPeriod s } s t ∧
       t.custody.locks = s.custody.locks ∧ t.custody.liability = s.custody.liability + amount ∧
       grantBecomes (freeGrantPlace s) ⟨f.src, some f.reqNo, c.serial, openPeriod s, .credit kind amount⟩ s t ∧
       t.requests.lives = s.requests.lives ∧ t.requests.deferred = s.requests.deferred ∧
       t.requests.lapsing = s.requests.lapsing ∧
       rowBecomes s.positions.gen.openSide f.src (creditBooking false kind amount (openRow s f.src)) s t ∧
       claimsOne s t ∧ t.link = { s.link with rx := rest } ∧
       queuesFrame .creditApply
         [.card place { c with available := c.available + amount, lastActivity := openPeriod s },
          .grant (freeGrantPlace s) ⟨f.src, some f.reqNo, c.serial, openPeriod s, .credit kind amount⟩,
          .row s.positions.gen.openSide f.src (creditBooking false kind amount (openRow s f.src)),
          .journal [entryOf s .creditHome (openPeriod s)
            { card := some (cardId (ownStation s) serial), amount := some amount, counterpart := some f.src,
              reqNo := some f.reqNo, outcome := some (.credit kind) }]]
         [writePoint s.journal] (.answer f.src f.reqNo (.creditAns .applied none)) s t ∧
       { t with custody := s.custody, requests := s.requests, positions := s.positions, journal := s.journal,
                notices := s.notices, link := s.link, control := s.control } = s) ∧
  (∀ (s : State) (f : LinkFrame) (rest : List LinkFrame) (kind : CreditKind) (serial amount : Nat),
     s.station = .trading → s.link.rx = f :: rest → f.payload = .creditReq kind serial amount →
     raisesNothing f s = true →
     (amount = 0 → discards .creditReq rest s) ∧
     (1 ≤ amount → extendStamp (openPeriod s) f.stamp < openPeriod s ∨
         (openPeriod s < extendStamp (openPeriod s) f.stamp ∧ noCloseCanBegin s) →
       answersAtOnce .creditReq f rest (.creditAns .declined (some .period)) s) ∧
     (1 ≤ amount → extendStamp (openPeriod s) f.stamp = openPeriod s →
       (∀ (gp : Nat) (gr : Grant), findCreditRepeat s f.src f.reqNo serial kind amount = some (gp, gr) →
         (unstored (creditFrameOf gp) s = [] → answersAtOnce .creditReq f rest (.creditAns .applied none) s) ∧
         (unstored (creditFrameOf gp) s ≠ [] →
           answersLater .creditReq f rest (.creditAns .applied none) (unstored (creditFrameOf gp) s) s)) ∧
       (findCreditRepeat s f.src f.reqNo serial kind amount = none →
         (findCard s serial = none → answersAtOnce .creditReq f rest (.creditAns .declined (some .unknownCard)) s) ∧
         (∀ (place : Nat) (c : Card), findCard s serial = some (place, c) →
           (kind = .topup → cardFrozen s c = true →
             answersAtOnce .creditReq f rest (.creditAns .declined (some .frozen)) s) ∧
           (kind = .refund ∨ cardFrozen s c = false →
             (ceiling s < c.available + c.held + amount →
               answersAtOnce .creditReq f rest (.creditAns .declined (some .overCeiling)) s) ∧
             (c.available + c.held + amount ≤ ceiling s →
               (1024 ≤ grantCount s ∨ freeCount s.journal ≤ 512 ∨ 16 ≤ s.control.frames.length →
                 answersAtOnce .creditReq f rest (.creditAns .declined (some .busy)) s) ∧
               (grantCount s < 1024 → 512 < freeCount s.journal → frameFree s = true →
                 999999999999 < creditFigure s f.src kind + amount →
                 answersAtOnce .creditReq f rest (.creditAns .declined (some .limit)) s)))))))

/-- A STATUS_REQ (R17, R18): an enquiry reports the card as it stands, at once or behind pending frames that write it; a
freeze of an ACTIVE card changes its state alone in a STATUS_CHANGE frame whose continuation is the answer, is BUSY inside
the journal reserve or with the frame area full, and is answered as an enquiry when the card is FROZEN or unknown. Model's
choices and inferences in it: log entries 9, 10. -/
def Obligations.StatusRequestReportsOrFreezes : Prop :=
  ∀ (s : State) (f : LinkFrame) (rest : List LinkFrame) (serial : Nat),
    s.station = .trading → s.link.rx = f :: rest → raisesNothing f s = true →
    ((f.payload = .statusReq .enquire serial ∨
        (f.payload = .statusReq .freeze serial ∧ (findCard s serial).all (fun p => p.2.state = .frozen) = true)) →
      (cardFrames s serial = [] →
        answersAtOnce .statusReq f rest
          (.statusAns (cardView s serial).1 (cardView s serial).2.1 (cardView s serial).2.2) s) ∧
      (cardFrames s serial ≠ [] →
        answersLater .statusReq f rest
          (.statusAns (cardView s serial).1 (cardView s serial).2.1 (cardView s serial).2.2) (cardFrames s serial) s)) ∧
    (∀ (place : Nat) (c : Card), f.payload = .statusReq .freeze serial → findCard s serial = some (place, c) →
      c.state = .active →
      (freeCount s.journal ≤ 512 ∨ 16 ≤ s.control.frames.length →
        answersAtOnce .statusReq f rest (.statusAns .busy 0 0) s) ∧
      (512 < freeCount s.journal → frameFree s = true →
        ∃ t, exec .statusReq s = .next t ∧
          cardBecomes place { c with state := .frozen } s t ∧ t.custody.locks = s.custody.locks ∧
          t.custody.liability = s.custody.liability ∧ claimsOne s t ∧ t.link = { s.link with rx := rest } ∧
          queuesFrame .statusChange
            [.card place { c with state := .frozen },
             .journal [entryOf s .freeze (openPeriod s)
               { card := some (cardId (ownStation s) serial), counterpart := some f.src }]]
            [writePoint s.journal]
            (.answer f.src f.reqNo
              (.statusAns (if cardLocked s serial then .locked else .frozen) c.available c.held)) s t ∧
          { t with custody := s.custody, journal := s.journal, notices := s.notices, link := s.link,
                   control := s.control } = s))

/-! ### Answers -/

/-- HOLD_ANS (R69, R75, R85). An answer that names no entry, or one of another kind, of a later period or orphan, is
discarded. A grant frees the entry and brings its slot to HELD with the tag, the hold's period and g, the hold timer at the
hold life; a decline frees it and its slot enters OUTCOME. For an abandoned entry a decline frees it, and a grant turns it,
in the same place, into a RELEASE entry of a new number, which is offered at once. The clearing unit then examines the home's
row. That a DECLINED outcome's amount is 0 is log entry 18 (DEDUCED). Model's choices and inferences in it: log entries 9,
18, 54. -/
def Obligations.HoldAnswerEndsTheRequest : Prop :=
  ∀ (s : State) (f : LinkFrame) (rest : List LinkFrame) (tp : Nat) (tr : Track) (how : HoldAnswer) (g tag : Nat)
    (r : Option Reason),
    s.station = .trading → s.link.rx = f :: rest → f.payload = .holdAns how g tag r →
    raisesNothing f s = true →
    (findTrack s f.src f.reqNo = none → discards .holdAns rest s) ∧
    (findTrack s f.src f.reqNo = some (tp, tr) →
      (tr.data.kind ≠ .hold ∨ extendStamp (openPeriod s) f.stamp < tr.data.period ∨ tr.orphan.isSome = true →
        discards .holdAns rest s) ∧
      (tr.data.kind = .hold → (tr.data.period : Int) ≤ extendStamp (openPeriod s) f.stamp → tr.orphan = none →
        (∀ (slot : Nat) (sl : Slot), tr.abandoned = false → tr.slot = some slot → getSlot s slot = some sl →
          (how ≠ .declined →
            exec .holdAns s = .next (reexamine tr.data.home { s with
              tracker := { s.tracker with entries := tabDel s.tracker.entries tp },
              slots := tabPut s.slots slot { sl with
                state := .held, hold := some ⟨tag, tr.data.period, g⟩, timer := some (holdLifeMs s), link := none,
                outcome := some ⟨if how = .granted then .approved else .partially, g, sl.card, none, none, none, 0⟩ },
              notices := postNotice ⟨.slotOutcome, .number slot, if how = .granted then 1 else 2⟩ s.notices,
              link := { s.link with rx := rest } })) ∧
          (how = .declined → sl.state = .authorising →
            exec .holdAns s = .next (reexamine tr.data.home { s with
              tracker := { s.tracker with entries := tabDel s.tracker.entries tp },
              slots := tabPut s.slots slot (slotOutcome sl ⟨.declined, 0, sl.card, none, r, none, 0⟩),
              notices := postNotice ⟨.slotOutcome, .number slot, 3⟩ s.notices,
              link := { s.link with rx := rest } }))) ∧
        (tr.abandoned = true → how = .declined →
          exec .holdAns s = .next (reexamine tr.data.home { s with
            tracker := { s.tracker with entries := tabDel s.tracker.entries tp },
            link := { s.link with rx := rest } })) ∧
        (tr.abandoned = true → how ≠ .declined → (nextNumber s).2 = false →
          unstored (coversNumber (nextNumber s).1) s = [] → numberHeld s (nextNumber s).1 = false →
          lastClosed s < tr.data.period → tabWf s.tracker.entries = true →
          exec .holdAns s = .next { s with
            tracker := ⟨tabPut s.tracker.entries tp
              ⟨⟨.release, tr.data.home, (nextNumber s).1, tr.data.period, tr.data.serial, 0, some tag, .sent⟩, 1,
                if s.link.tx.length < 16 then none else some 400, none, false, none, false, false⟩, (nextNumber s).1⟩,
            link := { s.link with
              rx := rest,
              tx := if s.link.tx.length < 16 then
                  s.link.tx ++ [⟨tr.data.home, stampOf tr.data.period, (nextNumber s).1,
                    .settleReq .release tag tr.data.serial 0, 0⟩]
                else s.link.tx } })))

/-- The answers that book at the acquirer (R69, R70, R78, R81). A SETTLE_ANS to a capture, or a CREDIT_ANS, that names no
entry, or one of another kind, of a later period or orphan, is discarded. DONE for a CAPTURE entry books the answered amount
into RA and one into KA of the home's row in the entry's period, with a CAPTURE_ACQ entry; APPLIED for a CREDIT_REQ books its
amount into TA or FA with a CREDIT_ACQ entry; the slot is CAPTURED or CREDITED once the ACQ_BOOK frame is stored. TOO_LATE
and DECLINED book nothing: the entry goes with a TRACKER_STORE frame, and the slot is CAPTURE_REFUSED, or DECLINED with the
reason. An entry with no slot left announces RESOLVED. With the frame area full the answer is discarded. That the amount of
CAPTURE_REFUSED and DECLINED outcomes is 0 is log entry 18 (DEDUCED). Model's choices and inferences in it: log entries 9,
10, 18, 54. -/
def Obligations.MoneyAnswersBook : Prop :=
  ∀ (s : State) (f : LinkFrame) (rest : List LinkFrame) (tp : Nat) (tr : Track) (side : Side),
    s.station = .trading → s.link.rx = f :: rest → raisesNothing f s = true →
    (∀ (out : SettleAnswer) (g : Nat), f.payload = .settleAns out .capture g →
      (findTrack s f.src f.reqNo = none → discards .settleAns rest s) ∧
      (findTrack s f.src f.reqNo = some (tp, tr) →
        tr.data.kind ≠ .capture ∨ extendStamp (openPeriod s) f.stamp < tr.data.period ∨ tr.orphan.isSome = true →
        discards .settleAns rest s)) ∧
    (∀ (ca : CreditAnswer) (r : Option Reason), f.payload = .creditAns ca r →
      (findTrack s f.src f.reqNo = none → discards .creditAns rest s) ∧
      (findTrack s f.src f.reqNo = some (tp, tr) →
        (tr.data.kind ≠ .credit .topup ∧ tr.data.kind ≠ .credit .refund) ∨
          extendStamp (openPeriod s) f.stamp < tr.data.period ∨ tr.orphan.isSome = true →
        discards .creditAns rest s)) ∧
    (findTrack s f.src f.reqNo = some (tp, tr) → (tr.data.period : Int) ≤ extendStamp (openPeriod s) f.stamp →
      tr.orphan = none → generationOf s tr.data.period = some side →
      (∀ g : Nat, tr.data.kind = .capture → f.payload = .settleAns .done .capture g →
        (frameFree s = false → discards .settleAns rest s) ∧
        (frameFree s = true →
          booksAnswer .settleAns rest tp tr (slotsCut tr s) side
            (acquired g (readRow s side tr.data.period tr.data.home)) .captureAcq
            { card := some (cardId tr.data.home tr.data.serial), amount := some g, counterpart := some tr.data.home,
              tag := tr.data.tag, reqNo := some tr.data.reqNo, tillRef := (servedSlot tr s).bind (fun k => k.tillRef) }
            (announces tr (servedSlot tr s) (fun cid => ⟨.captured, g, cid, none, none, none, 0⟩)) s)) ∧
      (∀ g : Nat, tr.data.kind = .capture → f.payload = .settleAns .tooLate .capture g →
        (frameFree s = false → discards .settleAns rest s) ∧
        (frameFree s = true →
          freesEntry .settleAns rest tp tr (slotsCut tr s)
            (announces tr (servedSlot tr s) (fun cid => ⟨.captureRefused, 0, cid, none, none, none, 0⟩)) s)) ∧
      (∀ (kind : CreditKind) (r : Option Reason), tr.data.kind = .credit kind → f.payload = .creditAns .applied r →
        (frameFree s = false → discards .creditAns rest s) ∧
        (frameFree s = true →
          booksAnswer .creditAns rest tp tr (slotsCut tr s) side
            (creditedAway kind tr.data.amount (readRow s side tr.data.period tr.data.home)) .creditAcq
            { card := some (cardId tr.data.home tr.data.serial), amount := some tr.data.amount,
              counterpart := some tr.data.home, reqNo := some tr.data.reqNo,
              tillRef := (servedSlot tr s).bind (fun k => k.tillRef), outcome := some (.credit kind) }
            (announces tr (servedSlot tr s) (fun cid => ⟨.credited, tr.data.amount, cid, none, none, none, 0⟩)) s)) ∧
      (∀ (kind : CreditKind) (r : Option Reason), tr.data.kind = .credit kind → f.payload = .creditAns .declined r →
        (frameFree s = false → discards .creditAns rest s) ∧
        (frameFree s = true →
          freesEntry .creditAns rest tp tr (slotsCut tr s)
            (announces tr (servedSlot tr s) (fun cid => ⟨.declined, 0, cid, none, r, none, 0⟩)) s)))

/-- The answers that book nothing (R69, R79, R82). A SETTLE_ANS to a release, or a STATUS_ANS, that names no entry, or one of
another kind, of a later period or orphan, is discarded. Any SETTLE_ANS for a RELEASE entry frees it, and its slot is
RELEASED; a STATUS_ANS frees its entry and its slot shows STATUS with what was reported, or DECLINED BUSY; a detached entry
goes in silence. The clearing unit examines the rows of what was left. That the amount of RELEASED, STATUS and DECLINED
outcomes is 0 is log entry 18 (DEDUCED). Model's choices and inferences in it: log entries 18, 54. -/
def Obligations.ReleaseAndStatusAnswers : Prop :=
  ∀ (s : State) (f : LinkFrame) (rest : List LinkFrame) (tp : Nat) (tr : Track),
    s.station = .trading → s.link.rx = f :: rest → raisesNothing f s = true →
    (∀ (out : SettleAnswer) (g : Nat), f.payload = .settleAns out .release g →
      (findTrack s f.src f.reqNo = none → discards .settleAns rest s) ∧
      (findTrack s f.src f.reqNo = some (tp, tr) →
        tr.data.kind ≠ .release ∨ extendStamp (openPeriod s) f.stamp < tr.data.period ∨ tr.orphan.isSome = true →
        discards .settleAns rest s)) ∧
    (∀ (vw : CardView) (av hd : Nat), f.payload = .statusAns vw av hd →
      (findTrack s f.src f.reqNo = none → discards .statusAns rest s) ∧
      (findTrack s f.src f.reqNo = some (tp, tr) →
        (tr.data.kind ≠ .status .enquire ∧ tr.data.kind ≠ .status .freeze) ∨
          extendStamp (openPeriod s) f.stamp < tr.data.period ∨ tr.orphan.isSome = true →
        discards .statusAns rest s)) ∧
    (findTrack s f.src f.reqNo = some (tp, tr) → (tr.data.period : Int) ≤ extendStamp (openPeriod s) f.stamp →
      tr.orphan = none →
      (∀ (out : SettleAnswer) (g : Nat), tr.data.kind = .release → f.payload = .settleAns out .release g →
        (tr.slot = none →
          exec .settleAns s = .next (reexamine tr.data.home { s with
            tracker := { s.tracker with entries := tabDel s.tracker.entries tp },
            link := { s.link with rx := rest } })) ∧
        (∀ (slot : Nat) (sl : Slot), tr.slot = some slot → getSlot s slot = some sl → sl.state = .settling →
          exec .settleAns s = .next (reexamine tr.data.home (reexamine sl.card.ss { s with
            tracker := { s.tracker with entries := tabDel s.tracker.entries tp },
            slots := tabPut s.slots slot (slotOutcome sl ⟨.released, 0, sl.card, none, none, none, 0⟩),
            notices := postNotice ⟨.slotOutcome, .number slot, 5⟩ s.notices,
            link := { s.link with rx := rest } })))) ∧
      (∀ (act2 : StatusAction) (vw : CardView) (av hd : Nat), tr.data.kind = .status act2 → f.payload = .statusAns vw av hd →
        (tr.slot = none →
          exec .statusAns s = .next (reexamine tr.data.home { s with
            tracker := { s.tracker with entries := tabDel s.tracker.entries tp },
            link := { s.link with rx := rest } })) ∧
        (∀ (slot : Nat) (sl : Slot), tr.slot = some slot → getSlot s slot = some sl → sl.state = .enquiring →
          exec .statusAns s = .next (reexamine tr.data.home { s with
            tracker := { s.tracker with entries := tabDel s.tracker.entries tp },
            slots := tabPut s.slots slot (slotOutcome sl
              (if vw = .busy then ⟨.declined, 0, sl.card, none, some .busy, none, 0⟩
                else ⟨.status, 0, sl.card, some av, none, some vw, hd⟩)),
            notices := postNotice ⟨.slotOutcome, .number slot, if vw = .busy then 3 else 13⟩ s.notices,
            link := { s.link with rx := rest } }))))

/-- POSITION (R102, R103, R104). One that meets no closing generation, another period or a figure out of range is discarded.
While the row is AWAITING, or its mirror differs, the six figures become its mirror, have-yours yes, and a row past PENDING
and not SILENT becomes CONFIRMED or DISPUTED by the comparison; a MIRROR_STORE frame carries the row and announces one that
turns DISPUTED; with the frame area full the frame is discarded. A POSITION with have-yours no is answered with this
station's figures once its own side is final. Model's choices and inferences in it: log entry 9. -/
def Obligations.PositionIsComparedAndStored : Prop :=
  ∀ (s : State) (f : LinkFrame) (rest : List LinkFrame) (period : Nat) (fig : Figures) (hy : Bool),
    s.station = .trading → s.link.rx = f :: rest → f.payload = .position period fig hy →
    raisesNothing f s = true →
    (s.positions.view = none → discards .position rest s) ∧
    (∀ v : CloseView, s.positions.view = some v →
      (s.positions.gen.closing = false ∨ period ≠ closingPeriod s ∨ figuresInRange fig = false →
        discards .position rest s) ∧
      (s.positions.gen.closing = true → period = closingPeriod s → figuresInRange fig = true →
        (v.completed = false → (closeRow v f.src).state = .awaiting ∨ (closingRow s f.src).mirror ≠ some fig →
          (frameFree s = false → discards .position rest s) ∧
          (frameFree s = true →
            exec .position s = .next (examineCompletion (replyPosition f.src hy (closeRow v f.src) { s with
              positions := {
                (putRow (closingSide s) f.src { closingRow s f.src with mirror := some fig, haveYours := true } s).positions with
                view := some ⟨tabPutD CloseRow.blank v.rows f.src
                    ⟨if (closeRow v f.src).state = .pending then .pending
                      else if (closeRow v f.src).state = .silent then .silent
                      else if figuresAgree (closingRow s f.src).fig fig then .confirmed else .disputed,
                      (closeRow v f.src).final⟩,
                  v.ownFinal, v.deadline, v.completed⟩ },
              link := { s.link with rx := rest },
              control := withFrame .mirrorStore
                [.row (closingSide s) f.src { closingRow s f.src with mirror := some fig, haveYours := true }] []
                (if ((closeRow v f.src).state = .awaiting ∨ (closeRow v f.src).state = .confirmed ∨
                    (closeRow v f.src).state = .empty) ∧ figuresAgree (closingRow s f.src).fig fig = false then
                  .notice ⟨.rowDisputed, .number f.src, period⟩ else .none) s })))) ∧
        (v.completed = true ∨ ((closeRow v f.src).state ≠ .awaiting ∧ (closingRow s f.src).mirror = some fig) →
          exec .position s = .next (replyPosition f.src hy (closeRow v f.src) { s with link := { s.link with rx := rest } }) ∧
          (hy = true ∨ (closeRow v f.src).final = false → discards .position rest s) ∧
          (hy = false → (closeRow v f.src).final = true → sendWaiting s f.src period = false →
            unstored (fun k => writesRow (closingSide s) f.src k || (writesGen k && !(v.completed && k.format = .closeEnd))) s
              = [] →
            1 ≤ openPeriod s → s.link.tx.length < 16 →
            exec .position s = .next { s with link := { s.link with
              rx := rest,
              tx := s.link.tx ++ [⟨f.src, stampOf (openPeriod s), 0,
                .position period (closingRow s f.src).fig (closingRow s f.src).haveYours, 0⟩] } }))))

/-! ### Timers and waits for a frame slot -/

/-- HOLD_EXPIRY and HELD_BACK_EXPIRY (R38, R39, R85). The life of an OPEN hold runs out: the entry is EXPIRED and the whole g
returns to the card through a HOLD_EXPIRE frame, with nothing to announce, and the clearing unit examines the requester's
row; with the frame area full the expiry is held back and the hold stays OPEN with no life left, until a frame slot is free;
a release that waits by R85 is made no more then. Model's choices and inferences in it: log entries 1, 3, 9, 22, 54. -/
def Obligations.ExpiryReturnsTheHold : Prop :=
  ∀ (s : State) (tag gp a place life : Nat) (gr : Grant) (c : Card),
    s.station = .trading → findHold s tag = some (gp, gr) → gr.body = .hold tag a .isOpen →
    tabGet s.requests.lives tag = some life → findCard s gr.serial = some (place, c) →
    (life ≠ 0 →
      (frameFree s = true →
        exec (.holdExpiry tag) s = .next (reexamine gr.requester (holdEnded .holdExpire .expired gp gr tag a place c s))) ∧
      (frameFree s = false →
        exec (.holdExpiry tag) s = .next { s with requests := { s.requests with
          lives := tabPut s.requests.lives tag 0, lapsing := s.requests.lapsing.filter fun x => x ≠ tag } }) ∧
      exec (.heldBackExpiry tag) s = .next s) ∧
    (life = 0 →
      exec (.holdExpiry tag) s = .next s ∧
      (frameFree s = true →
        exec (.heldBackExpiry tag) s =
          .next (reexamine gr.requester (holdEnded .holdExpire .expired gp gr tag a place c s))) ∧
      (frameFree s = false → exec (.heldBackExpiry tag) s = .next s))

/-- HOLD_TIMER_EXPIRY, ANSWER_WAIT_EXPIRY and IN_DOUBT_MOVE (R68, R71, R76, R83, R86). A HELD slot shows HOLD_LAPSED. A SENT
entry whose wait ends is offered again up to four times; then a HOLD_REQ or STATUS_REQ entry is dropped and its slot shows
NO_ANSWER, a RELEASE is dropped and its slot shows RELEASE_ASSUMED, and a CAPTURE or CREDIT_REQ is made IN_DOUBT by a
TRACKER_STORE frame, or waits for a frame slot. An IN_DOUBT entry only ends its wait. A move that waits is made when a frame
slot is free, of an orphan too, whose frame announces nothing. That the amounts of these outcomes are 0 is log entry 18
(DEDUCED). Model's choices and inferences in it: log entries 1, 3, 9, 18, 54. -/
def Obligations.WaitsEndByKind : Prop :=
  ∀ (s : State) (slot : Nat) (sl : Slot) (home reqNo tp : Nat) (tr : Track),
    s.station = .trading →
    (getSlot s slot = some sl → sl.state = .held →
      exec (.holdTimerExpiry slot) s = .next (reexamine sl.card.ss { s with
        slots := tabPut s.slots slot (slotOutcome sl
          ⟨.holdLapsed, 0, sl.card, if sl.card.ss = ownStation s then availableOf s sl.card.serial else none, none, none, 0⟩),
        notices := postNotice ⟨.slotOutcome, .number slot, 11⟩ s.notices })) ∧
    (getSlot s slot = some sl → sl.state ≠ .held → exec (.holdTimerExpiry slot) s = .next s) ∧
    (findTrack s home reqNo = some (tp, tr) → tr.orphan = none →
      (tr.timer = none → exec (.answerWaitExpiry home reqNo) s = .next s) ∧
      (tr.timer.isSome = true →
        (tr.data.state = .inDoubt →
          exec (.answerWaitExpiry home reqNo) s =
            .next { s with tracker := ⟨tabPut s.tracker.entries tp { tr with timer := none }, s.tracker.counter⟩ }) ∧
        (tr.data.state = .sent → tr.attempts < 4 →
          exec (.answerWaitExpiry home reqNo) s = .next { s with
            tracker := ⟨tabPut s.tracker.entries tp
              { tr with attempts := tr.attempts + 1, timer := if s.link.tx.length < 16 then none else some 400 },
              s.tracker.counter⟩,
            link := { s.link with
              tx := if s.link.tx.length < 16 then s.link.tx ++ [requestFrame tr] else s.link.tx } }) ∧
        (tr.data.state = .sent → 4 ≤ tr.attempts →
          (tr.data.kind ≠ .capture → tr.data.kind ≠ .credit .topup → tr.data.kind ≠ .credit .refund → tr.slot = none →
            exec (.answerWaitExpiry home reqNo) s = .next (reexamine tr.data.home { s with
              tracker := { s.tracker with entries := tabDel s.tracker.entries tp } })) ∧
          (tr.data.kind = .hold → tr.slot = some slot → getSlot s slot = some sl → sl.state = .authorising →
            exec (.answerWaitExpiry home reqNo) s = .next (reexamine tr.data.home { s with
              tracker := { s.tracker with entries := tabDel s.tracker.entries tp },
              slots := tabPut s.slots slot (slotOutcome sl ⟨.noAnswer, 0, sl.card, none, none, none, 0⟩),
              notices := postNotice ⟨.slotOutcome, .number slot, 10⟩ s.notices })) ∧
          (∀ act2 : StatusAction, tr.data.kind = .status act2 → tr.slot = some slot → getSlot s slot = some sl →
            sl.state = .enquiring →
            exec (.answerWaitExpiry home reqNo) s = .next (reexamine tr.data.home { s with
              tracker := { s.tracker with entries := tabDel s.tracker.entries tp },
              slots := tabPut s.slots slot (slotOutcome sl ⟨.noAnswer, 0, sl.card, none, none, none, 0⟩),
              notices := postNotice ⟨.slotOutcome, .number slot, 10⟩ s.notices })) ∧
          (tr.data.kind = .release → tr.slot = some slot → getSlot s slot = some sl → sl.state = .settling →
            exec (.answerWaitExpiry home reqNo) s = .next (reexamine tr.data.home (reexamine sl.card.ss { s with
              tracker := { s.tracker with entries := tabDel s.tracker.entries tp },
              slots := tabPut s.slots slot (slotOutcome sl ⟨.releaseAssumed, 0, sl.card, none, none, none, 0⟩),
              notices := postNotice ⟨.slotOutcome, .number slot, 6⟩ s.notices }))) ∧
          (tr.data.kind = .capture ∨ tr.data.kind = .credit .topup ∨ tr.data.kind = .credit .refund →
            (frameFree s = true →
              movesInDoubt (.answerWaitExpiry home reqNo) tp tr (slotsCut tr s)
                (if tr.slot = none then .none
                  else announces tr (servedSlot tr s) (fun cid => ⟨.inDoubt, 0, cid, none, none, none, 0⟩)) s) ∧
            (frameFree s = false →
              exec (.answerWaitExpiry home reqNo) s = .next { s with
                tracker := ⟨tabPut s.tracker.entries tp { tr with timer := none, moveWaiting := true },
                  s.tracker.counter⟩ }))))) ∧
    (findTrack s home reqNo = some (tp, tr) →
      (tr.orphan.isSome = true → exec (.answerWaitExpiry home reqNo) s = .next s) ∧
      (tr.moveWaiting = true → frameFree s = true →
        movesInDoubt (.inDoubtMove home reqNo) tp tr (slotsCut tr s)
          (if tr.slot = none then .none
            else announces tr (servedSlot tr s) (fun cid => ⟨.inDoubt, 0, cid, none, none, none, 0⟩)) s) ∧
      (tr.moveWaiting = false ∨ frameFree s = false → exec (.inDoubtMove home reqNo) s = .next s))

/-- DEFERRED_RELEASE and COUNTER_STEP (R37, R85, R166). A release that waits takes a free frame slot and returns the hold's
g, or lapses when the hold has ended; a needed step of the request counter raises the mark by 256 through a COUNTER_STEP
frame; with the frame area full neither does anything. That a step may be taken before a request asks for it is the model's
choice (log entry 17). Model's choices and inferences in it: log entries 1, 9, 17, 22, 49, 54. -/
def Obligations.WaitingWorkTakesAFrameSlot : Prop :=
  ∀ (s : State) (i : Identity) (tag gp a place : Nat) (gr : Grant) (c : Card), s.station = .trading →
    (s.requests.deferred.contains tag = true ∨ s.requests.lapsing.contains tag = true → frameFree s = true →
      (findHold s tag = some (gp, gr) → gr.body = .hold tag a .isOpen → findCard s gr.serial = some (place, c) →
        exec (.deferredRelease tag) s =
          .next (reexamine gr.requester (holdEnded .holdSettle .released gp gr tag a place c s))) ∧
      ((findHold s tag).all (fun p => !grantOpen p.2) = true →
        exec (.deferredRelease tag) s = .next { s with requests := { s.requests with
          deferred := s.requests.deferred.filter fun x => x ≠ tag,
          lapsing := s.requests.lapsing.filter fun x => x ≠ tag } })) ∧
    ((s.requests.deferred.contains tag = false ∧ s.requests.lapsing.contains tag = false) ∨ frameFree s = false →
      exec (.deferredRelease tag) s = .next s) ∧
    (s.ident = some i → (nextNumber s).2 = true → frameFree s = true →
      exec .counterStep s = .next { s with
        ident := some { i with highWater := stepMark i.highWater },
        control := withFrame .counterStep [.identity { i with highWater := stepMark i.highWater }] [] .none s }) ∧
    ((nextNumber s).2 = false ∨ frameFree s = false → exec .counterStep s = .next s) ∧
    (∀ m : Nat, 1 ≤ m → m ≤ 65535 → stepMark m = if m ≤ 65279 then m + 256 else m - 65279)

/-! ### The close -/

/-- CLOSE_BEGIN and CLOSE_COMPLETION (R96, R97, R109, R110, R111, R122, R137). A close begins when a TRADING station without
a closing generation has a target at or above its open period, room for another period, the journal outside its reserve and a
free frame slot; else nothing happens. It completes when every counterpart row is settled, the own row is final, no OPEN hold
of the period stands and a frame slot is free: the deadline stops, the statement run is claimed, head first, and a CLOSE_END
frame carries it with the new generation record, which the working copy takes only when the frame is stored, entries retiring
by it. A stored CLOSE_BEGIN posts CLOSE_BEGUN and offers a PRESENCE. Model's choices and inferences in it: log entries 5, 9,
10, 42. -/
def Obligations.ClosesBeginAndComplete : Prop :=
  ∀ s : State, s.station = .trading →
    (s.positions.gen.closing = true ∨ s.positions.target < openPeriod s ∨ 16777215 ≤ openPeriod s ∨
        freeCount s.journal ≤ 512 ∨ 16 ≤ s.control.frames.length →
      exec .closeBegin s = .next s) ∧
    (s.positions.gen.closing = false → openPeriod s ≤ s.positions.target → openPeriod s < 16777215 →
      512 < freeCount s.journal → frameFree s = true →
      exec .closeBegin s = .next (examineCompletion (examineRows { s with
        positions := { s.positions with
          gen := ⟨otherSide s.positions.gen.openSide, openPeriod s + 1, true, s.positions.gen.lastClosed⟩,
          view := some ⟨[], false, s.conf.map fun k => k.closeLimit * 1000, false⟩ },
        control := withFrame .closeBegin
          [.generation ⟨otherSide s.positions.gen.openSide, openPeriod s + 1, true, s.positions.gen.lastClosed⟩] []
          (.notice ⟨.closeBegun, .number (openPeriod s), 0⟩) s }))) ∧
    (∀ v : CloseView, s.positions.view = some v →
      (v.completed = true ∨ v.ownFinal = false ∨ 16 ≤ s.control.frames.length ∨
          ((counterparts s).any fun j => !rowSettled (closeRow v j).state) = true →
        exec .closeCompletion s = .next s) ∧
      (s.positions.gen.closing = true → v.completed = false → v.ownFinal = true → frameFree s = true →
        ((counterparts s).all fun j => rowSettled (closeRow v j).state) = true →
        (s.requests.grants.all fun p =>
          !(grantOpen p.2 && !grantFree (lastClosed s) p.2 && p.2.period = closingPeriod s)) = true →
        exec .closeCompletion s = .next { s with
          positions := { s.positions with view := some { v with deadline := none, completed := true } },
          journal := (claimRun (statementRun s v) s.journal).2,
          notices := (if 512 < freeCount s.journal ∧ freeCount (claimRun (statementRun s v) s.journal).2 ≤ 512 then
              postNotice ⟨.journalReserve, .none, freeCount (claimRun (statementRun s v) s.journal).2⟩ s.notices
            else s.notices),
          control := withFrame .closeEnd
            [.journal ((claimRun (statementRun s v) s.journal).1.map fun k => k.2),
             .generation ⟨s.positions.gen.openSide, s.positions.gen.openPeriod, false, closingPeriod s⟩]
            ((claimRun (statementRun s v) s.journal).1.map fun k => k.1)
            (.notice ⟨.closeDone, .number (closingPeriod s), s.journal.next⟩) s } ∧
        (statementRun s v).head? = some ⟨.statement, closingPeriod s, .head (statementHead s v)⟩ ∧
        (exceptionRows s v).length + 1 ≤ (statementRun s v).length ∧ (statementRun s v).length ≤ 64)) ∧
    (∀ (slt : Nat) (frm : Frame) (prs : List Program) (pf : PendingFrame) (gn : GenRec) (nr : NoticeRec),
      s.control.queue = .frame slt frm :: prs → (s.control.frames.find? fun k => k.slot = slt) = some pf →
      pf.frame.format = .closeEnd → frameGen pf.frame = some gn → pf.frame.continuation = .notice nr →
      s.control.waits = [] →
      exec (.programComplete .completed) s = .next (examineBegin (offerPresence { s with
        positions := { s.positions with
          gen := { s.positions.gen with closing := false, lastClosed := gn.lastClosed }, view := none },
        journal := { s.journal with
          oldest := retireTo (storedEntries s.control.store) s.journal.oldest s.journal.archivedStored gn.lastClosed },
        notices := postNotice nr s.notices,
        control := programmedFrame slt frm prs pf.frame.number s }))) ∧
    (∀ (slt : Nat) (frm : Frame) (prs : List Program) (pf : PendingFrame) (nr : NoticeRec),
      s.control.queue = .frame slt frm :: prs → (s.control.frames.find? fun k => k.slot = slt) = some pf →
      pf.frame.format = .closeBegin → pf.frame.continuation = .notice nr → s.control.waits = [] →
      exec (.programComplete .completed) s = .next (offerPresence { s with
        notices := postNotice nr s.notices, control := programmedFrame slt frm prs pf.frame.number s }))

/-- CLOSE_DEADLINE (R86, R106, R107): with the deadline running every PENDING or AWAITING row becomes SILENT and the others
stay; slots HELD on a hold of the period lapse; tracker entries of the period are dropped, or, CAPTURE and CREDIT_REQ, marked
orphan with the state they had; of the OPEN holds of the period as many expire as frame slots are free, in table order, and
the rest are held back, a release by R85 that waits given up with them (log entry 57, DESIGN CHOICE); entries of other
periods stay, and the liability. That with no deadline running nothing happens is the model's choice (log entry 1, DESIGN
CHOICE), and that HOLD_LAPSED's amount is 0 is log entry 18 (DEDUCED). Model's choices and inferences in it: log entries 1,
9, 18, 21, 57. -/
def Obligations.DeadlineForcesTheClose : Prop :=
  ∀ (s : State) (v : CloseView), s.control.store.wf = true → tabWf s.custody.cards = true →
    tabWf s.requests.grants = true → tabWf s.tracker.entries = true → tabWf s.slots = true → s.station = .trading →
    s.positions.view = some v →
    (v.completed = true ∨ v.deadline = none ∨ v.deadline = some 0 → exec .closeDeadline s = .next s) ∧
    (v.completed = false → (v.deadline.any fun k => 1 ≤ k) = true →
      ∃ t, exec .closeDeadline s = .next t ∧
        t.positions.view.map (fun w => (counterparts s).map fun j => (closeRow w j).state) =
          some ((counterparts s).map fun j =>
            if rowSettled (closeRow v j).state then (closeRow v j).state else .silent) ∧
        t.positions.view.all (fun w => w.deadline = none || w.deadline = some 0) = true ∧
        t.custody.liability = s.custody.liability ∧ t.custody.locks = s.custody.locks ∧ t.ident = s.ident ∧
        t.port = s.port ∧ t.link.rx = s.link.rx ∧ t.link.roster = s.link.roster ∧
        (∀ (slot : Nat) (sl : Slot) (h : HoldRef), getSlot s slot = some sl → sl.state = .held → sl.hold = some h →
          h.period = closingPeriod s → (s.tracker.entries.all fun p => p.2.slot ≠ some slot) = true →
          getSlot t slot = some (slotOutcome sl
            ⟨.holdLapsed, 0, sl.card, if sl.card.ss = ownStation s then availableOf s sl.card.serial else none, none, none,
              0⟩)) ∧
        (∀ (tp : Nat) (tr : Track), tabGet s.tracker.entries tp = some tr → trackFree (lastClosed s) tr = false →
          (tr.data.period ≠ closingPeriod s → tabGet t.tracker.entries tp = some tr) ∧
          (tr.data.period = closingPeriod s →
            (tr.data.kind = .capture ∨ tr.data.kind = .credit .topup ∨ tr.data.kind = .credit .refund →
              tr.orphan = none →
              tabGet t.tracker.entries tp = some { tr with orphan := some tr.data.state, slot := none, timer := none }) ∧
            (tr.data.kind = .hold ∨ tr.data.kind = .release ∨ tr.data.kind = .status .enquire ∨
                tr.data.kind = .status .freeze →
              tabGet t.tracker.entries tp = none))) ∧
        (∀ (gp : Nat) (gr : Grant), tabGet s.requests.grants gp = some gr →
          (grantOpen gr = false ∨ gr.period ≠ closingPeriod s → tabGet t.requests.grants gp = some gr) ∧
          (grantOpen gr = true → gr.period = closingPeriod s → grantFree (lastClosed s) gr = false →
            (tabCount (fun k => grantOpen k && k.period = closingPeriod s && !grantFree (lastClosed s) k)
                (s.requests.grants.filter fun p => p.1 < gp) < framesFree s →
              tabGet t.requests.grants gp = some (withHoldState gr .expired)) ∧
            (framesFree s ≤ tabCount (fun k => grantOpen k && k.period = closingPeriod s && !grantFree (lastClosed s) k)
                (s.requests.grants.filter fun p => p.1 < gp) →
              tabGet t.requests.grants gp = some gr ∧ (∀ tag : Nat, grantTag gr = some tag →
                tabGet t.requests.lives tag = some 0 ∧ t.requests.lapsing.contains tag = false)))))

/-! ### The store -/

/-- PROGRAM_COMPLETE (R85, R137, R158, R161 to R164, R171). In IDLE and TRADING a program that reads back equal writes its
one place and leaves the queue: a record, a journal slot or a done mark changes nothing else but the frame's end; a frame
becomes STORED and its continuation is carried out: an answer is offered, a request is offered unless its entry is orphan, a
notice posted, a slot enters OUTCOME or HELD unless it has been freed, and a grant whose slot was freed is released, waits
for a frame slot, or expires with its life; then each wait whose last frame it was lets its item out, in the order the waits
were made (log entry 45); a stored ARCHIVE_STORE retires entries. A program that reads back different takes the station to
HALTED with PROGRAM_FAILED. In HALTED the program under way ends with its place and nothing more. Whether the failed place is
left unchanged or torn is the command's operand (log entry 8). Model's choices and inferences in it: log entries 8, 9, 22,
24, 45, 51, 54, 57. -/
def Obligations.ProgramsWriteThenAnnounce : Prop :=
  ∀ (s : State) (pr : Program) (prs : List Program), s.control.queue = pr :: prs →
    (s.station = .idle ∨ s.station = .trading →
      (∀ tg : Target, pr = .target tg →
        exec (.programComplete .completed) s = .next { s with control := { s.control with
          queue := prs, store := storeWrite s.control.store tg } }) ∧
      (∀ (pos : Nat) (en : JournalEntry), pr = .entry pos en →
        exec (.programComplete .completed) s = .next { s with control := { s.control with
          queue := prs,
          store := { s.control.store with journal := tabPut s.control.store.journal pos (.whole en) } } }) ∧
      (∀ slt : Nat, pr = .done slt →
        exec (.programComplete .completed) s = .next { s with control := { s.control with
          queue := prs, store := programWrite s.control.store pr,
          frames := s.control.frames.filter fun k => k.slot ≠ slt } }) ∧
      (∀ slt : Nat, pr = .clearFrame slt →
        exec (.programComplete .completed) s = .next { s with control := { s.control with
          queue := prs, store := { s.control.store with frames := tabDel s.control.store.frames slt } } }) ∧
      (∀ (slt : Nat) (frm : Frame) (pf : PendingFrame), pr = .frame slt frm →
        (s.control.frames.find? fun k => k.slot = slt) = some pf → pf.frame.format ≠ .closeBegin →
        pf.frame.format ≠ .closeEnd → pf.frame.format ≠ .archiveStore → s.control.waits = [] →
        (pf.frame.continuation = .none →
          exec (.programComplete .completed) s =
            .next { s with control := programmedFrame slt frm prs pf.frame.number s }) ∧
        (∀ (odst oreq : Nat) (opay : Payload), pf.frame.continuation = .answer odst oreq opay → s.station = .trading →
          exec (.programComplete .completed) s = .next { s with
            control := programmedFrame slt frm prs pf.frame.number s,
            link := { s.link with
              tx := if s.link.tx.length < 16 then
                  s.link.tx ++ [⟨odst, stampOf (openPeriod s), oreq, opay, 0⟩] else s.link.tx } }) ∧
        (∀ nr : NoticeRec, pf.frame.continuation = .notice nr →
          exec (.programComplete .completed) s = .next { s with
            control := programmedFrame slt frm prs pf.frame.number s, notices := postNotice nr s.notices }) ∧
        (∀ (slot : Nat) (orq : Option Nat) (oout : OutcomeRec) (sl : Slot),
          pf.frame.continuation = .slotOutcome slot orq none oout →
          (pf.slotFreed = true →
            exec (.programComplete .completed) s =
              .next { s with control := programmedFrame slt frm prs pf.frame.number s }) ∧
          (pf.slotFreed = false → getSlot s slot = some sl →
            exec (.programComplete .completed) s = .next (slotLeft sl { s with
              control := programmedFrame slt frm prs pf.frame.number s,
              slots := tabPut s.slots slot (slotOutcome sl oout),
              notices := postNotice ⟨.slotOutcome, .number slot, outcomeCode oout.code⟩ s.notices }))) ∧
        (∀ (slot : Nat) (orq : Option Nat) (h : HoldRef) (oout : OutcomeRec) (sl : Slot),
          pf.frame.continuation = .slotOutcome slot orq (some h) oout → pf.slotFreed = false → getSlot s slot = some sl →
          exec (.programComplete .completed) s = .next { s with
            control := programmedFrame slt frm prs pf.frame.number s,
            slots := tabPut s.slots slot { sl with
              state := .held, hold := some h, timer := some (holdLifeMs s), link := none, outcome := some oout },
            notices := postNotice ⟨.slotOutcome, .number slot, outcomeCode oout.code⟩ s.notices }) ∧
        (∀ (odst oreq ost tp : Nat) (opay : Payload) (tr : Track), pf.frame.continuation = .request odst oreq ost opay →
          s.station = .trading → findTrack s odst oreq = some (tp, tr) →
          (tr.orphan = none →
            exec (.programComplete .completed) s =
              .next (offeredEntry tp tr { s with control := programmedFrame slt frm prs pf.frame.number s })) ∧
          (tr.orphan.isSome = true →
            exec (.programComplete .completed) s =
              .next { s with control := programmedFrame slt frm prs pf.frame.number s })) ∧
        (∀ (slot : Nat) (orq : Option Nat) (h : HoldRef) (oout : OutcomeRec) (gp a place : Nat) (gr : Grant) (c : Card),
          pf.frame.continuation = .slotOutcome slot orq (some h) oout → pf.slotFreed = true → s.station = .trading →
          findSettled s (ownStation s) h.tag oout.card.serial h.period = some (gp, gr) →
          gr.body = .hold h.tag a .isOpen → findCard s gr.serial = some (place, c) →
          (tabGet s.requests.lives h.tag = some 0 →
            exec (.programComplete .completed) s =
              .next { s with control := programmedFrame slt frm prs pf.frame.number s }) ∧
          (tabGet s.requests.lives h.tag ≠ some 0 →
            (frameFree s = true →
              exec (.programComplete .completed) s = .next (reexamine gr.requester
                (holdEnded .holdSettle .released gp gr h.tag a place c
                  { s with control := programmedFrame slt frm prs pf.frame.number s }))) ∧
            (frameFree s = false →
              exec (.programComplete .completed) s = .next { s with
                control := programmedFrame slt frm prs pf.frame.number s,
                requests := { s.requests with lapsing := s.requests.lapsing ++ [h.tag] } })))) ∧
      (∀ (slt : Nat) (frm : Frame) (pf : PendingFrame), pr = .frame slt frm →
        (s.control.frames.find? fun k => k.slot = slt) = some pf → pf.frame.continuation = .none →
        (pf.frame.format ≠ .closeBegin → pf.frame.format ≠ .closeEnd → pf.frame.format ≠ .archiveStore →
          exec (.programComplete .completed) s = .next
            ((s.control.waits.filter fun w => w.frames.all fun k => k = pf.frame.number).foldl
              (fun u w => releaseItem w.item u)
              { s with control := { programmedFrame slt frm prs pf.frame.number s with
                waits := (s.control.waits.filter fun w => !w.frames.all fun k => k = pf.frame.number).map fun w =>
                  ⟨w.frames.filter fun k => k ≠ pf.frame.number, w.item⟩ } }) ∧
          (∀ item : HeldItem, s.control.waits = [⟨[pf.frame.number], item⟩] →
            exec (.programComplete .completed) s = .next (releaseItem item { s with
              control := { programmedFrame slt frm prs pf.frame.number s with waits := [] } }))) ∧
        (∀ ar : Nat, pf.frame.format = .archiveStore → frameArchived pf.frame = some ar → s.control.waits = [] →
          exec (.programComplete .completed) s = .next { s with
            control := programmedFrame slt frm prs pf.frame.number s,
            journal := { s.journal with
              archivedStored := ar,
              oldest := retireTo (storedEntries s.control.store) s.journal.oldest ar (lastClosed s) } })) ∧
      (s.station = .trading → itemsGoOut s) ∧
      exec (.programComplete .failedUnchanged) s = .next { s with
        station := .halted, fault := some .programFailed, link := haltLink s,
        notices := postNotice ⟨.fault, .none, 1⟩ s.notices,
        journal := { s.journal with erase := none, hidden := hiddenFrom s.control.store },
        control := ⟨s.control.store, [], s.control.frames.filter (·.stored), [], s.control.nextFrame⟩ } ∧
      exec (.programComplete .failedTorn) s = .next { s with
        station := .halted, fault := some .programFailed, link := haltLink s,
        notices := postNotice ⟨.fault, .none, 1⟩ s.notices,
        journal := { s.journal with erase := none, hidden := hiddenFrom (programTear s.control.store pr) },
        control := ⟨programTear s.control.store pr, [], s.control.frames.filter (·.stored), [], s.control.nextFrame⟩ }) ∧
    (s.station = .halted →
      exec (.programComplete .completed) s = .next { s with control := programmed pr prs s } ∧
      exec (.programComplete .failedUnchanged) s = .next { s with control := { s.control with queue := prs } } ∧
      exec (.programComplete .failedTorn) s = .next { s with control := { s.control with
        queue := prs, store := programTear s.control.store pr } })

/-- ERASE_BEGIN and ERASE_COMPLETE (R135, R138, R139, R141, R142). With no erase under way an IDLE or TRADING station takes
the first FULL block in ring order that holds no unretired entry, shows it ERASING in the control record, and erases it once
that program has completed. The erase ends with the block ERASED, its count one higher, every slot erased; at 100,000, or on
a failure, it is BAD and BLOCK_RETIRED is posted; when the control record that shows it BAD is stored and fewer than 4 blocks
are usable, the station enters HALTED with JOURNAL_WORN. A free count that leaves the reserve posts JOURNAL_CLEAR and close
begin is examined. In RECOVERING the erase of the block that was ERASING ends in the same way, with no free count to look at.
That the two commands change nothing without their occasion is log entry 1 (DESIGN CHOICE), and that a failed erase leaves
the slots as they were is log entry 8 (DESIGN CHOICE). Model's choices and inferences in it: log entries 1, 8, 10, 48, 51,
54. -/
def Obligations.BlocksAreErased : Prop :=
  ∀ (s : State) (blk : Nat),
    (∀ (spent : Nat) (bk : Block), s.station = .recovering → s.journal.erase = some ⟨blk, .running spent⟩ →
      s.control.queue = [] → s.journal.blocks[blk]? = some bk →
      (bk.eraseCount + 1 < 100000 →
        exec (.eraseComplete true) s = .next (marksErase .eraseEnd
          (s.journal.blocks.modify blk fun k => ⟨.erased, k.eraseCount + 1⟩) none
          { s.control.store with journal := s.control.store.journal.filter fun k => k.1 / 512 ≠ blk } s)) ∧
      (bk.eraseCount + 1 = 100000 →
        exec (.eraseComplete true) s = .next { marksErase .eraseEnd
            (s.journal.blocks.modify blk fun k => ⟨.bad, k.eraseCount + 1⟩) none
            { s.control.store with journal := s.control.store.journal.filter fun k => k.1 / 512 ≠ blk } s with
          notices := postNotice ⟨.blockRetired, .number blk, 100000⟩ s.notices }) ∧
      exec (.eraseComplete false) s = .next { marksErase .eraseEnd
          (s.journal.blocks.modify blk fun k => ⟨.bad, k.eraseCount⟩) none s.control.store s with
        notices := postNotice ⟨.blockRetired, .number blk, bk.eraseCount⟩ s.notices }) ∧
    (s.station = .idle ∨ s.station = .trading →
      (s.journal.erase ≠ none ∨ usableBlocks s.journal.blocks < 4 ∨ eraseCandidate s = none →
        exec .eraseBegin s = .next s) ∧
      (s.journal.erase = none → 4 ≤ usableBlocks s.journal.blocks → eraseCandidate s = some blk →
        exec .eraseBegin s = .next (marksErase .eraseBegin (setBlockState s.journal.blocks blk .erasing)
          (some ⟨blk, .marking⟩) s.control.store s) ∧
        blockStateOf s.journal.blocks blk = .full ∧ blk < 32 ∧
        (∀ (pos : Nat) (en : JournalEntry), tabGet s.control.store.journal pos = some (.whole en) → pos / 512 = blk →
          en.index < s.journal.oldest)) ∧
      (∀ (spent : Nat) (bk : Block), s.journal.erase = some ⟨blk, .running spent⟩ → s.control.queue = [] →
        s.journal.blocks[blk]? = some bk →
        (bk.eraseCount + 1 < 100000 →
          (∀ s1 : State,
            s1 = marksErase .eraseEnd (s.journal.blocks.modify blk fun k => ⟨.erased, k.eraseCount + 1⟩) none
              { s.control.store with journal := s.control.store.journal.filter fun k => k.1 / 512 ≠ blk } s →
            (512 < freeCount s.journal ∨ freeCount s1.journal ≤ 512 → exec (.eraseComplete true) s = .next s1) ∧
            (freeCount s.journal ≤ 512 → 512 < freeCount s1.journal →
              exec (.eraseComplete true) s = .next (examineBegin { s1 with
                notices := postNotice ⟨.journalClear, .none, freeCount s1.journal⟩ s.notices })))) ∧
        (512 < freeCount s.journal → bk.eraseCount + 1 = 100000 →
          exec (.eraseComplete true) s = .next { marksErase .eraseEnd
              (s.journal.blocks.modify blk fun k => ⟨.bad, k.eraseCount + 1⟩) none
              { s.control.store with journal := s.control.store.journal.filter fun k => k.1 / 512 ≠ blk } s with
            notices := postNotice ⟨.blockRetired, .number blk, 100000⟩ s.notices }) ∧
        (512 < freeCount s.journal →
          exec (.eraseComplete false) s = .next { marksErase .eraseEnd
              (s.journal.blocks.modify blk fun k => ⟨.bad, k.eraseCount⟩) none s.control.store s with
            notices := postNotice ⟨.blockRetired, .number blk, bk.eraseCount⟩ s.notices })) ∧
      ((s.journal.erase.all fun k => k.phase = .marking) = true ∨ s.control.queue ≠ [] →
        ∀ ok : Bool, exec (.eraseComplete ok) s = .next s) ∧
      (∀ (pr : Program) (prs : List Program) (copyB : Bool) (cc : ControlCopy) (use : ControlUse),
        s.control.queue = pr :: prs → pr = .control copyB cc use →
        (programmed pr prs s).store =
          (if copyB then { s.control.store with controlB := some (.whole cc) }
            else { s.control.store with controlA := some (.whole cc) }) ∧
        (use = .eraseBegin → s.journal.erase = some ⟨blk, .marking⟩ →
          exec (.programComplete .completed) s = .next { s with
            control := programmed pr prs s, journal := { s.journal with erase := some ⟨blk, .running 0⟩ } }) ∧
        (use = .frame ∨ (use = .eraseEnd ∧ 4 ≤ usableBlocks s.journal.blocks) →
          exec (.programComplete .completed) s = .next { s with control := programmed pr prs s }) ∧
        (use = .eraseEnd → usableBlocks s.journal.blocks < 4 →
          exec (.programComplete .completed) s = .next { s with
            station := .halted, fault := some .journalWorn, link := haltLink s,
            notices := postNotice ⟨.fault, .none, 3⟩ s.notices,
            journal := { s.journal with erase := none, hidden := hiddenFrom s.control.store },
            control := ⟨(programmed pr prs s).store, [], s.control.frames.filter (·.stored), [],
              s.control.nextFrame⟩ })))

/-- RESET, RESET_RELEASE and RECOVERY_END, and PROGRAM_COMPLETE in RECOVERING (R6, R20, R43, R87, R112, R142, R168, R172 to
R175). A reset leaves the store, but for the place of a program under way, which is torn, and puts everything else at its
reset value. The release takes the part to RECOVERING, and a block the control record shows ERASING is marked to be erased
first. Once there is none, or its end is stored, the scan finds the write point and block states, and the programs are queued
that clear a torn frame slot and complete the stored frames in frame-number order, a journal entry found whole not again. The
control record is written again with the block states and erase counts recovery has (log entry 15). A program that fails
stops recovery with RECOVERY_FAILED, and the journal is scanned again from the control record as the store has it; a done
mark takes its frame's continuation as owed. The end of recovery builds the working copy from the store, the next index above
every stored one, posts or keeps what is owed in order, and takes the station to IDLE; a fault found, or a record left torn,
takes it to HALTED, where the frames left STORED are counted as pending (log entry 53). That RECOVERY_END outside RECOVERING
changes nothing is log entry 1 (DESIGN CHOICE), and a release in another state log entry 6; what an erase cut off by a reset
leaves in its block, log entry 50. Model's choices and inferences in it: log entries 1, 6, 7, 10, 14 to 16, 26, 27, 29, 46,
47, 50, 52 to 54. -/
def Obligations.ResetThenRecovery : Prop :=
  ∀ s : State,
    (s.control.queue = [] →
      exec .reset s = .next { State.reset with
        station := .held, journal := .blank, recovery := none, control := ⟨s.control.store, [], [], [], 1⟩,
        pending := s.pending }) ∧
    (∀ (pr : Program) (prs : List Program), s.control.queue = pr :: prs →
      exec .reset s = .next { State.reset with
        station := .held, journal := .blank, recovery := none,
        control := ⟨programTear s.control.store pr, [], [], [], 1⟩, pending := s.pending }) ∧
    exec .resetRelease { State.reset with station := .held, journal := .blank, recovery := none } = .next State.reset ∧
    (s.station ≠ .held → exec .resetRelease s = .next s) ∧
    (s.station = .held →
      ∃ t, exec .resetRelease s = .next t ∧ t.station = .recovering ∧ t.control.store = s.control.store ∧
        t.custody = s.custody ∧ t.requests = s.requests ∧ t.positions = s.positions ∧ t.port = s.port ∧
        t.journal.archived = (takenCopy s.control.store).1.content.archived ∧
        t.journal.next = (takenCopy s.control.store).1.content.next ∧
        t.journal.oldest = (takenCopy s.control.store).1.content.oldest) ∧
    (∀ rcv : Recovery, s.station = .recovering → s.recovery = some rcv → rcv.phase = .completing → s.control.queue = [] →
      s.journal.erase = none →
      (rcv.fault = none → recordTorn s.control.store = false →
        ∃ t, exec .recoveryEnd s = .next t ∧ t.station = .idle ∧ t.fault = s.fault ∧ t.recovery = none ∧
          t.ident = wholeCell s.control.store.identity ∧ t.custody.cards = wholeTab s.control.store.cards ∧
          t.custody.locks = wholeTab s.control.store.locks ∧
          t.custody.liability = tabSum (fun k => k.available + k.held) t.custody.cards ∧
          t.requests = ⟨wholeTab s.control.store.grants, [], [], []⟩ ∧
          t.tracker.entries = tabMap restoredTrack (wholeTab s.control.store.trackers) ∧
          t.positions.gen = (wholeCell s.control.store.gen).getD .blank ∧
          t.positions.target = openPeriod t - 1 ∧ t.positions.view = none ∧
          t.journal = { s.journal with
            next := t.journal.next,
            oldest := retireTo (storedEntries s.control.store) (takenCopy s.control.store).1.content.oldest
              (takenCopy s.control.store).1.content.archived (lastClosed t),
            archived := (takenCopy s.control.store).1.content.archived,
            archivedStored := (takenCopy s.control.store).1.content.archived } ∧
          (takenCopy s.control.store).1.content.next ≤ t.journal.next ∧
          (s.control.store.journal.all fun k => match k.2 with
            | .whole en => blockStateOf s.journal.blocks (k.1 / 512) = .bad || en.index < t.journal.next
            | .torn => true) = true ∧
          (t.journal.next ≤ 1 ∨ t.journal.next = (takenCopy s.control.store).1.content.next ∨
            (s.control.store.journal.any fun k => match k.2 with
              | .whole en => blockStateOf s.journal.blocks (k.1 / 512) ≠ .bad && t.journal.next = en.index + 1
              | .torn => false) = true) ∧
          t.cursors.mark = t.journal.archived ∧ t.leftStored = s.leftStored ∧
          t.control.store = s.control.store ∧ t.control.nextFrame = highestFrame s.control.store + 1 ∧
          t.link = { s.link with owed := s.link.owed ++ rcv.owed.filter isOwedFrame } ∧
          t.notices = (if freeCount s.journal ≤ 512 then
              postNotice ⟨.journalReserve, .none, freeCount s.journal⟩ (rcv.owed.foldl owedNotice s.notices)
            else rcv.owed.foldl owedNotice s.notices) ∧
          (rcv.owed = [] → 512 < freeCount s.journal → t.notices = s.notices ∧ t.link = s.link) ∧
          (∀ (slot : Nat) (orq : Option Nat) (oh : Option HoldRef) (oout : OutcomeRec),
            rcv.owed = [.slotOutcome slot orq oh oout] → 512 < freeCount s.journal →
            t.notices = postNotice ⟨.resolved, .work orq oout.card, outcomeCode oout.code⟩ s.notices ∧ t.link = s.link) ∧
          (rcv.owed = [] → freeCount s.journal ≤ 512 →
            t.notices = postNotice ⟨.journalReserve, .none, freeCount s.journal⟩ s.notices)) ∧
      (∀ code : FaultCode, rcv.fault = some code ∨ (rcv.fault = none ∧ recordTorn s.control.store = true ∧
          code = .recoveryFailed) →
        ∃ t, exec .recoveryEnd s = .next t ∧ t.station = .halted ∧ t.fault = some code ∧ t.recovery = none ∧
          t.custody.cards = wholeTab s.control.store.cards ∧ t.control.store = s.control.store ∧
          t.leftStored = framesLeft s.control.store ∧
          t.notices = postNotice ⟨.fault, .none, faultCodeOf (some code)⟩ s.notices)) ∧
    (s.station ≠ .recovering → exec .recoveryEnd s = .next s) ∧
    (∀ (rcv : Recovery) (pr : Program) (prs : List Program), s.station = .recovering → s.recovery = some rcv →
      s.control.queue = pr :: prs →
      (∀ (tg : Target) (pos slt : Nat) (en : JournalEntry) (copyB : Bool) (cc : ControlCopy),
        pr = .target tg ∨ pr = .entry pos en ∨ pr = .clearFrame slt ∨ pr = .control copyB cc .frame →
        exec (.programComplete .completed) s = .next { s with control := programmed pr prs s }) ∧
      (∀ (slt : Nat) (frm : Frame), pr = .done slt → tabGet s.control.store.frames slt = some (.stored frm) →
        exec (.programComplete .completed) s = .next { s with
          control := programmed pr prs s,
          recovery := some { rcv with
            owed := rcv.owed ++ (if frm.continuation = .none then [] else [frm.continuation]) } }) ∧
      (∀ (copyB : Bool) (cc : ControlCopy) (blk : Nat), pr = .control copyB cc .eraseBegin →
        s.journal.erase = some ⟨blk, .marking⟩ →
        exec (.programComplete .completed) s = .next { s with
          control := programmed pr prs s, journal := { s.journal with erase := some ⟨blk, .running 0⟩ } }) ∧
      recoveryBreaksOff (.programComplete .failedUnchanged) rcv s.control.store s ∧
      recoveryBreaksOff (.programComplete .failedTorn) rcv (programTear s.control.store pr) s) ∧
    (∀ blk : Nat, s.station = .held → erasingBlock (takenCopy s.control.store).1.content.blocks = some blk →
      exec .resetRelease s = .next (marksErase .eraseBegin
        (setBlockState (takenCopy s.control.store).1.content.blocks blk .erasing) (some ⟨blk, .marking⟩) s.control.store
        (controlRead s))) ∧
    (∀ (rcv : Recovery) (prs : List Program) (copyB : Bool) (cc : ControlCopy), s.station = .recovering →
      s.recovery = some rcv → s.journal.erase = none → s.control.queue = .control copyB cc .eraseEnd :: prs →
      recoveryGoesOn (.programComplete .completed) rcv s
        { s with control := programmed (.control copyB cc .eraseEnd) prs s }) ∧
    (s.station = .held → erasingBlock (takenCopy s.control.store).1.content.blocks = none →
      recoveryGoesOn .resetRelease ⟨.erasing, none, []⟩ s (controlRead s) ∧
      (∀ (slt : Nat) (frm : Frame) (en : JournalEntry), framesAtFault s.control.store = false →
        storedFrames s.control.store = [(slt, frm)] →
        frm.writeBacks = [⟨true, .journal [en]⟩] → tornSlots s.control.store = [] → s.control.queue = [] →
        s.control.store.controlA = none → s.control.store.controlB = none →
        ∃ t, exec .resetRelease s = .next t ∧
          (s.control.store.journal = [] → t.control.queue = [.entry 0 en, .done slt]) ∧
          (s.control.store.journal = [(0, .whole en)] → t.control.queue = [.done slt]) ∧
          (s.control.store.journal = [(0, .torn)] → t.control.queue = [.entry 1 en, .done slt])))

/-! ### Laws of the whole part -/

/-- The state after reset meets every law of the part. Model's choices and inferences in it: log entries 6, 7, 53. -/
def Obligations.ResetMeetsEveryLaw : Prop :=
  Bounded State.reset ∧ TablesLaw State.reset ∧ RoomLaw State.reset ∧ FrameLaw State.reset ∧ LinkLaw State.reset ∧
    StationLaw State.reset ∧
    CloseLaw State.reset ∧ CustodyLaw State.reset ∧ State.reset.station = .recovering ∧ State.reset.pending = [] ∧
    State.reset.control.store = .blank ∧ State.reset.notices.mask = 7 ∧ noticeLow State.reset = false

/-- Every step keeps the transmit and receive queues, the notice queue, the mask and the frame area within their room,
pending frames in frame-number order on frame slots of their own, and the places of the store and of the working tables
strictly rising (R47, R54, R157, R160, R161, R177, R178). Every step but the end of recovery, which takes its places from the
store, also keeps the card records, the request table with its OPEN holds, the till slots and the tracker within their places
(R1, R23, R64, R66), as long as the last closed period does not fall. -/
def Obligations.AreasKeepRoomAndForm : Prop :=
  ∀ s t : State, step s = .next t → TablesLaw s →
    (Bounded s → FrameLaw s → Bounded t ∧ TablesLaw t ∧ FrameLaw t) ∧
    (RoomLaw s → s.pending.head? ≠ some .recoveryEnd → lastClosed s ≤ lastClosed t → RoomLaw t)

/-- Every step keeps the link, the fault code, START's values and the close view in step with the station state and the
generation record, and frames that a recovery left STORED are counted in HALTED alone (R63, R89, R94, R98, R106, R110, R167,
R169, R171, R172). Model's choices and inferences in it: log entry 53. -/
def Obligations.StationLinkAndCloseAgree : Prop :=
  ∀ s t : State, LinkLaw s → StationLaw s → CloseLaw s → step s = .next t → LinkLaw t ∧ StationLaw t ∧ CloseLaw t

/-- Every step keeps the custody law: the liability is the sum of available and held over the records, and each record's held
and open-hold count are those of its OPEN holds (R1, R2, R6). The end of recovery, which takes records as the store holds
them, and the step that closes a period are left out. -/
def Obligations.CustodyStaysInBalance : Prop :=
  ∀ s t : State, CustodyLaw s → step s = .next t → s.pending.head? ≠ some .recoveryEnd → lastClosed t = lastClosed s →
    CustodyLaw t

/-- HALTED is left only by a reset, and until then its records, and the count of frames a recovery left STORED, stay as they
are (R88, R113, R171). Only the end of a program, the end of an erase and a reset change the store (R158). Only ISSUE, TOPUP,
REFUND, COMPLETE, a CREDIT_REQ, a SETTLE_REQ, a reset and the end of recovery change the liability (R6). Model's choices and
inferences in it: log entry 53. -/
def Obligations.OnlySomeCommandsReachTheRecords : Prop :=
  ∀ (c : Instr) (s t : State), exec c s = .next t →
    (s.station = .halted → c ≠ .reset →
      t.station = .halted ∧ t.fault = s.fault ∧ t.leftStored = s.leftStored ∧ sameRecords s t) ∧
    ((∀ result, c ≠ .programComplete result) → (∀ ok, c ≠ .eraseComplete ok) → c ≠ .reset →
      t.control.store = s.control.store) ∧
    ((∀ slot amount rel ref, c ≠ .issue slot amount rel ref) →
      (∀ kind slot card amount ref, c ≠ creditCommand kind slot card amount ref) →
      (∀ slot amount, c ≠ .complete slot amount) → c ≠ .creditReq → c ≠ .settleReq → c ≠ .reset → c ≠ .recoveryEnd →
      t.custody.liability = s.custody.liability)

/-! ### Arithmetic -/

/-- The percentage fee is the basis times the rate over 10,000, with whole quotient q and remainder r, rounded to the nearest
unit, a half to the even one, with the values at the ends of the rate (R118). The fee is the smaller of the percentage fee
plus the fixed fee for each counted transaction, and the basis (R119). The basis is never negative, and two rows whose
figures agree crosswise have opposite nets (R104, R115, R116). The statement head's basis is the larger of 0 and the sums of
RA and RO less those of FA and FO, its count the sum of KA and KO, over all counterpart rows and the own row (R116, R117),
and its fee is the fee of that basis and count at START's rate and fixed fee (R119). The payout is the sum of the nets of the
CONFIRMED rows less the fee, the withheld sum that of the DISPUTED and SILENT rows (R120), and neither leaves the range R121
gives it. -/
def Obligations.ClearingArithmetic : Prop :=
  ∀ basis rate count fixedFee : Nat,
    2 * (basis * rate) ≤ 20000 * percentageFee basis rate + 10000 ∧
    20000 * percentageFee basis rate ≤ 2 * (basis * rate) + 10000 ∧
    (2 * (basis * rate) = 20000 * percentageFee basis rate + 10000 ∨
      20000 * percentageFee basis rate = 2 * (basis * rate) + 10000 → percentageFee basis rate % 2 = 0) ∧
    (∀ q r : Nat, basis * rate = 10000 * q + r → r < 10000 →
      percentageFee basis rate =
        if r ≤ 4999 then q else if r = 5000 then (if q % 2 = 0 then q else q + 1) else q + 1) ∧
    percentageFee basis 0 = 0 ∧
    (basis ≤ 62999999999937 → rate ≤ 1000 →
      basis * rate ≤ 62999999999937000 ∧ percentageFee basis rate ≤ 6299999999994) ∧
    feeOf basis rate count fixedFee = min (percentageFee basis rate + count * fixedFee) basis ∧
    feeOf basis rate count fixedFee ≤ basis ∧ feeOf 0 rate count fixedFee = 0 ∧
    (∀ red ret : Nat, feeBasis red ret = if ret ≤ red then red - ret else 0) ∧
    (∀ ours theirs : Figures, figuresAgree ours theirs = true → rowNet ours + rowNet theirs = 0) ∧
    (∀ f : Figures, figuresInRange f = true → -2999999999997 ≤ rowNet f ∧ rowNet f ≤ 2999999999997) ∧
    (∀ (s : State) (v : CloseView),
      (statementHead s v).payout = (((counterparts s).filter fun j => (closeRow v j).state = .confirmed).map fun j =>
        ((closingRow s j).fig.ra + (closingRow s j).fig.ti + (closingRow s j).fig.fi : Int)
          - ((closingRow s j).fig.ta + (closingRow s j).fig.fa + (closingRow s j).fig.ri)).sum - (statementHead s v).fee ∧
      (statementHead s v).withheld = (((counterparts s).filter fun j =>
          (closeRow v j).state = .disputed ∨ (closeRow v j).state = .silent).map fun j =>
        ((closingRow s j).fig.ra + (closingRow s j).fig.ti + (closingRow s j).fig.fi : Int)
          - ((closingRow s j).fig.ta + (closingRow s j).fig.fa + (closingRow s j).fig.ri)).sum ∧
      (statementHead s v).fee ≤ (statementHead s v).basis ∧
      ((statementHead s v).basis : Int) = max 0
        ((((counterparts s).map fun j => (closingRow s j).fig.ra).sum + (closingRow s (ownStation s)).own.ro : Int)
          - (((counterparts s).map fun j => (closingRow s j).fig.fa).sum + (closingRow s (ownStation s)).own.fo)) ∧
      (statementHead s v).count =
        ((counterparts s).map fun j => (closingRow s j).ka).sum + (closingRow s (ownStation s)).own.ko ∧
      (∀ k : StartConf, s.conf = some k → (statementHead s v).fee = min
        (percentageFee (statementHead s v).basis k.feeRate + (statementHead s v).count * k.fixedFee)
        (statementHead s v).basis) ∧
      counterparts s = ((List.range 64).filter fun j => 1 ≤ j ∧ j ≠ ownStation s) ∧
      (1 ≤ ownStation s → ownStation s ≤ 63 → ((counterparts s).all fun j => figuresInRange (closingRow s j).fig) = true →
        (closingRow s (ownStation s)).own.ro ≤ 999999999999 →
        -248999999999751 ≤ (statementHead s v).payout ∧ (statementHead s v).payout ≤ 185999999999814 ∧
        -185999999999814 ≤ (statementHead s v).withheld ∧ (statementHead s v).withheld ≤ 185999999999814))

/-- A stamp is extended to the one number with that remainder by 256 from 128 below the open period to 127 above it (R56),
and the stamp of a period that near is extended to that period. A frame handed over in TRADING whose stamp extends beyond the
open period first raises the close target to one below it, when that is above the target held, which offers a PRESENCE and
examines close begin; then it is served as in the state so reached (R57, R94). A HOLD_REQ or CREDIT_REQ that raises nothing
still begins a close that can begin, and is served in the new period (R13, R26, R96). A raise beyond 16,777,215 is taken as
it is (log entry 43). Model's choices and inferences in it: log entries 9, 43. -/
def Obligations.StampsExtendToTheNearestPeriod : Prop :=
  (∀ (o : Nat) (stamp : Nat), stamp < 256 →
     extendStamp o stamp % 256 = stamp ∧ (o : Int) - 128 ≤ extendStamp o stamp ∧ extendStamp o stamp ≤ o + 127 ∧
     (∀ z : Int, z % 256 = stamp → (o : Int) - 128 ≤ z → z ≤ o + 127 → z = extendStamp o stamp) ∧
     (∀ p : Nat, o ≤ p + 128 → p ≤ o + 127 → extendStamp o (stampOf p) = p)) ∧
  (∀ (s : State) (f : LinkFrame) (rest : List LinkFrame), s.station = .trading → s.link.rx = f :: rest →
     isPresence f.payload = false → openPeriod s < extendStamp (openPeriod s) f.stamp →
     (s.positions.target + 1 < extendStamp (openPeriod s) f.stamp →
       exec (handOverOf f.payload) s = exec (handOverOf f.payload) (examineBegin (offerPresence { s with
         positions := { s.positions with target := (extendStamp (openPeriod s) f.stamp - 1).toNat } }))) ∧
     (extendStamp (openPeriod s) f.stamp ≤ s.positions.target + 1 → (f.payload.asksPeriod = true) →
       exec (handOverOf f.payload) s = exec (handOverOf f.payload) (examineBegin s))) ∧
  (∀ s : State, s.station = .trading → s.positions.gen.closing = false → openPeriod s ≤ s.positions.target →
     openPeriod s < 16777215 → 512 < freeCount s.journal → frameFree s = true →
     openPeriod (examineBegin s) = openPeriod s + 1 ∧ (examineBegin s).link.rx = s.link.rx ∧
     (examineBegin s).custody = s.custody ∧ (examineBegin s).requests = s.requests) ∧
  (∀ s : State, s.station ≠ .trading ∨ noCloseCanBegin s → examineBegin s = s)
end

