-- ==== Sys2Proof/Laws/State.lean ====
section
/-! SUPPORT. What each operation leaves alone: for every operation over State, the fields it does not touch, so that no later proof
unfolds a record update. -/

namespace Sys2Proof.Machine

/-! ### Plain updates -/

@[simp] theorem reply_frame (bytes : List Byte) (s : State) :
    (reply bytes s).station = s.station ∧ (reply bytes s).fault = s.fault ∧ (reply bytes s).conf = s.conf ∧
    (reply bytes s).ident = s.ident ∧ (reply bytes s).custody = s.custody ∧ (reply bytes s).requests = s.requests ∧
    (reply bytes s).link = s.link ∧ (reply bytes s).slots = s.slots ∧ (reply bytes s).tracker = s.tracker ∧
    (reply bytes s).positions = s.positions ∧ (reply bytes s).journal = s.journal ∧
    (reply bytes s).cursors = s.cursors ∧ (reply bytes s).notices = s.notices ∧ (reply bytes s).control = s.control ∧
    (reply bytes s).recovery = s.recovery ∧ (reply bytes s).leftStored = s.leftStored ∧
    (reply bytes s).pending = s.pending :=
  ⟨rfl, rfl, rfl, rfl, rfl, rfl, rfl, rfl, rfl, rfl, rfl, rfl, rfl, rfl, rfl, rfl, rfl⟩

@[simp] theorem refuse_frame (p : PortStatus) (s : State) :
    (refuse p s).station = s.station ∧ (refuse p s).fault = s.fault ∧ (refuse p s).conf = s.conf ∧
    (refuse p s).ident = s.ident ∧ (refuse p s).custody = s.custody ∧ (refuse p s).requests = s.requests ∧
    (refuse p s).link = s.link ∧ (refuse p s).slots = s.slots ∧ (refuse p s).tracker = s.tracker ∧
    (refuse p s).positions = s.positions ∧ (refuse p s).journal = s.journal ∧ (refuse p s).cursors = s.cursors ∧
    (refuse p s).notices = s.notices ∧ (refuse p s).control = s.control ∧ (refuse p s).recovery = s.recovery ∧
    (refuse p s).leftStored = s.leftStored ∧ (refuse p s).pending = s.pending :=
  ⟨rfl, rfl, rfl, rfl, rfl, rfl, rfl, rfl, rfl, rfl, rfl, rfl, rfl, rfl, rfl, rfl, rfl⟩

@[simp] theorem accepted_frame (fields : List Byte) (s : State) :
    (accepted fields s).station = s.station ∧ (accepted fields s).fault = s.fault ∧
    (accepted fields s).conf = s.conf ∧ (accepted fields s).ident = s.ident ∧
    (accepted fields s).custody = s.custody ∧ (accepted fields s).requests = s.requests ∧
    (accepted fields s).link = s.link ∧ (accepted fields s).slots = s.slots ∧
    (accepted fields s).tracker = s.tracker ∧ (accepted fields s).positions = s.positions ∧
    (accepted fields s).journal = s.journal ∧ (accepted fields s).cursors = s.cursors ∧
    (accepted fields s).notices = s.notices ∧ (accepted fields s).control = s.control ∧
    (accepted fields s).recovery = s.recovery ∧ (accepted fields s).leftStored = s.leftStored ∧
    (accepted fields s).pending = s.pending :=
  ⟨rfl, rfl, rfl, rfl, rfl, rfl, rfl, rfl, rfl, rfl, rfl, rfl, rfl, rfl, rfl, rfl, rfl⟩

@[simp] theorem withSession_frame (x : Session) (s : State) :
    (withSession x s).station = s.station ∧ (withSession x s).fault = s.fault ∧ (withSession x s).conf = s.conf ∧
    (withSession x s).ident = s.ident ∧ (withSession x s).custody = s.custody ∧
    (withSession x s).requests = s.requests ∧ (withSession x s).link = s.link ∧ (withSession x s).slots = s.slots ∧
    (withSession x s).tracker = s.tracker ∧ (withSession x s).positions = s.positions ∧
    (withSession x s).journal = s.journal ∧ (withSession x s).cursors = s.cursors ∧
    (withSession x s).notices = s.notices ∧ (withSession x s).control = s.control ∧
    (withSession x s).recovery = s.recovery ∧ (withSession x s).leftStored = s.leftStored ∧
    (withSession x s).pending = s.pending :=
  ⟨rfl, rfl, rfl, rfl, rfl, rfl, rfl, rfl, rfl, rfl, rfl, rfl, rfl, rfl, rfl, rfl, rfl⟩

@[simp] theorem sampleProtect_frame (level : Bool) (s : State) :
    (sampleProtect level s).station = s.station ∧ (sampleProtect level s).fault = s.fault ∧
    (sampleProtect level s).conf = s.conf ∧ (sampleProtect level s).ident = s.ident ∧
    (sampleProtect level s).custody = s.custody ∧ (sampleProtect level s).requests = s.requests ∧
    (sampleProtect level s).link = s.link ∧ (sampleProtect level s).slots = s.slots ∧
    (sampleProtect level s).tracker = s.tracker ∧ (sampleProtect level s).positions = s.positions ∧
    (sampleProtect level s).journal = s.journal ∧ (sampleProtect level s).cursors = s.cursors ∧
    (sampleProtect level s).notices = s.notices ∧ (sampleProtect level s).control = s.control ∧
    (sampleProtect level s).recovery = s.recovery ∧ (sampleProtect level s).leftStored = s.leftStored ∧
    (sampleProtect level s).pending = s.pending :=
  ⟨rfl, rfl, rfl, rfl, rfl, rfl, rfl, rfl, rfl, rfl, rfl, rfl, rfl, rfl, rfl, rfl, rfl⟩

@[simp] theorem post_frame (k : NoticeKind) (x : Subject) (c : Nat) (s : State) :
    (post k x c s).station = s.station ∧ (post k x c s).fault = s.fault ∧ (post k x c s).conf = s.conf ∧
    (post k x c s).ident = s.ident ∧ (post k x c s).custody = s.custody ∧ (post k x c s).requests = s.requests ∧
    (post k x c s).link = s.link ∧ (post k x c s).slots = s.slots ∧ (post k x c s).tracker = s.tracker ∧
    (post k x c s).positions = s.positions ∧ (post k x c s).journal = s.journal ∧
    (post k x c s).cursors = s.cursors ∧ (post k x c s).control = s.control ∧ (post k x c s).recovery = s.recovery ∧
    (post k x c s).leftStored = s.leftStored ∧ (post k x c s).port = s.port ∧ (post k x c s).pending = s.pending :=
  ⟨rfl, rfl, rfl, rfl, rfl, rfl, rfl, rfl, rfl, rfl, rfl, rfl, rfl, rfl, rfl, rfl, rfl⟩

@[simp] theorem addWait_frame (ns : List Nat) (i : HeldItem) (s : State) :
    (addWait ns i s).station = s.station ∧ (addWait ns i s).fault = s.fault ∧ (addWait ns i s).conf = s.conf ∧
    (addWait ns i s).ident = s.ident ∧ (addWait ns i s).custody = s.custody ∧
    (addWait ns i s).requests = s.requests ∧ (addWait ns i s).link = s.link ∧ (addWait ns i s).slots = s.slots ∧
    (addWait ns i s).tracker = s.tracker ∧ (addWait ns i s).positions = s.positions ∧
    (addWait ns i s).journal = s.journal ∧ (addWait ns i s).cursors = s.cursors ∧
    (addWait ns i s).notices = s.notices ∧ (addWait ns i s).recovery = s.recovery ∧
    (addWait ns i s).leftStored = s.leftStored ∧ (addWait ns i s).port = s.port ∧
    (addWait ns i s).pending = s.pending :=
  ⟨rfl, rfl, rfl, rfl, rfl, rfl, rfl, rfl, rfl, rfl, rfl, rfl, rfl, rfl, rfl, rfl, rfl⟩

@[simp] theorem putSlot_frame (n : Nat) (sl : Slot) (s : State) :
    (putSlot n sl s).station = s.station ∧ (putSlot n sl s).fault = s.fault ∧ (putSlot n sl s).conf = s.conf ∧
    (putSlot n sl s).ident = s.ident ∧ (putSlot n sl s).custody = s.custody ∧
    (putSlot n sl s).requests = s.requests ∧ (putSlot n sl s).link = s.link ∧ (putSlot n sl s).tracker = s.tracker ∧
    (putSlot n sl s).positions = s.positions ∧ (putSlot n sl s).journal = s.journal ∧
    (putSlot n sl s).cursors = s.cursors ∧ (putSlot n sl s).notices = s.notices ∧
    (putSlot n sl s).control = s.control ∧ (putSlot n sl s).recovery = s.recovery ∧
    (putSlot n sl s).leftStored = s.leftStored ∧ (putSlot n sl s).port = s.port ∧
    (putSlot n sl s).pending = s.pending :=
  ⟨rfl, rfl, rfl, rfl, rfl, rfl, rfl, rfl, rfl, rfl, rfl, rfl, rfl, rfl, rfl, rfl, rfl⟩

@[simp] theorem freeSlot_frame (n : Nat) (s : State) :
    (freeSlot n s).station = s.station ∧ (freeSlot n s).fault = s.fault ∧ (freeSlot n s).conf = s.conf ∧
    (freeSlot n s).ident = s.ident ∧ (freeSlot n s).custody = s.custody ∧ (freeSlot n s).requests = s.requests ∧
    (freeSlot n s).link = s.link ∧ (freeSlot n s).tracker = s.tracker ∧ (freeSlot n s).positions = s.positions ∧
    (freeSlot n s).journal = s.journal ∧ (freeSlot n s).cursors = s.cursors ∧ (freeSlot n s).notices = s.notices ∧
    (freeSlot n s).control = s.control ∧ (freeSlot n s).recovery = s.recovery ∧
    (freeSlot n s).leftStored = s.leftStored ∧ (freeSlot n s).port = s.port ∧ (freeSlot n s).pending = s.pending :=
  ⟨rfl, rfl, rfl, rfl, rfl, rfl, rfl, rfl, rfl, rfl, rfl, rfl, rfl, rfl, rfl, rfl, rfl⟩

@[simp] theorem putCard_frame (p : Nat) (c : Card) (s : State) :
    (putCard p c s).station = s.station ∧ (putCard p c s).fault = s.fault ∧ (putCard p c s).conf = s.conf ∧
    (putCard p c s).ident = s.ident ∧ (putCard p c s).requests = s.requests ∧ (putCard p c s).link = s.link ∧
    (putCard p c s).slots = s.slots ∧ (putCard p c s).tracker = s.tracker ∧ (putCard p c s).positions = s.positions ∧
    (putCard p c s).journal = s.journal ∧ (putCard p c s).cursors = s.cursors ∧ (putCard p c s).notices = s.notices ∧
    (putCard p c s).control = s.control ∧ (putCard p c s).recovery = s.recovery ∧
    (putCard p c s).leftStored = s.leftStored ∧ (putCard p c s).port = s.port ∧ (putCard p c s).pending = s.pending :=
  ⟨rfl, rfl, rfl, rfl, rfl, rfl, rfl, rfl, rfl, rfl, rfl, rfl, rfl, rfl, rfl, rfl, rfl⟩

@[simp] theorem raiseLiability_frame (a : Nat) (s : State) :
    (raiseLiability a s).station = s.station ∧ (raiseLiability a s).fault = s.fault ∧
    (raiseLiability a s).conf = s.conf ∧ (raiseLiability a s).ident = s.ident ∧
    (raiseLiability a s).requests = s.requests ∧ (raiseLiability a s).link = s.link ∧
    (raiseLiability a s).slots = s.slots ∧ (raiseLiability a s).tracker = s.tracker ∧
    (raiseLiability a s).positions = s.positions ∧ (raiseLiability a s).journal = s.journal ∧
    (raiseLiability a s).cursors = s.cursors ∧ (raiseLiability a s).notices = s.notices ∧
    (raiseLiability a s).control = s.control ∧ (raiseLiability a s).recovery = s.recovery ∧
    (raiseLiability a s).leftStored = s.leftStored ∧ (raiseLiability a s).port = s.port ∧
    (raiseLiability a s).pending = s.pending :=
  ⟨rfl, rfl, rfl, rfl, rfl, rfl, rfl, rfl, rfl, rfl, rfl, rfl, rfl, rfl, rfl, rfl, rfl⟩

@[simp] theorem lowerLiability_frame (a : Nat) (s : State) :
    (lowerLiability a s).station = s.station ∧ (lowerLiability a s).fault = s.fault ∧
    (lowerLiability a s).conf = s.conf ∧ (lowerLiability a s).ident = s.ident ∧
    (lowerLiability a s).requests = s.requests ∧ (lowerLiability a s).link = s.link ∧
    (lowerLiability a s).slots = s.slots ∧ (lowerLiability a s).tracker = s.tracker ∧
    (lowerLiability a s).positions = s.positions ∧ (lowerLiability a s).journal = s.journal ∧
    (lowerLiability a s).cursors = s.cursors ∧ (lowerLiability a s).notices = s.notices ∧
    (lowerLiability a s).control = s.control ∧ (lowerLiability a s).recovery = s.recovery ∧
    (lowerLiability a s).leftStored = s.leftStored ∧ (lowerLiability a s).port = s.port ∧
    (lowerLiability a s).pending = s.pending :=
  ⟨rfl, rfl, rfl, rfl, rfl, rfl, rfl, rfl, rfl, rfl, rfl, rfl, rfl, rfl, rfl, rfl, rfl⟩

@[simp] theorem putGrant_frame (p : Nat) (g : Grant) (s : State) :
    (putGrant p g s).station = s.station ∧ (putGrant p g s).fault = s.fault ∧ (putGrant p g s).conf = s.conf ∧
    (putGrant p g s).ident = s.ident ∧ (putGrant p g s).custody = s.custody ∧ (putGrant p g s).link = s.link ∧
    (putGrant p g s).slots = s.slots ∧ (putGrant p g s).tracker = s.tracker ∧
    (putGrant p g s).positions = s.positions ∧ (putGrant p g s).journal = s.journal ∧
    (putGrant p g s).cursors = s.cursors ∧ (putGrant p g s).notices = s.notices ∧
    (putGrant p g s).control = s.control ∧ (putGrant p g s).recovery = s.recovery ∧
    (putGrant p g s).leftStored = s.leftStored ∧ (putGrant p g s).port = s.port ∧
    (putGrant p g s).pending = s.pending :=
  ⟨rfl, rfl, rfl, rfl, rfl, rfl, rfl, rfl, rfl, rfl, rfl, rfl, rfl, rfl, rfl, rfl, rfl⟩

@[simp] theorem undefer_frame (t : Nat) (s : State) :
    (undefer t s).station = s.station ∧ (undefer t s).fault = s.fault ∧ (undefer t s).conf = s.conf ∧
    (undefer t s).ident = s.ident ∧ (undefer t s).custody = s.custody ∧ (undefer t s).link = s.link ∧
    (undefer t s).slots = s.slots ∧ (undefer t s).tracker = s.tracker ∧ (undefer t s).positions = s.positions ∧
    (undefer t s).journal = s.journal ∧ (undefer t s).cursors = s.cursors ∧ (undefer t s).notices = s.notices ∧
    (undefer t s).control = s.control ∧ (undefer t s).recovery = s.recovery ∧
    (undefer t s).leftStored = s.leftStored ∧ (undefer t s).port = s.port ∧ (undefer t s).pending = s.pending :=
  ⟨rfl, rfl, rfl, rfl, rfl, rfl, rfl, rfl, rfl, rfl, rfl, rfl, rfl, rfl, rfl, rfl, rfl⟩

@[simp] theorem holdBack_frame (t : Nat) (s : State) :
    (holdBack t s).station = s.station ∧ (holdBack t s).fault = s.fault ∧ (holdBack t s).conf = s.conf ∧
    (holdBack t s).ident = s.ident ∧ (holdBack t s).custody = s.custody ∧ (holdBack t s).link = s.link ∧
    (holdBack t s).slots = s.slots ∧ (holdBack t s).tracker = s.tracker ∧ (holdBack t s).positions = s.positions ∧
    (holdBack t s).journal = s.journal ∧ (holdBack t s).cursors = s.cursors ∧ (holdBack t s).notices = s.notices ∧
    (holdBack t s).control = s.control ∧ (holdBack t s).recovery = s.recovery ∧
    (holdBack t s).leftStored = s.leftStored ∧ (holdBack t s).port = s.port ∧ (holdBack t s).pending = s.pending :=
  ⟨rfl, rfl, rfl, rfl, rfl, rfl, rfl, rfl, rfl, rfl, rfl, rfl, rfl, rfl, rfl, rfl, rfl⟩

@[simp] theorem putTrack_frame (p : Nat) (t : Track) (s : State) :
    (putTrack p t s).station = s.station ∧ (putTrack p t s).fault = s.fault ∧ (putTrack p t s).conf = s.conf ∧
    (putTrack p t s).ident = s.ident ∧ (putTrack p t s).custody = s.custody ∧
    (putTrack p t s).requests = s.requests ∧ (putTrack p t s).link = s.link ∧ (putTrack p t s).slots = s.slots ∧
    (putTrack p t s).positions = s.positions ∧ (putTrack p t s).journal = s.journal ∧
    (putTrack p t s).cursors = s.cursors ∧ (putTrack p t s).notices = s.notices ∧
    (putTrack p t s).control = s.control ∧ (putTrack p t s).recovery = s.recovery ∧
    (putTrack p t s).leftStored = s.leftStored ∧ (putTrack p t s).port = s.port ∧
    (putTrack p t s).pending = s.pending :=
  ⟨rfl, rfl, rfl, rfl, rfl, rfl, rfl, rfl, rfl, rfl, rfl, rfl, rfl, rfl, rfl, rfl, rfl⟩

@[simp] theorem delTrack_frame (p : Nat) (s : State) :
    (delTrack p s).station = s.station ∧ (delTrack p s).fault = s.fault ∧ (delTrack p s).conf = s.conf ∧
    (delTrack p s).ident = s.ident ∧ (delTrack p s).custody = s.custody ∧ (delTrack p s).requests = s.requests ∧
    (delTrack p s).link = s.link ∧ (delTrack p s).slots = s.slots ∧ (delTrack p s).positions = s.positions ∧
    (delTrack p s).journal = s.journal ∧ (delTrack p s).cursors = s.cursors ∧ (delTrack p s).notices = s.notices ∧
    (delTrack p s).control = s.control ∧ (delTrack p s).recovery = s.recovery ∧
    (delTrack p s).leftStored = s.leftStored ∧ (delTrack p s).port = s.port ∧ (delTrack p s).pending = s.pending :=
  ⟨rfl, rfl, rfl, rfl, rfl, rfl, rfl, rfl, rfl, rfl, rfl, rfl, rfl, rfl, rfl, rfl, rfl⟩

@[simp] theorem txPush_frame (f : TxFrame) (s : State) :
    (txPush f s).station = s.station ∧ (txPush f s).fault = s.fault ∧ (txPush f s).conf = s.conf ∧
    (txPush f s).ident = s.ident ∧ (txPush f s).custody = s.custody ∧ (txPush f s).requests = s.requests ∧
    (txPush f s).slots = s.slots ∧ (txPush f s).tracker = s.tracker ∧ (txPush f s).positions = s.positions ∧
    (txPush f s).journal = s.journal ∧ (txPush f s).cursors = s.cursors ∧ (txPush f s).notices = s.notices ∧
    (txPush f s).control = s.control ∧ (txPush f s).recovery = s.recovery ∧ (txPush f s).leftStored = s.leftStored ∧
    (txPush f s).port = s.port ∧ (txPush f s).pending = s.pending :=
  ⟨rfl, rfl, rfl, rfl, rfl, rfl, rfl, rfl, rfl, rfl, rfl, rfl, rfl, rfl, rfl, rfl, rfl⟩

@[simp] theorem putRoster_frame (j : Nat) (e : RosterEntry) (s : State) :
    (putRoster j e s).station = s.station ∧ (putRoster j e s).fault = s.fault ∧ (putRoster j e s).conf = s.conf ∧
    (putRoster j e s).ident = s.ident ∧ (putRoster j e s).custody = s.custody ∧
    (putRoster j e s).requests = s.requests ∧ (putRoster j e s).slots = s.slots ∧
    (putRoster j e s).tracker = s.tracker ∧ (putRoster j e s).positions = s.positions ∧
    (putRoster j e s).journal = s.journal ∧ (putRoster j e s).cursors = s.cursors ∧
    (putRoster j e s).notices = s.notices ∧ (putRoster j e s).control = s.control ∧
    (putRoster j e s).recovery = s.recovery ∧ (putRoster j e s).leftStored = s.leftStored ∧
    (putRoster j e s).port = s.port ∧ (putRoster j e s).pending = s.pending :=
  ⟨rfl, rfl, rfl, rfl, rfl, rfl, rfl, rfl, rfl, rfl, rfl, rfl, rfl, rfl, rfl, rfl, rfl⟩

@[simp] theorem hear_frame (j : Nat) (s : State) :
    (hear j s).station = s.station ∧ (hear j s).fault = s.fault ∧ (hear j s).conf = s.conf ∧
    (hear j s).ident = s.ident ∧ (hear j s).custody = s.custody ∧ (hear j s).requests = s.requests ∧
    (hear j s).slots = s.slots ∧ (hear j s).tracker = s.tracker ∧ (hear j s).positions = s.positions ∧
    (hear j s).journal = s.journal ∧ (hear j s).cursors = s.cursors ∧ (hear j s).notices = s.notices ∧
    (hear j s).control = s.control ∧ (hear j s).recovery = s.recovery ∧ (hear j s).leftStored = s.leftStored ∧
    (hear j s).port = s.port ∧ (hear j s).pending = s.pending :=
  ⟨rfl, rfl, rfl, rfl, rfl, rfl, rfl, rfl, rfl, rfl, rfl, rfl, rfl, rfl, rfl, rfl, rfl⟩

@[simp] theorem withPhase_frame (p : TxPhase) (d : List Byte) (s : State) :
    (withPhase p d s).station = s.station ∧ (withPhase p d s).fault = s.fault ∧ (withPhase p d s).conf = s.conf ∧
    (withPhase p d s).ident = s.ident ∧ (withPhase p d s).custody = s.custody ∧
    (withPhase p d s).requests = s.requests ∧ (withPhase p d s).slots = s.slots ∧
    (withPhase p d s).tracker = s.tracker ∧ (withPhase p d s).positions = s.positions ∧
    (withPhase p d s).journal = s.journal ∧ (withPhase p d s).cursors = s.cursors ∧
    (withPhase p d s).notices = s.notices ∧ (withPhase p d s).control = s.control ∧
    (withPhase p d s).recovery = s.recovery ∧ (withPhase p d s).leftStored = s.leftStored ∧
    (withPhase p d s).port = s.port ∧ (withPhase p d s).pending = s.pending :=
  ⟨rfl, rfl, rfl, rfl, rfl, rfl, rfl, rfl, rfl, rfl, rfl, rfl, rfl, rfl, rfl, rfl, rfl⟩

@[simp] theorem setView_frame (v : CloseView) (s : State) :
    (setView v s).station = s.station ∧ (setView v s).fault = s.fault ∧ (setView v s).conf = s.conf ∧
    (setView v s).ident = s.ident ∧ (setView v s).custody = s.custody ∧ (setView v s).requests = s.requests ∧
    (setView v s).link = s.link ∧ (setView v s).slots = s.slots ∧ (setView v s).tracker = s.tracker ∧
    (setView v s).journal = s.journal ∧ (setView v s).cursors = s.cursors ∧ (setView v s).notices = s.notices ∧
    (setView v s).control = s.control ∧ (setView v s).recovery = s.recovery ∧
    (setView v s).leftStored = s.leftStored ∧ (setView v s).port = s.port ∧ (setView v s).pending = s.pending :=
  ⟨rfl, rfl, rfl, rfl, rfl, rfl, rfl, rfl, rfl, rfl, rfl, rfl, rfl, rfl, rfl, rfl, rfl⟩

@[simp] theorem putCursor_frame (n : Nat) (c : Cursor) (s : State) :
    (putCursor n c s).station = s.station ∧ (putCursor n c s).fault = s.fault ∧ (putCursor n c s).conf = s.conf ∧
    (putCursor n c s).ident = s.ident ∧ (putCursor n c s).custody = s.custody ∧
    (putCursor n c s).requests = s.requests ∧ (putCursor n c s).link = s.link ∧ (putCursor n c s).slots = s.slots ∧
    (putCursor n c s).tracker = s.tracker ∧ (putCursor n c s).positions = s.positions ∧
    (putCursor n c s).journal = s.journal ∧ (putCursor n c s).notices = s.notices ∧
    (putCursor n c s).control = s.control ∧ (putCursor n c s).recovery = s.recovery ∧
    (putCursor n c s).leftStored = s.leftStored ∧ (putCursor n c s).port = s.port ∧
    (putCursor n c s).pending = s.pending :=
  ⟨rfl, rfl, rfl, rfl, rfl, rfl, rfl, rfl, rfl, rfl, rfl, rfl, rfl, rfl, rfl, rfl, rfl⟩

@[simp] theorem streamOn_frame (st : CursorStream) (i : ReadItem) (s : State) :
    (streamOn st i s).station = s.station ∧ (streamOn st i s).fault = s.fault ∧ (streamOn st i s).conf = s.conf ∧
    (streamOn st i s).ident = s.ident ∧ (streamOn st i s).custody = s.custody ∧
    (streamOn st i s).requests = s.requests ∧ (streamOn st i s).link = s.link ∧ (streamOn st i s).slots = s.slots ∧
    (streamOn st i s).tracker = s.tracker ∧ (streamOn st i s).positions = s.positions ∧
    (streamOn st i s).journal = s.journal ∧ (streamOn st i s).cursors = s.cursors ∧
    (streamOn st i s).notices = s.notices ∧ (streamOn st i s).control = s.control ∧
    (streamOn st i s).recovery = s.recovery ∧ (streamOn st i s).leftStored = s.leftStored ∧
    (streamOn st i s).pending = s.pending :=
  ⟨rfl, rfl, rfl, rfl, rfl, rfl, rfl, rfl, rfl, rfl, rfl, rfl, rfl, rfl, rfl, rfl, rfl⟩

@[simp] theorem placeControl_frame (u : ControlUse) (s : State) :
    (placeControl u s).station = s.station ∧ (placeControl u s).fault = s.fault ∧ (placeControl u s).conf = s.conf ∧
    (placeControl u s).ident = s.ident ∧ (placeControl u s).custody = s.custody ∧
    (placeControl u s).requests = s.requests ∧ (placeControl u s).link = s.link ∧
    (placeControl u s).slots = s.slots ∧ (placeControl u s).tracker = s.tracker ∧
    (placeControl u s).positions = s.positions ∧ (placeControl u s).cursors = s.cursors ∧
    (placeControl u s).notices = s.notices ∧ (placeControl u s).recovery = s.recovery ∧
    (placeControl u s).leftStored = s.leftStored ∧ (placeControl u s).port = s.port ∧
    (placeControl u s).pending = s.pending :=
  ⟨rfl, rfl, rfl, rfl, rfl, rfl, rfl, rfl, rfl, rfl, rfl, rfl, rfl, rfl, rfl, rfl⟩

@[simp] theorem queueProgram_frame (p : Program) (s : State) :
    (queueProgram p s).station = s.station ∧ (queueProgram p s).fault = s.fault ∧ (queueProgram p s).conf = s.conf ∧
    (queueProgram p s).ident = s.ident ∧ (queueProgram p s).custody = s.custody ∧
    (queueProgram p s).requests = s.requests ∧ (queueProgram p s).link = s.link ∧
    (queueProgram p s).slots = s.slots ∧ (queueProgram p s).tracker = s.tracker ∧
    (queueProgram p s).positions = s.positions ∧ (queueProgram p s).journal = s.journal ∧
    (queueProgram p s).cursors = s.cursors ∧ (queueProgram p s).notices = s.notices ∧
    (queueProgram p s).recovery = s.recovery ∧ (queueProgram p s).leftStored = s.leftStored ∧
    (queueProgram p s).port = s.port ∧ (queueProgram p s).pending = s.pending :=
  ⟨rfl, rfl, rfl, rfl, rfl, rfl, rfl, rfl, rfl, rfl, rfl, rfl, rfl, rfl, rfl, rfl, rfl⟩

@[simp] theorem markStored_frame (n : Nat) (s : State) :
    (markStored n s).station = s.station ∧ (markStored n s).fault = s.fault ∧ (markStored n s).conf = s.conf ∧
    (markStored n s).ident = s.ident ∧ (markStored n s).custody = s.custody ∧
    (markStored n s).requests = s.requests ∧ (markStored n s).link = s.link ∧ (markStored n s).slots = s.slots ∧
    (markStored n s).tracker = s.tracker ∧ (markStored n s).positions = s.positions ∧
    (markStored n s).journal = s.journal ∧ (markStored n s).cursors = s.cursors ∧
    (markStored n s).notices = s.notices ∧ (markStored n s).recovery = s.recovery ∧
    (markStored n s).leftStored = s.leftStored ∧ (markStored n s).port = s.port ∧
    (markStored n s).pending = s.pending :=
  ⟨rfl, rfl, rfl, rfl, rfl, rfl, rfl, rfl, rfl, rfl, rfl, rfl, rfl, rfl, rfl, rfl, rfl⟩

@[simp] theorem frameDone_frame (n : Nat) (s : State) :
    (frameDone n s).station = s.station ∧ (frameDone n s).fault = s.fault ∧ (frameDone n s).conf = s.conf ∧
    (frameDone n s).ident = s.ident ∧ (frameDone n s).custody = s.custody ∧ (frameDone n s).requests = s.requests ∧
    (frameDone n s).link = s.link ∧ (frameDone n s).slots = s.slots ∧ (frameDone n s).tracker = s.tracker ∧
    (frameDone n s).positions = s.positions ∧ (frameDone n s).journal = s.journal ∧
    (frameDone n s).cursors = s.cursors ∧ (frameDone n s).notices = s.notices ∧
    (frameDone n s).recovery = s.recovery ∧ (frameDone n s).leftStored = s.leftStored ∧
    (frameDone n s).port = s.port ∧ (frameDone n s).pending = s.pending :=
  ⟨rfl, rfl, rfl, rfl, rfl, rfl, rfl, rfl, rfl, rfl, rfl, rfl, rfl, rfl, rfl, rfl, rfl⟩

@[simp] theorem retire_frame (s : State) :
    (retire s).station = s.station ∧ (retire s).fault = s.fault ∧ (retire s).conf = s.conf ∧
    (retire s).ident = s.ident ∧ (retire s).custody = s.custody ∧ (retire s).requests = s.requests ∧
    (retire s).link = s.link ∧ (retire s).slots = s.slots ∧ (retire s).tracker = s.tracker ∧
    (retire s).positions = s.positions ∧ (retire s).cursors = s.cursors ∧ (retire s).notices = s.notices ∧
    (retire s).control = s.control ∧ (retire s).recovery = s.recovery ∧ (retire s).leftStored = s.leftStored ∧
    (retire s).port = s.port ∧ (retire s).pending = s.pending :=
  ⟨rfl, rfl, rfl, rfl, rfl, rfl, rfl, rfl, rfl, rfl, rfl, rfl, rfl, rfl, rfl, rfl, rfl⟩

@[simp] theorem forsake_frame (n : Nat) (s : State) :
    (forsake n s).station = s.station ∧ (forsake n s).fault = s.fault ∧ (forsake n s).conf = s.conf ∧
    (forsake n s).ident = s.ident ∧ (forsake n s).custody = s.custody ∧ (forsake n s).requests = s.requests ∧
    (forsake n s).link = s.link ∧ (forsake n s).slots = s.slots ∧ (forsake n s).tracker = s.tracker ∧
    (forsake n s).positions = s.positions ∧ (forsake n s).journal = s.journal ∧ (forsake n s).cursors = s.cursors ∧
    (forsake n s).notices = s.notices ∧ (forsake n s).recovery = s.recovery ∧
    (forsake n s).leftStored = s.leftStored ∧ (forsake n s).port = s.port ∧ (forsake n s).pending = s.pending :=
  ⟨rfl, rfl, rfl, rfl, rfl, rfl, rfl, rfl, rfl, rfl, rfl, rfl, rfl, rfl, rfl, rfl, rfl⟩

@[simp] theorem timersOn_frame (s : State) :
    (timersOn s).station = s.station ∧ (timersOn s).fault = s.fault ∧ (timersOn s).conf = s.conf ∧
    (timersOn s).ident = s.ident ∧ (timersOn s).custody = s.custody ∧ (timersOn s).journal = s.journal ∧
    (timersOn s).cursors = s.cursors ∧ (timersOn s).notices = s.notices ∧ (timersOn s).control = s.control ∧
    (timersOn s).recovery = s.recovery ∧ (timersOn s).leftStored = s.leftStored ∧ (timersOn s).port = s.port ∧
    (timersOn s).pending = s.pending :=
  ⟨rfl, rfl, rfl, rfl, rfl, rfl, rfl, rfl, rfl, rfl, rfl, rfl, rfl⟩

@[simp] theorem silencesOn_frame (s : State) :
    (silencesOn s).station = s.station ∧ (silencesOn s).fault = s.fault ∧ (silencesOn s).conf = s.conf ∧
    (silencesOn s).ident = s.ident ∧ (silencesOn s).custody = s.custody ∧ (silencesOn s).requests = s.requests ∧
    (silencesOn s).slots = s.slots ∧ (silencesOn s).tracker = s.tracker ∧ (silencesOn s).positions = s.positions ∧
    (silencesOn s).journal = s.journal ∧ (silencesOn s).cursors = s.cursors ∧ (silencesOn s).notices = s.notices ∧
    (silencesOn s).control = s.control ∧ (silencesOn s).recovery = s.recovery ∧
    (silencesOn s).leftStored = s.leftStored ∧ (silencesOn s).port = s.port ∧ (silencesOn s).pending = s.pending :=
  ⟨rfl, rfl, rfl, rfl, rfl, rfl, rfl, rfl, rfl, rfl, rfl, rfl, rfl, rfl, rfl, rfl, rfl⟩

@[simp] theorem scanJournal_frame (s : State) :
    (scanJournal s).station = s.station ∧ (scanJournal s).fault = s.fault ∧ (scanJournal s).conf = s.conf ∧
    (scanJournal s).ident = s.ident ∧ (scanJournal s).custody = s.custody ∧ (scanJournal s).requests = s.requests ∧
    (scanJournal s).link = s.link ∧ (scanJournal s).slots = s.slots ∧ (scanJournal s).tracker = s.tracker ∧
    (scanJournal s).positions = s.positions ∧ (scanJournal s).cursors = s.cursors ∧
    (scanJournal s).notices = s.notices ∧ (scanJournal s).control = s.control ∧
    (scanJournal s).recovery = s.recovery ∧ (scanJournal s).leftStored = s.leftStored ∧
    (scanJournal s).port = s.port ∧ (scanJournal s).pending = s.pending :=
  ⟨rfl, rfl, rfl, rfl, rfl, rfl, rfl, rfl, rfl, rfl, rfl, rfl, rfl, rfl, rfl, rfl, rfl⟩

@[simp] theorem recoveryStops_frame (k : FaultCode) (s : State) :
    (recoveryStops k s).station = s.station ∧ (recoveryStops k s).fault = s.fault ∧
    (recoveryStops k s).conf = s.conf ∧ (recoveryStops k s).ident = s.ident ∧
    (recoveryStops k s).custody = s.custody ∧ (recoveryStops k s).requests = s.requests ∧
    (recoveryStops k s).link = s.link ∧ (recoveryStops k s).slots = s.slots ∧
    (recoveryStops k s).tracker = s.tracker ∧ (recoveryStops k s).positions = s.positions ∧
    (recoveryStops k s).cursors = s.cursors ∧ (recoveryStops k s).notices = s.notices ∧
    (recoveryStops k s).leftStored = s.leftStored ∧ (recoveryStops k s).port = s.port ∧
    (recoveryStops k s).pending = s.pending :=
  ⟨rfl, rfl, rfl, rfl, rfl, rfl, rfl, rfl, rfl, rfl, rfl, rfl, rfl, rfl, rfl⟩

@[simp] theorem recoveryFails_frame (s : State) :
    (recoveryFails s).station = s.station ∧ (recoveryFails s).fault = s.fault ∧ (recoveryFails s).conf = s.conf ∧
    (recoveryFails s).ident = s.ident ∧ (recoveryFails s).custody = s.custody ∧
    (recoveryFails s).requests = s.requests ∧ (recoveryFails s).link = s.link ∧ (recoveryFails s).slots = s.slots ∧
    (recoveryFails s).tracker = s.tracker ∧ (recoveryFails s).positions = s.positions ∧
    (recoveryFails s).cursors = s.cursors ∧ (recoveryFails s).notices = s.notices ∧
    (recoveryFails s).leftStored = s.leftStored ∧ (recoveryFails s).port = s.port ∧
    (recoveryFails s).pending = s.pending :=
  ⟨rfl, rfl, rfl, rfl, rfl, rfl, rfl, rfl, rfl, rfl, rfl, rfl, rfl, rfl, rfl⟩

/-! ### Operations that choose -/

@[simp] theorem putRow_frame (sd : Side) (j : Nat) (r : Row) (s : State) :
    (putRow sd j r s).station = s.station ∧ (putRow sd j r s).fault = s.fault ∧ (putRow sd j r s).conf = s.conf ∧
    (putRow sd j r s).ident = s.ident ∧ (putRow sd j r s).custody = s.custody ∧
    (putRow sd j r s).requests = s.requests ∧ (putRow sd j r s).link = s.link ∧ (putRow sd j r s).slots = s.slots ∧
    (putRow sd j r s).tracker = s.tracker ∧ (putRow sd j r s).journal = s.journal ∧
    (putRow sd j r s).cursors = s.cursors ∧ (putRow sd j r s).notices = s.notices ∧
    (putRow sd j r s).control = s.control ∧ (putRow sd j r s).recovery = s.recovery ∧
    (putRow sd j r s).leftStored = s.leftStored ∧ (putRow sd j r s).port = s.port ∧
    (putRow sd j r s).pending = s.pending := by
  cases sd <;> exact ⟨rfl, rfl, rfl, rfl, rfl, rfl, rfl, rfl, rfl, rfl, rfl, rfl, rfl, rfl, rfl, rfl, rfl⟩

@[simp] theorem setCloseRow_frame (j : Nat) (c : CloseRow) (s : State) :
    (setCloseRow j c s).station = s.station ∧ (setCloseRow j c s).fault = s.fault ∧
    (setCloseRow j c s).conf = s.conf ∧ (setCloseRow j c s).ident = s.ident ∧
    (setCloseRow j c s).custody = s.custody ∧ (setCloseRow j c s).requests = s.requests ∧
    (setCloseRow j c s).link = s.link ∧ (setCloseRow j c s).slots = s.slots ∧
    (setCloseRow j c s).tracker = s.tracker ∧ (setCloseRow j c s).journal = s.journal ∧
    (setCloseRow j c s).cursors = s.cursors ∧ (setCloseRow j c s).notices = s.notices ∧
    (setCloseRow j c s).control = s.control ∧ (setCloseRow j c s).recovery = s.recovery ∧
    (setCloseRow j c s).leftStored = s.leftStored ∧ (setCloseRow j c s).port = s.port ∧
    (setCloseRow j c s).pending = s.pending := by
  unfold setCloseRow; split <;> exact ⟨rfl, rfl, rfl, rfl, rfl, rfl, rfl, rfl, rfl, rfl, rfl, rfl, rfl, rfl, rfl, rfl, rfl⟩

@[simp] theorem acceptFrame_frame (fm : FrameFormat) (ts : List Target) (ps : List Nat) (c : Continuation) (s : State) :
    (acceptFrame fm ts ps c s).station = s.station ∧ (acceptFrame fm ts ps c s).fault = s.fault ∧
    (acceptFrame fm ts ps c s).conf = s.conf ∧ (acceptFrame fm ts ps c s).ident = s.ident ∧
    (acceptFrame fm ts ps c s).custody = s.custody ∧ (acceptFrame fm ts ps c s).requests = s.requests ∧
    (acceptFrame fm ts ps c s).link = s.link ∧ (acceptFrame fm ts ps c s).slots = s.slots ∧
    (acceptFrame fm ts ps c s).tracker = s.tracker ∧ (acceptFrame fm ts ps c s).positions = s.positions ∧
    (acceptFrame fm ts ps c s).cursors = s.cursors ∧ (acceptFrame fm ts ps c s).notices = s.notices ∧
    (acceptFrame fm ts ps c s).recovery = s.recovery ∧ (acceptFrame fm ts ps c s).leftStored = s.leftStored ∧
    (acceptFrame fm ts ps c s).port = s.port ∧ (acceptFrame fm ts ps c s).pending = s.pending := by
  unfold acceptFrame; split <;> exact ⟨rfl, rfl, rfl, rfl, rfl, rfl, rfl, rfl, rfl, rfl, rfl, rfl, rfl, rfl, rfl, rfl⟩

@[simp] theorem claim_frame (ds : List Draft) (s : State) :
    (claim ds s).2.station = s.station ∧ (claim ds s).2.fault = s.fault ∧ (claim ds s).2.conf = s.conf ∧
    (claim ds s).2.ident = s.ident ∧ (claim ds s).2.custody = s.custody ∧ (claim ds s).2.requests = s.requests ∧
    (claim ds s).2.link = s.link ∧ (claim ds s).2.slots = s.slots ∧ (claim ds s).2.tracker = s.tracker ∧
    (claim ds s).2.positions = s.positions ∧ (claim ds s).2.cursors = s.cursors ∧
    (claim ds s).2.control = s.control ∧ (claim ds s).2.recovery = s.recovery ∧
    (claim ds s).2.leftStored = s.leftStored ∧ (claim ds s).2.port = s.port ∧ (claim ds s).2.pending = s.pending := by
  unfold claim; dsimp only; split <;> exact ⟨rfl, rfl, rfl, rfl, rfl, rfl, rfl, rfl, rfl, rfl, rfl, rfl, rfl, rfl, rfl, rfl⟩

@[simp] theorem offerPresence_frame (s : State) :
    (offerPresence s).station = s.station ∧ (offerPresence s).fault = s.fault ∧ (offerPresence s).conf = s.conf ∧
    (offerPresence s).ident = s.ident ∧ (offerPresence s).custody = s.custody ∧
    (offerPresence s).requests = s.requests ∧ (offerPresence s).slots = s.slots ∧
    (offerPresence s).tracker = s.tracker ∧ (offerPresence s).positions = s.positions ∧
    (offerPresence s).journal = s.journal ∧ (offerPresence s).cursors = s.cursors ∧
    (offerPresence s).notices = s.notices ∧ (offerPresence s).control = s.control ∧
    (offerPresence s).recovery = s.recovery ∧ (offerPresence s).leftStored = s.leftStored ∧
    (offerPresence s).port = s.port ∧ (offerPresence s).pending = s.pending := by
  unfold offerPresence; dsimp only; repeat' split
  all_goals exact ⟨rfl, rfl, rfl, rfl, rfl, rfl, rfl, rfl, rfl, rfl, rfl, rfl, rfl, rfl, rfl, rfl, rfl⟩

@[simp] theorem offerAnswer_frame (d n : Nat) (p : Payload) (s : State) :
    (offerAnswer d n p s).station = s.station ∧ (offerAnswer d n p s).fault = s.fault ∧
    (offerAnswer d n p s).conf = s.conf ∧ (offerAnswer d n p s).ident = s.ident ∧
    (offerAnswer d n p s).custody = s.custody ∧ (offerAnswer d n p s).requests = s.requests ∧
    (offerAnswer d n p s).slots = s.slots ∧ (offerAnswer d n p s).tracker = s.tracker ∧
    (offerAnswer d n p s).positions = s.positions ∧ (offerAnswer d n p s).journal = s.journal ∧
    (offerAnswer d n p s).cursors = s.cursors ∧ (offerAnswer d n p s).notices = s.notices ∧
    (offerAnswer d n p s).control = s.control ∧ (offerAnswer d n p s).recovery = s.recovery ∧
    (offerAnswer d n p s).leftStored = s.leftStored ∧ (offerAnswer d n p s).port = s.port ∧
    (offerAnswer d n p s).pending = s.pending := by
  unfold offerAnswer; split <;> exact ⟨rfl, rfl, rfl, rfl, rfl, rfl, rfl, rfl, rfl, rfl, rfl, rfl, rfl, rfl, rfl, rfl, rfl⟩

@[simp] theorem tellOwner_frame (f : TxFrame) (s : State) :
    (tellOwner f s).station = s.station ∧ (tellOwner f s).fault = s.fault ∧ (tellOwner f s).conf = s.conf ∧
    (tellOwner f s).ident = s.ident ∧ (tellOwner f s).custody = s.custody ∧ (tellOwner f s).requests = s.requests ∧
    (tellOwner f s).link = s.link ∧ (tellOwner f s).slots = s.slots ∧ (tellOwner f s).positions = s.positions ∧
    (tellOwner f s).journal = s.journal ∧ (tellOwner f s).cursors = s.cursors ∧ (tellOwner f s).notices = s.notices ∧
    (tellOwner f s).control = s.control ∧ (tellOwner f s).recovery = s.recovery ∧
    (tellOwner f s).leftStored = s.leftStored ∧ (tellOwner f s).port = s.port ∧ (tellOwner f s).pending = s.pending := by
  unfold tellOwner; repeat' split
  all_goals exact ⟨rfl, rfl, rfl, rfl, rfl, rfl, rfl, rfl, rfl, rfl, rfl, rfl, rfl, rfl, rfl, rfl, rfl⟩

@[simp] theorem offerRequest_frame (p : Nat) (t : Track) (s : State) :
    (offerRequest p t s).station = s.station ∧ (offerRequest p t s).fault = s.fault ∧
    (offerRequest p t s).conf = s.conf ∧ (offerRequest p t s).ident = s.ident ∧
    (offerRequest p t s).custody = s.custody ∧ (offerRequest p t s).requests = s.requests ∧
    (offerRequest p t s).slots = s.slots ∧ (offerRequest p t s).positions = s.positions ∧
    (offerRequest p t s).journal = s.journal ∧ (offerRequest p t s).cursors = s.cursors ∧
    (offerRequest p t s).notices = s.notices ∧ (offerRequest p t s).control = s.control ∧
    (offerRequest p t s).recovery = s.recovery ∧ (offerRequest p t s).leftStored = s.leftStored ∧
    (offerRequest p t s).port = s.port ∧ (offerRequest p t s).pending = s.pending := by
  unfold offerRequest; dsimp only; split <;> exact ⟨rfl, rfl, rfl, rfl, rfl, rfl, rfl, rfl, rfl, rfl, rfl, rfl, rfl, rfl, rfl, rfl⟩

@[simp] theorem offerRequestOf_frame (h n : Nat) (s : State) :
    (offerRequestOf h n s).station = s.station ∧ (offerRequestOf h n s).fault = s.fault ∧
    (offerRequestOf h n s).conf = s.conf ∧ (offerRequestOf h n s).ident = s.ident ∧
    (offerRequestOf h n s).custody = s.custody ∧ (offerRequestOf h n s).requests = s.requests ∧
    (offerRequestOf h n s).slots = s.slots ∧ (offerRequestOf h n s).positions = s.positions ∧
    (offerRequestOf h n s).journal = s.journal ∧ (offerRequestOf h n s).cursors = s.cursors ∧
    (offerRequestOf h n s).notices = s.notices ∧ (offerRequestOf h n s).control = s.control ∧
    (offerRequestOf h n s).recovery = s.recovery ∧ (offerRequestOf h n s).leftStored = s.leftStored ∧
    (offerRequestOf h n s).port = s.port ∧ (offerRequestOf h n s).pending = s.pending := by
  unfold offerRequestOf; repeat' split
  all_goals first | exact ⟨rfl, rfl, rfl, rfl, rfl, rfl, rfl, rfl, rfl, rfl, rfl, rfl, rfl, rfl, rfl, rfl⟩ | exact offerRequest_frame _ _ _

@[simp] theorem book_frame (p j : Nat) (ch : Row → Row) (s : State) :
    (book p j ch s).1.station = s.station ∧ (book p j ch s).1.fault = s.fault ∧ (book p j ch s).1.conf = s.conf ∧
    (book p j ch s).1.ident = s.ident ∧ (book p j ch s).1.custody = s.custody ∧
    (book p j ch s).1.requests = s.requests ∧ (book p j ch s).1.link = s.link ∧ (book p j ch s).1.slots = s.slots ∧
    (book p j ch s).1.tracker = s.tracker ∧ (book p j ch s).1.journal = s.journal ∧
    (book p j ch s).1.cursors = s.cursors ∧ (book p j ch s).1.notices = s.notices ∧
    (book p j ch s).1.control = s.control ∧ (book p j ch s).1.recovery = s.recovery ∧
    (book p j ch s).1.leftStored = s.leftStored ∧ (book p j ch s).1.port = s.port ∧
    (book p j ch s).1.pending = s.pending := by
  unfold book; split
  · exact putRow_frame _ _ _ _
  · exact ⟨rfl, rfl, rfl, rfl, rfl, rfl, rfl, rfl, rfl, rfl, rfl, rfl, rfl, rfl, rfl, rfl, rfl⟩

@[simp] theorem placePosition_frame (j p : Nat) (s : State) :
    (placePosition j p s).station = s.station ∧ (placePosition j p s).fault = s.fault ∧
    (placePosition j p s).conf = s.conf ∧ (placePosition j p s).ident = s.ident ∧
    (placePosition j p s).custody = s.custody ∧ (placePosition j p s).requests = s.requests ∧
    (placePosition j p s).slots = s.slots ∧ (placePosition j p s).tracker = s.tracker ∧
    (placePosition j p s).positions = s.positions ∧ (placePosition j p s).journal = s.journal ∧
    (placePosition j p s).cursors = s.cursors ∧ (placePosition j p s).notices = s.notices ∧
    (placePosition j p s).control = s.control ∧ (placePosition j p s).recovery = s.recovery ∧
    (placePosition j p s).leftStored = s.leftStored ∧ (placePosition j p s).port = s.port ∧
    (placePosition j p s).pending = s.pending := by
  unfold placePosition; dsimp only; split <;> exact ⟨rfl, rfl, rfl, rfl, rfl, rfl, rfl, rfl, rfl, rfl, rfl, rfl, rfl, rfl, rfl, rfl, rfl⟩

@[simp] theorem callSend_frame (j : Nat) (s : State) :
    (callSend j s).station = s.station ∧ (callSend j s).fault = s.fault ∧ (callSend j s).conf = s.conf ∧
    (callSend j s).ident = s.ident ∧ (callSend j s).custody = s.custody ∧ (callSend j s).requests = s.requests ∧
    (callSend j s).slots = s.slots ∧ (callSend j s).tracker = s.tracker ∧ (callSend j s).positions = s.positions ∧
    (callSend j s).journal = s.journal ∧ (callSend j s).cursors = s.cursors ∧ (callSend j s).notices = s.notices ∧
    (callSend j s).recovery = s.recovery ∧ (callSend j s).leftStored = s.leftStored ∧ (callSend j s).port = s.port ∧
    (callSend j s).pending = s.pending := by
  unfold callSend; dsimp only; repeat' split
  all_goals first | exact ⟨rfl, rfl, rfl, rfl, rfl, rfl, rfl, rfl, rfl, rfl, rfl, rfl, rfl, rfl, rfl, rfl⟩ | simp

@[simp] theorem postAfter_frame (ns : List Nat) (n : NoticeRec) (s : State) :
    (postAfter ns n s).station = s.station ∧ (postAfter ns n s).fault = s.fault ∧ (postAfter ns n s).conf = s.conf ∧
    (postAfter ns n s).ident = s.ident ∧ (postAfter ns n s).custody = s.custody ∧
    (postAfter ns n s).requests = s.requests ∧ (postAfter ns n s).link = s.link ∧
    (postAfter ns n s).slots = s.slots ∧ (postAfter ns n s).tracker = s.tracker ∧
    (postAfter ns n s).positions = s.positions ∧ (postAfter ns n s).journal = s.journal ∧
    (postAfter ns n s).cursors = s.cursors ∧ (postAfter ns n s).recovery = s.recovery ∧
    (postAfter ns n s).leftStored = s.leftStored ∧ (postAfter ns n s).port = s.port ∧
    (postAfter ns n s).pending = s.pending := by
  unfold postAfter; split <;> exact ⟨rfl, rfl, rfl, rfl, rfl, rfl, rfl, rfl, rfl, rfl, rfl, rfl, rfl, rfl, rfl, rfl⟩

@[simp] theorem cutLink_frame (x : Option Nat) (s : State) :
    (cutLink x s).station = s.station ∧ (cutLink x s).fault = s.fault ∧ (cutLink x s).conf = s.conf ∧
    (cutLink x s).ident = s.ident ∧ (cutLink x s).custody = s.custody ∧ (cutLink x s).requests = s.requests ∧
    (cutLink x s).link = s.link ∧ (cutLink x s).tracker = s.tracker ∧ (cutLink x s).positions = s.positions ∧
    (cutLink x s).journal = s.journal ∧ (cutLink x s).cursors = s.cursors ∧ (cutLink x s).notices = s.notices ∧
    (cutLink x s).control = s.control ∧ (cutLink x s).recovery = s.recovery ∧
    (cutLink x s).leftStored = s.leftStored ∧ (cutLink x s).port = s.port ∧ (cutLink x s).pending = s.pending := by
  unfold cutLink; repeat' split
  all_goals exact ⟨rfl, rfl, rfl, rfl, rfl, rfl, rfl, rfl, rfl, rfl, rfl, rfl, rfl, rfl, rfl, rfl, rfl⟩

@[simp] theorem setLink_frame (x : Option Nat) (h n : Nat) (s : State) :
    (setLink x h n s).station = s.station ∧ (setLink x h n s).fault = s.fault ∧ (setLink x h n s).conf = s.conf ∧
    (setLink x h n s).ident = s.ident ∧ (setLink x h n s).custody = s.custody ∧
    (setLink x h n s).requests = s.requests ∧ (setLink x h n s).link = s.link ∧
    (setLink x h n s).tracker = s.tracker ∧ (setLink x h n s).positions = s.positions ∧
    (setLink x h n s).journal = s.journal ∧ (setLink x h n s).cursors = s.cursors ∧
    (setLink x h n s).notices = s.notices ∧ (setLink x h n s).control = s.control ∧
    (setLink x h n s).recovery = s.recovery ∧ (setLink x h n s).leftStored = s.leftStored ∧
    (setLink x h n s).port = s.port ∧ (setLink x h n s).pending = s.pending := by
  unfold setLink; repeat' split
  all_goals exact ⟨rfl, rfl, rfl, rfl, rfl, rfl, rfl, rfl, rfl, rfl, rfl, rfl, rfl, rfl, rfl, rfl, rfl⟩

@[simp] theorem enterHeld_frame (n : Nat) (h : HoldRef) (o : OutcomeRec) (s : State) :
    (enterHeld n h o s).station = s.station ∧ (enterHeld n h o s).fault = s.fault ∧
    (enterHeld n h o s).conf = s.conf ∧ (enterHeld n h o s).ident = s.ident ∧
    (enterHeld n h o s).custody = s.custody ∧ (enterHeld n h o s).requests = s.requests ∧
    (enterHeld n h o s).link = s.link ∧ (enterHeld n h o s).tracker = s.tracker ∧
    (enterHeld n h o s).positions = s.positions ∧ (enterHeld n h o s).journal = s.journal ∧
    (enterHeld n h o s).cursors = s.cursors ∧ (enterHeld n h o s).control = s.control ∧
    (enterHeld n h o s).recovery = s.recovery ∧ (enterHeld n h o s).leftStored = s.leftStored ∧
    (enterHeld n h o s).port = s.port ∧ (enterHeld n h o s).pending = s.pending := by
  unfold enterHeld; split <;> exact ⟨rfl, rfl, rfl, rfl, rfl, rfl, rfl, rfl, rfl, rfl, rfl, rfl, rfl, rfl, rfl, rfl⟩

@[simp] theorem writeOutcome_frame (n : Nat) (sl : Slot) (o : OutcomeRec) (s : State) :
    (writeOutcome n sl o s).station = s.station ∧ (writeOutcome n sl o s).fault = s.fault ∧
    (writeOutcome n sl o s).conf = s.conf ∧ (writeOutcome n sl o s).ident = s.ident ∧
    (writeOutcome n sl o s).custody = s.custody ∧ (writeOutcome n sl o s).requests = s.requests ∧
    (writeOutcome n sl o s).link = s.link ∧ (writeOutcome n sl o s).tracker = s.tracker ∧
    (writeOutcome n sl o s).positions = s.positions ∧ (writeOutcome n sl o s).journal = s.journal ∧
    (writeOutcome n sl o s).cursors = s.cursors ∧ (writeOutcome n sl o s).control = s.control ∧
    (writeOutcome n sl o s).recovery = s.recovery ∧ (writeOutcome n sl o s).leftStored = s.leftStored ∧
    (writeOutcome n sl o s).port = s.port ∧ (writeOutcome n sl o s).pending = s.pending := by
  exact ⟨rfl, rfl, rfl, rfl, rfl, rfl, rfl, rfl, rfl, rfl, rfl, rfl, rfl, rfl, rfl, rfl⟩

@[simp] theorem takeStep_frame (s : State) :
    (takeStep s).station = s.station ∧ (takeStep s).fault = s.fault ∧ (takeStep s).conf = s.conf ∧
    (takeStep s).custody = s.custody ∧ (takeStep s).requests = s.requests ∧ (takeStep s).link = s.link ∧
    (takeStep s).slots = s.slots ∧ (takeStep s).tracker = s.tracker ∧ (takeStep s).positions = s.positions ∧
    (takeStep s).cursors = s.cursors ∧ (takeStep s).notices = s.notices ∧ (takeStep s).recovery = s.recovery ∧
    (takeStep s).leftStored = s.leftStored ∧ (takeStep s).port = s.port ∧ (takeStep s).pending = s.pending := by
  unfold takeStep; split <;> simp

@[simp] theorem giveNumber_frame (s : State) :
    (giveNumber s).2.station = s.station ∧ (giveNumber s).2.fault = s.fault ∧ (giveNumber s).2.conf = s.conf ∧
    (giveNumber s).2.custody = s.custody ∧ (giveNumber s).2.requests = s.requests ∧ (giveNumber s).2.link = s.link ∧
    (giveNumber s).2.slots = s.slots ∧ (giveNumber s).2.positions = s.positions ∧
    (giveNumber s).2.cursors = s.cursors ∧ (giveNumber s).2.notices = s.notices ∧
    (giveNumber s).2.recovery = s.recovery ∧ (giveNumber s).2.leftStored = s.leftStored ∧
    (giveNumber s).2.port = s.port ∧ (giveNumber s).2.pending = s.pending := by
  unfold giveNumber; dsimp only; split <;> simp

@[simp] theorem offerOrWait_frame (h n : Nat) (s : State) :
    (offerOrWait h n s).station = s.station ∧ (offerOrWait h n s).fault = s.fault ∧
    (offerOrWait h n s).conf = s.conf ∧ (offerOrWait h n s).ident = s.ident ∧
    (offerOrWait h n s).custody = s.custody ∧ (offerOrWait h n s).requests = s.requests ∧
    (offerOrWait h n s).slots = s.slots ∧ (offerOrWait h n s).positions = s.positions ∧
    (offerOrWait h n s).journal = s.journal ∧ (offerOrWait h n s).cursors = s.cursors ∧
    (offerOrWait h n s).notices = s.notices ∧ (offerOrWait h n s).recovery = s.recovery ∧
    (offerOrWait h n s).leftStored = s.leftStored ∧ (offerOrWait h n s).port = s.port ∧
    (offerOrWait h n s).pending = s.pending := by
  unfold offerOrWait; split <;> simp

@[simp] theorem answerAfter_frame (ns : List Nat) (d n : Nat) (p : Payload) (s : State) :
    (answerAfter ns d n p s).station = s.station ∧ (answerAfter ns d n p s).fault = s.fault ∧
    (answerAfter ns d n p s).conf = s.conf ∧ (answerAfter ns d n p s).ident = s.ident ∧
    (answerAfter ns d n p s).custody = s.custody ∧ (answerAfter ns d n p s).requests = s.requests ∧
    (answerAfter ns d n p s).slots = s.slots ∧ (answerAfter ns d n p s).tracker = s.tracker ∧
    (answerAfter ns d n p s).positions = s.positions ∧ (answerAfter ns d n p s).journal = s.journal ∧
    (answerAfter ns d n p s).cursors = s.cursors ∧ (answerAfter ns d n p s).notices = s.notices ∧
    (answerAfter ns d n p s).recovery = s.recovery ∧ (answerAfter ns d n p s).leftStored = s.leftStored ∧
    (answerAfter ns d n p s).port = s.port ∧ (answerAfter ns d n p s).pending = s.pending := by
  unfold answerAfter; split <;> simp

@[simp] theorem moveInDoubt_frame (p : Nat) (t : Track) (s : State) :
    (moveInDoubt p t s).station = s.station ∧ (moveInDoubt p t s).fault = s.fault ∧
    (moveInDoubt p t s).conf = s.conf ∧ (moveInDoubt p t s).ident = s.ident ∧
    (moveInDoubt p t s).custody = s.custody ∧ (moveInDoubt p t s).requests = s.requests ∧
    (moveInDoubt p t s).link = s.link ∧ (moveInDoubt p t s).positions = s.positions ∧
    (moveInDoubt p t s).cursors = s.cursors ∧ (moveInDoubt p t s).notices = s.notices ∧
    (moveInDoubt p t s).recovery = s.recovery ∧ (moveInDoubt p t s).leftStored = s.leftStored ∧
    (moveInDoubt p t s).port = s.port ∧ (moveInDoubt p t s).pending = s.pending := by
  unfold moveInDoubt; dsimp only; split <;> simp

@[simp] theorem endHold_frame (p : Nat) (g : Grant) (st : HoldState) (b : Nat) (s : State) :
    (endHold p g st b s).1.station = s.station ∧ (endHold p g st b s).1.fault = s.fault ∧
    (endHold p g st b s).1.conf = s.conf ∧ (endHold p g st b s).1.ident = s.ident ∧
    (endHold p g st b s).1.link = s.link ∧ (endHold p g st b s).1.slots = s.slots ∧
    (endHold p g st b s).1.tracker = s.tracker ∧ (endHold p g st b s).1.positions = s.positions ∧
    (endHold p g st b s).1.journal = s.journal ∧ (endHold p g st b s).1.cursors = s.cursors ∧
    (endHold p g st b s).1.notices = s.notices ∧ (endHold p g st b s).1.control = s.control ∧
    (endHold p g st b s).1.recovery = s.recovery ∧ (endHold p g st b s).1.leftStored = s.leftStored ∧
    (endHold p g st b s).1.port = s.port ∧ (endHold p g st b s).1.pending = s.pending := by
  unfold endHold; dsimp only; split <;> exact ⟨rfl, rfl, rfl, rfl, rfl, rfl, rfl, rfl, rfl, rfl, rfl, rfl, rfl, rfl, rfl, rfl⟩

@[simp] theorem grantHold_frame (q : Nat) (n : Option Nat) (p : Nat) (c : Card) (g : Nat) (k : Nat → Continuation) (s : State) :
    (grantHold q n p c g k s).station = s.station ∧ (grantHold q n p c g k s).fault = s.fault ∧
    (grantHold q n p c g k s).conf = s.conf ∧ (grantHold q n p c g k s).link = s.link ∧
    (grantHold q n p c g k s).slots = s.slots ∧ (grantHold q n p c g k s).tracker = s.tracker ∧
    (grantHold q n p c g k s).positions = s.positions ∧ (grantHold q n p c g k s).cursors = s.cursors ∧
    (grantHold q n p c g k s).notices = s.notices ∧ (grantHold q n p c g k s).recovery = s.recovery ∧
    (grantHold q n p c g k s).leftStored = s.leftStored ∧ (grantHold q n p c g k s).port = s.port ∧
    (grantHold q n p c g k s).pending = s.pending := by
  unfold grantHold; split <;> simp

@[simp] theorem expireEntry_frame (p : Nat) (g : Grant) (s : State) :
    (expireEntry p g s).station = s.station ∧ (expireEntry p g s).fault = s.fault ∧
    (expireEntry p g s).conf = s.conf ∧ (expireEntry p g s).ident = s.ident ∧ (expireEntry p g s).link = s.link ∧
    (expireEntry p g s).slots = s.slots ∧ (expireEntry p g s).tracker = s.tracker ∧
    (expireEntry p g s).positions = s.positions ∧ (expireEntry p g s).cursors = s.cursors ∧
    (expireEntry p g s).notices = s.notices ∧ (expireEntry p g s).recovery = s.recovery ∧
    (expireEntry p g s).leftStored = s.leftStored ∧ (expireEntry p g s).port = s.port ∧
    (expireEntry p g s).pending = s.pending := by
  unfold expireEntry; simp

@[simp] theorem applyCredit_frame (q : Nat) (n : Option Nat) (p : Nat) (c : Card) (k : CreditKind) (a : Nat) (d : Draft) (x : Continuation) (s : State) :
    (applyCredit q n p c k a d x s).station = s.station ∧ (applyCredit q n p c k a d x s).fault = s.fault ∧
    (applyCredit q n p c k a d x s).conf = s.conf ∧ (applyCredit q n p c k a d x s).ident = s.ident ∧
    (applyCredit q n p c k a d x s).link = s.link ∧ (applyCredit q n p c k a d x s).slots = s.slots ∧
    (applyCredit q n p c k a d x s).tracker = s.tracker ∧ (applyCredit q n p c k a d x s).cursors = s.cursors ∧
    (applyCredit q n p c k a d x s).recovery = s.recovery ∧
    (applyCredit q n p c k a d x s).leftStored = s.leftStored ∧ (applyCredit q n p c k a d x s).port = s.port ∧
    (applyCredit q n p c k a d x s).pending = s.pending := by
  unfold applyCredit; simp

@[simp] theorem changeStatus_frame (p : Nat) (c : Card) (d : Draft) (x : Continuation) (s : State) :
    (changeStatus p c d x s).station = s.station ∧ (changeStatus p c d x s).fault = s.fault ∧
    (changeStatus p c d x s).conf = s.conf ∧ (changeStatus p c d x s).ident = s.ident ∧
    (changeStatus p c d x s).requests = s.requests ∧ (changeStatus p c d x s).link = s.link ∧
    (changeStatus p c d x s).slots = s.slots ∧ (changeStatus p c d x s).tracker = s.tracker ∧
    (changeStatus p c d x s).positions = s.positions ∧ (changeStatus p c d x s).cursors = s.cursors ∧
    (changeStatus p c d x s).recovery = s.recovery ∧ (changeStatus p c d x s).leftStored = s.leftStored ∧
    (changeStatus p c d x s).port = s.port ∧ (changeStatus p c d x s).pending = s.pending := by
  unfold changeStatus; simp

end Sys2Proof.Machine
end

