-- ==== Sys2Proof/Laws/Tab.lean ====
section
/-! SUPPORT. The laws of sparse tables: a read after a write, other places left alone, the canonical form kept. -/

namespace Sys2Proof.Machine

variable {α β : Type}

@[simp] theorem tabGet_nil (k : Nat) : tabGet ([] : Tab α) k = none := rfl

/-- Reading the place just written gives what was written. -/
@[simp] theorem tabGet_tabPut_self (t : Tab α) (k : Nat) (v : α) : tabGet (tabPut t k v) k = some v := by
  induction t with
  | nil => simp [tabPut, tabGet]
  | cons p t ih =>
    obtain ⟨i, a⟩ := p
    simp only [tabPut]
    split
    · simp [tabGet]
    · split
      · simp [tabGet]
      · rename_i h
        simp [tabGet, Ne.symm h, ih]

/-- A write leaves every other place alone. -/
theorem tabGet_tabPut_ne (t : Tab α) {k i : Nat} (v : α) (h : i ≠ k) : tabGet (tabPut t k v) i = tabGet t i := by
  induction t with
  | nil => simp [tabPut, tabGet, Ne.symm h]
  | cons p t ih =>
    obtain ⟨j, a⟩ := p
    simp only [tabPut]
    split
    · simp [tabGet, Ne.symm h]
    · split
      · rename_i hk
        subst hk
        simp [tabGet, Ne.symm h]
      · simp [tabGet, ih]

/-- A place made blank reads as blank. -/
@[simp] theorem tabGet_tabDel_self (t : Tab α) (k : Nat) : tabGet (tabDel t k) k = none := by
  induction t with
  | nil => rfl
  | cons p t ih =>
    obtain ⟨i, a⟩ := p
    simp only [tabDel]
    split
    · exact ih
    · rename_i h
      simp [tabGet, h, ih]

/-- Making a place blank leaves every other place alone. -/
theorem tabGet_tabDel_ne (t : Tab α) {k i : Nat} (h : i ≠ k) : tabGet (tabDel t k) i = tabGet t i := by
  induction t with
  | nil => rfl
  | cons p t ih =>
    obtain ⟨j, a⟩ := p
    simp only [tabDel]
    split
    · rename_i hj
      subst hj
      simp [tabGet, Ne.symm h, ih]
    · simp [tabGet, ih]

/-- Membership after a write: the written pair, or one that was there at another place. -/
theorem mem_tabPut {t : Tab α} {k : Nat} {v : α} {p : Nat × α} (h : p ∈ tabPut t k v) : p = (k, v) ∨ p ∈ t := by
  induction t with
  | nil => simpa [tabPut] using h
  | cons q t ih =>
    obtain ⟨i, a⟩ := q
    simp only [tabPut] at h
    split at h
    · rcases List.mem_cons.1 h with h | h
      · exact .inl h
      · exact .inr h
    · split at h
      · rcases List.mem_cons.1 h with h | h
        · exact .inl h
        · exact .inr (List.mem_cons_of_mem _ h)
      · rcases List.mem_cons.1 h with h | h
        · exact .inr (by simp [h])
        · exact (ih h).imp id (List.mem_cons_of_mem _)

/-- The canonical form, read as an order on the places. -/
theorem tabWf_iff (t : Tab α) : tabWf t = true ↔ t.Pairwise fun p q => p.1 < q.1 := by
  induction t with
  | nil => simp [tabWf]
  | cons p t ih =>
    obtain ⟨i, a⟩ := p
    simp [tabWf, ih, List.all_eq_true]

/-- A write keeps the canonical form. -/
theorem tabWf_tabPut {t : Tab α} (k : Nat) (v : α) (h : tabWf t = true) : tabWf (tabPut t k v) = true := by
  induction t with
  | nil => simp [tabPut, tabWf]
  | cons p t ih =>
    obtain ⟨i, a⟩ := p
    simp only [tabWf, Bool.and_eq_true, List.all_eq_true, decide_eq_true_eq] at h
    simp only [tabPut]
    split
    · rename_i hk
      simp only [tabWf, Bool.and_eq_true, List.all_eq_true, decide_eq_true_eq]
      refine ⟨?_, h.1, h.2⟩
      intro q hq
      rcases List.mem_cons.1 hq with rfl | hq
      · exact hk
      · exact Nat.lt_trans hk (h.1 q hq)
    · split
      · rename_i hk
        subst hk
        simp only [tabWf, Bool.and_eq_true, List.all_eq_true, decide_eq_true_eq]
        exact h
      · rename_i h1 h2
        simp only [tabWf, Bool.and_eq_true, List.all_eq_true, decide_eq_true_eq]
        refine ⟨?_, ih h.2⟩
        intro q hq
        rcases mem_tabPut hq with rfl | hq
        · simp only
          omega
        · exact h.1 q hq

/-- A part of a table in canonical form is in canonical form. -/
theorem tabWf_sublist {t u : Tab α} (hs : u.Sublist t) (h : tabWf t = true) : tabWf u = true := by
  rw [tabWf_iff] at *
  exact h.sublist hs

theorem tabDel_sublist (t : Tab α) (k : Nat) : (tabDel t k).Sublist t := by
  induction t with
  | nil => exact .refl _
  | cons p t ih =>
    obtain ⟨i, a⟩ := p
    simp only [tabDel]
    split
    · exact ih.cons _
    · exact ih.cons_cons _

/-- Making a place blank keeps the canonical form. -/
theorem tabWf_tabDel {t : Tab α} (k : Nat) (h : tabWf t = true) : tabWf (tabDel t k) = true :=
  tabWf_sublist (tabDel_sublist t k) h

/-- Dropping entries keeps the canonical form. -/
theorem tabWf_filter {t : Tab α} (p : Nat × α → Bool) (h : tabWf t = true) : tabWf (t.filter p) = true :=
  tabWf_sublist List.filter_sublist h

/-- Changing contents keeps the canonical form. -/
theorem tabWf_tabMap {t : Tab α} (f : α → β) (h : tabWf t = true) : tabWf (tabMap f t) = true := by
  rw [tabWf_iff] at *
  simpa [tabMap, List.pairwise_map] using h

/-- Keeping some contents at their own places keeps the canonical form. -/
theorem tabWf_filterMap {t : Tab α} (f : Nat × α → Option (Nat × β)) (hf : ∀ p q, f p = some q → q.1 = p.1)
    (h : tabWf t = true) : tabWf (t.filterMap f) = true := by
  rw [tabWf_iff] at *
  rw [List.pairwise_filterMap]
  refine h.imp ?_
  intro a b hab c hc d hd
  rw [hf a c (by simpa using hc), hf b d (by simpa using hd)]
  exact hab

theorem tabWf_tabSet {t : Tab α} (k : Nat) (v : Option α) (h : tabWf t = true) : tabWf (tabSet t k v) = true := by
  cases v with
  | none => exact tabWf_tabDel k h
  | some v => exact tabWf_tabPut k v h

theorem tabWf_tabPutD [DecidableEq α] (blank : α) {t : Tab α} (k : Nat) (v : α) (h : tabWf t = true) :
    tabWf (tabPutD blank t k v) = true := by
  unfold tabPutD
  split
  · exact tabWf_tabDel k h
  · exact tabWf_tabPut k v h

/-- In canonical form a listed pair is what its place reads as. -/
theorem tabGet_of_mem {t : Tab α} (h : tabWf t = true) {p : Nat × α} (hp : p ∈ t) : tabGet t p.1 = some p.2 := by
  induction t with
  | nil => simp at hp
  | cons q t ih =>
    obtain ⟨i, a⟩ := q
    simp only [tabWf, Bool.and_eq_true, List.all_eq_true, decide_eq_true_eq] at h
    rcases List.mem_cons.1 hp with rfl | hp
    · simp [tabGet]
    · have := h.1 p hp
      simp [tabGet, Nat.ne_of_lt this, ih h.2 hp]

/-- What a place reads as is listed. -/
theorem mem_of_tabGet {t : Tab α} {k : Nat} {v : α} (h : tabGet t k = some v) : (k, v) ∈ t := by
  induction t with
  | nil => simp at h
  | cons q t ih =>
    obtain ⟨i, a⟩ := q
    simp only [tabGet] at h
    split at h
    · rename_i hi
      simp_all
    · exact List.mem_cons_of_mem _ (ih h)

/-- A found entry is listed and passes the test. -/
theorem tabFind_spec {f : α → Bool} {t : Tab α} {p : Nat × α} (h : tabFind f t = some p) : p ∈ t ∧ f p.2 = true :=
  ⟨List.mem_of_find?_eq_some h, by simpa using List.find?_some h⟩

/-- Nothing found: no listed content passes the test. -/
theorem tabFind_none {f : α → Bool} {t : Tab α} (h : tabFind f t = none) : ∀ p ∈ t, f p.2 = false := by
  intro p hp
  simpa using List.find?_eq_none.1 h p hp

end Sys2Proof.Machine
end

