-- ==== Sys2Proof/Laws/Ops.lean ====
section
/-! SUPPORT. One lemma for each shared operation that says once what it can do: the port's commands, the notice queue, frames,
claims, the store's canonical form, MISO's bytes, POSITION sends, releases that wait and recovery. -/

namespace Sys2Proof.Machine

/-! ### Commands -/

/-- Every check passes exactly when each one does. -/
theorem firstFail_none_iff {α : Type} (cs : List (Bool × α)) : firstFail cs = none ↔ ∀ c ∈ cs, c.1 = true := by
  induction cs with
  | nil => simp [firstFail]
  | cons c t ih =>
    obtain ⟨ok, a⟩ := c
    cases ok <;> simp [firstFail, ih]

/-- The mark of a failed check is the mark of a check that fails, all before it passing. -/
theorem firstFail_some {α : Type} {cs : List (Bool × α)} {a : α} (h : firstFail cs = some a) :
    ∃ l r, cs = l ++ (false, a) :: r ∧ ∀ c ∈ l, c.1 = true := by
  induction cs with
  | nil => simp [firstFail] at h
  | cons c t ih =>
    obtain ⟨ok, b⟩ := c
    cases ok with
    | false =>
      simp only [firstFail, Bool.false_eq_true, if_false, Option.some.injEq] at h
      exact ⟨[], t, by simp [h], by simp⟩
    | true =>
      simp only [firstFail, if_true] at h
      obtain ⟨l, r, rfl, hl⟩ := ih h
      exact ⟨(true, b) :: l, r, rfl, by simpa using hl⟩

/-- A host command outside reset is taken (R168, R184). -/
theorem hostCommand_taken {s : State} (f : State → State) (h : s.station ≠ .held) : hostCommand s f = .next (f s) := by
  simp [hostCommand, h, answer]

/-- A host command in reset is discarded without a reply (R168). -/
theorem hostCommand_held {s : State} (f : State → State) (h : s.station = .held) :
    hostCommand s f = .next (reply [] s) := by
  simp [hostCommand, h, answer]

/-- A command whose checks all pass is carried out (R185). -/
theorem checkedCommand_run {s : State} {cs : List (Bool × PortStatus)} (f : State → State) (h : s.station ≠ .held)
    (hc : firstFail cs = none) : checkedCommand s cs f = .next (f s) := by
  simp [checkedCommand, hostCommand_taken _ h, hc]

/-- A command with a failing check is refused with that check's status (R185). -/
theorem checkedCommand_refused {s : State} {cs : List (Bool × PortStatus)} (f : State → State) {p : PortStatus}
    (h : s.station ≠ .held) (hc : firstFail cs = some p) : checkedCommand s cs f = .next (refuse p s) := by
  simp [checkedCommand, hostCommand_taken _ h, hc]

/-! ### Notices (R177, R181) -/

theorem victim_mem {level : Nat} {q : List Notice} {v : Notice} (h : victim level q = some v) :
    v ∈ q ∧ levelOf v < level := by
  induction q generalizing v with
  | nil => simp [victim] at h
  | cons n t ih =>
    simp only [victim] at h
    split at h
    · split at h
      · simp_all
      · simp at h
    · rename_i w hw
      split at h
      · simp_all
      · simp only [Option.some.injEq] at h
        subst h
        exact ⟨List.mem_cons_of_mem _ (ih hw).1, (ih hw).2⟩

/-- Posting keeps the queue within its 32 places. -/
theorem postNotice_length (n : NoticeRec) {u : Notices} (h : u.queue.length ≤ 32) :
    (postNotice n u).queue.length ≤ 32 := by
  unfold postNotice
  dsimp only
  split
  · rename_i hl
    simp only [noticePlaces] at hl
    simp only [List.length_append, List.length_cons, List.length_nil]
    omega
  · split
    · rename_i v hv
      have hm := (victim_mem hv).1
      have he := List.length_eraseP_of_mem (p := fun x : Notice => decide (x.seq = v.seq)) hm (by simp)
      have hp := List.length_pos_of_mem hm
      simp only [List.length_append, he, List.length_cons, List.length_nil]
      omega
    · exact h

@[simp] theorem postNotice_mask (n : NoticeRec) (u : Notices) : (postNotice n u).mask = u.mask := by
  unfold postNotice
  dsimp only
  split
  · rfl
  · split <;> rfl

/-! ### Frames (R159 to R161) -/

/-- A frame that is accepted takes a slot no pending frame holds, the next number, and its programs join the queue. -/
theorem acceptFrame_control (fm : FrameFormat) (ts : List Target) (ps : List Nat) (c : Continuation) {s : State}
    (h : frameFree s = true) :
    let f : Frame := ⟨s.control.nextFrame, fm, ts.map fun t => ⟨true, t⟩, c⟩
    let n := freeFrameSlot s.control.frames
    (acceptFrame fm ts ps c s).control =
      { s.control with
        queue := s.control.queue ++ (.frame n f :: ts.flatMap (targetPrograms ps s.journal)) ++ [.done n]
        frames := s.control.frames ++ [⟨n, f, false, false⟩]
        nextFrame := s.control.nextFrame + 1 } := by
  simp [acceptFrame, h]

/-- With the frame area full nothing is accepted (R165). -/
theorem acceptFrame_full (fm : FrameFormat) (ts : List Target) (ps : List Nat) (c : Continuation) {s : State}
    (h : frameFree s = false) : acceptFrame fm ts ps c s = s := by
  simp [acceptFrame, h]

/-- Accepting a frame never changes the store. -/
@[simp] theorem acceptFrame_store (fm : FrameFormat) (ts : List Target) (ps : List Nat) (c : Continuation) (s : State) :
    (acceptFrame fm ts ps c s).control.store = s.control.store := by
  unfold acceptFrame
  split <;> rfl

/-- A frame without a control record leaves the journal's bookkeeping alone. -/
theorem acceptFrame_journal (fm : FrameFormat) (ts : List Target) (ps : List Nat) (c : Continuation) (s : State)
    (h : hasControl ts = false) : (acceptFrame fm ts ps c s).journal = s.journal := by
  unfold acceptFrame
  split
  · simp [h]
  · rfl

/-- A claim gives as many places as entries (R131). -/
theorem claimRun_length (ds : List Draft) (j : Journal) : (claimRun ds j).1.length = ds.length := by
  induction ds generalizing j with
  | nil => rfl
  | cons d t ih => simp [claimRun, ih]

/-- The entries of a run carry consecutive indexes from the next one on (R129). -/
theorem claimRun_indexes (ds : List Draft) (j : Journal) :
    (claimRun ds j).1.map (·.2.index) = List.range' j.next ds.length := by
  induction ds generalizing j with
  | nil => rfl
  | cons d t ih =>
    simp only [claimRun, claimOne, List.map_cons, ih, List.length_cons, List.range'_succ]

/-- A claim moves the next index on by the number of entries (R129). -/
theorem claimRun_next (ds : List Draft) (j : Journal) : (claimRun ds j).2.next = j.next + ds.length := by
  induction ds generalizing j with
  | nil => rfl
  | cons d t ih =>
    simp only [claimRun, claimOne, ih, List.length_cons]
    omega

/-! ### The store's canonical form -/

theorem programWrite_wf {st : Store} (p : Program) (h : st.wf = true) : (programWrite st p).wf = true := by
  simp only [Store.wf, Bool.and_eq_true] at h ⊢
  cases p with
  | frame n f => exact ⟨h.1, tabWf_tabPut _ _ h.2⟩
  | target t =>
    cases t <;> simp_all [programWrite, storeWrite, tabWf_tabPut, tabWf_tabSet]
  | entry n e => simp_all [programWrite, tabWf_tabPut]
  | control b c u => cases b <;> simp_all [programWrite]
  | done n =>
    simp only [programWrite]
    split
    · exact ⟨h.1, tabWf_tabPut _ _ h.2⟩
    · exact h
  | clearFrame n => exact ⟨h.1, tabWf_tabDel _ h.2⟩

theorem programTear_wf {st : Store} (p : Program) (h : st.wf = true) : (programTear st p).wf = true := by
  simp only [Store.wf, Bool.and_eq_true] at h ⊢
  cases p with
  | frame n f => exact ⟨h.1, tabWf_tabPut _ _ h.2⟩
  | target t =>
    cases t <;> simp_all [programTear, storeTear, tabWf_tabPut]
  | entry n e => simp_all [programTear, tabWf_tabPut]
  | control b c u => cases b <;> simp_all [programTear]
  | done n =>
    simp only [programTear]
    split
    · exact ⟨h.1, tabWf_tabPut _ _ h.2⟩
    · exact h
  | clearFrame n => exact ⟨h.1, tabWf_tabPut _ _ h.2⟩

theorem eraseSlots_wf {st : Store} (ok : Bool) (b : Nat) (h : st.wf = true) : (eraseSlots ok b st).wf = true := by
  cases ok with
  | false => exact h
  | true =>
    simp only [Store.wf, eraseSlots, Bool.and_eq_true] at h ⊢
    simp_all [tabWf_filter]

/-- The store after reset is in canonical form. -/
theorem reset_store_wf : State.reset.control.store.wf = true := rfl

/-! ### The bytes on MISO (R168, R184) -/

/-- In reset MISO is not driven. -/
theorem misoByte_held (n k : Nat) {s : State} (h : s.station = .held) : misoByte n s k = none := by simp [misoByte, h]

/-- 0xFF while the command's bytes come in. -/
theorem misoByte_incoming {n k : Nat} {s : State} (h : s.station ≠ .held) (hk : k < n) : misoByte n s k = some 0xFF := by
  simp [misoByte, h, hk]

/-- Then the reply's bytes. -/
theorem misoByte_reply (n : Nat) {k : Nat} {s : State} (h : s.station ≠ .held) (hk : k < s.port.reply.length) :
    misoByte n s (n + k) = s.port.reply[k]? := by
  simp [misoByte, h, hk]

/-- Then 0xFF, unless a CURSOR_READ's records follow. -/
theorem misoByte_after {n k : Nat} {s : State} (h : s.station ≠ .held) (hc : ∀ cs, s.port.session ≠ .cursor cs)
    (hk : n + s.port.reply.length ≤ k) : misoByte n s k = some 0xFF := by
  have h1 : ¬ k < n := by omega
  have h2 : s.port.reply[k - n]? = none := List.getElem?_eq_none (by omega)
  simp only [misoByte, h, h1, h2, if_false]
  cases hs : s.port.session with
  | cursor cs => exact absurd hs (hc cs)
  | none => rfl
  | statusFlag => rfl
  | notice m => rfl

/-! ### POSITION sends (R101, R164) -/

/-- A call for a POSITION is joined to one that waits, waits itself, or is placed. -/
theorem callSend_cases (j : Nat) (s : State) :
    (sendWaiting s j (closingPeriod s) = true ∧
      callSend j s = { s with control := { s.control with
        waits := s.control.waits.map (joinSend j (closingPeriod s) (sendFrames j s)) } }) ∨
    (sendWaiting s j (closingPeriod s) = false ∧ sendFrames j s ≠ [] ∧
      callSend j s = addWait (sendFrames j s) (.positionSend j (closingPeriod s)) s) ∨
    (sendWaiting s j (closingPeriod s) = false ∧ sendFrames j s = [] ∧
      callSend j s = placePosition j (closingPeriod s) s) := by
  cases hw : sendWaiting s j (closingPeriod s)
  · cases hf : sendFrames j s <;> simp [callSend, hw, hf]
  · simp [callSend, hw]

/-- A wait joined by a call waits for its own frames and those of the call. -/
theorem mem_joinSend_frames {j p n : Nat} {frames : List Nat} {w : Wait} (h : w.item = .positionSend j p) :
    n ∈ (joinSend j p frames w).frames ↔ n ∈ w.frames ∨ n ∈ frames := by
  by_cases hn : n ∈ w.frames <;> simp [joinSend, h, hn]

/-- A wait for anything else stays as it is. -/
theorem joinSend_other {j p : Nat} (frames : List Nat) {w : Wait} (h : w.item ≠ .positionSend j p) :
    joinSend j p frames w = w := by simp [joinSend, h]

@[simp] theorem joinSend_item (j p : Nat) (frames : List Nat) (w : Wait) : (joinSend j p frames w).item = w.item := by
  unfold joinSend
  split <;> rfl

/-! ### Releases that wait (R37, R85) -/

/-- A release waits exactly when its tag is noted by either rule. -/
theorem releasePending_iff (s : State) (t : Nat) :
    releasePending s t = true ↔ t ∈ s.requests.deferred ∨ t ∈ s.requests.lapsing := by simp [releasePending]

/-- What is no longer waited for waits no more. -/
theorem undefer_done (t : Nat) (s : State) : releasePending (undefer t s) t = false := by simp [releasePending, undefer]

@[simp] theorem undefer_grants (t : Nat) (s : State) : (undefer t s).requests.grants = s.requests.grants := rfl

@[simp] theorem undefer_lives (t : Nat) (s : State) : (undefer t s).requests.lives = s.requests.lives := rfl

@[simp] theorem holdBack_grants (t : Nat) (s : State) : (holdBack t s).requests.grants = s.requests.grants := rfl

@[simp] theorem holdBack_deferred (t : Nat) (s : State) : (holdBack t s).requests.deferred = s.requests.deferred := rfl

/-! ### Recovery (R133, R172, R173) -/

/-- The scan keeps a state that cannot be read from the slots as the record has it. -/
@[simp] theorem scannedState_bad (st : Store) (b k : Nat) (passed : List Nat) (n : Nat) :
    scannedState st b k passed n .bad = .bad := rfl

@[simp] theorem scannedState_erasing (st : Store) (b k : Nat) (passed : List Nat) (n : Nat) :
    scannedState st b k passed n .erasing = .erasing := rfl

/-- The control record is written again with the frame's indices and the blocks recovery has, as the next copy. -/
theorem completeTarget_control (c : ControlRec) (s : State) :
    (completeTarget (.control c) s).control =
        { s.control with queue := s.control.queue ++
          [.control (!s.journal.lastB) ⟨s.journal.writes + 1, { c with blocks := s.journal.blocks }⟩ .frame] } ∧
      (completeTarget (.control c) s).journal = { s.journal with writes := s.journal.writes + 1, lastB := !s.journal.lastB } :=
  ⟨rfl, rfl⟩

/-- Recovery that stops runs no further program, and keeps what it owes. -/
theorem recoveryFails_control (s : State) :
    (recoveryFails s).control = { s.control with queue := [] } ∧ (recoveryFails s).journal.erase = none ∧
      (recoveryFails s).recovery =
        s.recovery.map fun r => { r with fault := some .recoveryFailed, phase := .completing } := ⟨rfl, rfl, rfl⟩

/-- What a frame slot counts for: one frame left STORED when it reads as STORED, known or not. -/
@[simp] theorem slotPending_unknown (n : Nat) (b : Bool) : slotPending (.unknown n b) = b := rfl

@[simp] theorem slotPending_stored (f : Frame) : slotPending (.stored f) = true := rfl

@[simp] theorem slotPending_doneTorn (f : Frame) : slotPending (.doneTorn f) = true := rfl

@[simp] theorem slotPending_done (f : Frame) : slotPending (.done f) = false := rfl

@[simp] theorem slotPending_torn : slotPending .torn = false := rfl

/-- The count that RECOVERY_END takes is the number of frames that read as STORED. -/
theorem storedCount_eq_framesLeft (st : Store) : storedCount st = framesLeft st := by
  unfold storedCount framesLeft
  congr 1
  funext p
  cases p.2 <;> rfl

end Sys2Proof.Machine
end

