-- ==== Sys2Proof/Laws/PerInstr.lean ====
section
/-! SUPPORT. Statements made of every command as syntax, one lemma for each constructor. -/

namespace Sys2Proof.Laws.ArgLength

/-- The argument bytes of a command are as many as its opcode's layout gives (R184, R190). -/
def Statement (i : Instr) : Prop :=
  ∀ op k, opcodeOf i = some op → argBytes op = some k → i ≠ .badCommand op → (argumentBytes i).length = k

theorem toBytes_length (n v : Nat) : (Machine.toBytes n v).length = n := by
  induction n with
  | zero => rfl
  | succ n ih => simp [Machine.toBytes, ih]

theorem idBytes_length (c : CardId) : (idBytes c).length = 6 := by simp [idBytes, toBytes_length]

theorem refBytes_length (b : Bool) (r : Option Nat) : (refBytes b r).length = 5 := by simp [refBytes, toBytes_length]

theorem boolByte_length (b : Bool) : (Machine.boolByte b).length = 1 := by simp [Machine.boolByte, toBytes_length]

/-- Every command's argument bytes fit its opcode's layout. -/
theorem of_bytes (i : Instr) : Statement i := by
  intro op k h1 h2 h3
  cases i <;> simp only [opcodeOf, reduceCtorEq, Option.some.injEq] at h1 <;>
    first
      | (subst h1; simp only [argBytes, Option.some.injEq] at h2; subst h2
         simp [argumentBytes, toBytes_length, idBytes_length, refBytes_length, boolByte_length])
      | (subst h1; exact absurd rfl h3)

theorem status (protectN : Bool) : Statement (.status protectN) := of_bytes _
theorem start (station mall feeRate fixedFee ceiling holdLife closeLimit : Nat) : Statement (.start station mall feeRate fixedFee ceiling holdLife closeLimit) := of_bytes _
theorem close : Statement .close := of_bytes _
theorem rosterRead : Statement .rosterRead := of_bytes _
theorem issue (slot amount : Nat) (reloadable : Bool) (tillRef : Option Nat) : Statement (.issue slot amount reloadable tillRef) := of_bytes _
theorem redeem (slot : Nat) (card : CardId) (amount : Nat) (allowPartial : Bool) (tillRef : Option Nat) : Statement (.redeem slot card amount allowPartial tillRef) := of_bytes _
theorem complete (slot amount : Nat) : Statement (.complete slot amount) := of_bytes _
theorem cancel (slot : Nat) : Statement (.cancel slot) := of_bytes _
theorem topup (slot : Nat) (card : CardId) (amount : Nat) (tillRef : Option Nat) : Statement (.topup slot card amount tillRef) := of_bytes _
theorem refund (slot : Nat) (card : CardId) (amount : Nat) (tillRef : Option Nat) : Statement (.refund slot card amount tillRef) := of_bytes _
theorem enquire (slot : Nat) (card : CardId) : Statement (.enquire slot card) := of_bytes _
theorem freeze (slot : Nat) (card : CardId) : Statement (.freeze slot card) := of_bytes _
theorem unfreeze (slot : Nat) (card : CardId) (tillRef : Option Nat) (protectN : Bool) : Statement (.unfreeze slot card tillRef protectN) := of_bytes _
theorem rangeLock (lock low high : Nat) (active : Bool) (protectN : Bool) : Statement (.rangeLock lock low high active protectN) := of_bytes _
theorem slotRead (slot : Nat) : Statement (.slotRead slot) := of_bytes _
theorem slotFree (slot : Nat) : Statement (.slotFree slot) := of_bytes _
theorem takeNotice : Statement .takeNotice := of_bytes _
theorem setMask (mask : Nat) : Statement (.setMask mask) := of_bytes _
theorem positionRead (generation station : Nat) : Statement (.positionRead generation station) := of_bytes _
theorem cursorSet (cursor startIndex count blockLen direction endAction mode filter : Nat) (notice : Bool) : Statement (.cursorSet cursor startIndex count blockLen direction endAction mode filter notice) := of_bytes _
theorem cursorRead (cursor : Nat) : Statement (.cursorRead cursor) := of_bytes _
theorem archiveAck (index : Nat) : Statement (.archiveAck index) := of_bytes _
theorem badCommand (opcode : Nat) : Statement (.badCommand opcode) := of_bytes _
theorem cursorEntryRead : Statement .cursorEntryRead := of_bytes _
theorem noticeRecordClocked : Statement .noticeRecordClocked := of_bytes _
theorem noticesLostCleared : Statement .noticesLostCleared := of_bytes _
theorem frameReceived (bytes : List Byte) : Statement (.frameReceived bytes) := of_bytes _
theorem presence : Statement .presence := of_bytes _
theorem holdReq : Statement .holdReq := of_bytes _
theorem settleReq : Statement .settleReq := of_bytes _
theorem creditReq : Statement .creditReq := of_bytes _
theorem statusReq : Statement .statusReq := of_bytes _
theorem holdAns : Statement .holdAns := of_bytes _
theorem settleAns : Statement .settleAns := of_bytes _
theorem creditAns : Statement .creditAns := of_bytes _
theorem statusAns : Statement .statusAns := of_bytes _
theorem position : Statement .position := of_bytes _
theorem attemptBegin : Statement .attemptBegin := of_bytes _
theorem attemptIntact : Statement .attemptIntact := of_bytes _
theorem attemptCollided (draw : Nat) : Statement (.attemptCollided draw) := of_bytes _
theorem backoffEnd : Statement .backoffEnd := of_bytes _
theorem presenceTimer : Statement .presenceTimer := of_bytes _
theorem owedFramePlaced : Statement .owedFramePlaced := of_bytes _
theorem silenceTimeout (station : Nat) : Statement (.silenceTimeout station) := of_bytes _
theorem holdExpiry (tag : Nat) : Statement (.holdExpiry tag) := of_bytes _
theorem heldBackExpiry (tag : Nat) : Statement (.heldBackExpiry tag) := of_bytes _
theorem holdTimerExpiry (slot : Nat) : Statement (.holdTimerExpiry slot) := of_bytes _
theorem answerWaitExpiry (home reqNo : Nat) : Statement (.answerWaitExpiry home reqNo) := of_bytes _
theorem inDoubtMove (home reqNo : Nat) : Statement (.inDoubtMove home reqNo) := of_bytes _
theorem deferredRelease (tag : Nat) : Statement (.deferredRelease tag) := of_bytes _
theorem counterStep : Statement .counterStep := of_bytes _
theorem closeBegin : Statement .closeBegin := of_bytes _
theorem closeDeadline : Statement .closeDeadline := of_bytes _
theorem closeCompletion : Statement .closeCompletion := of_bytes _
theorem programComplete (result : ProgramResult) : Statement (.programComplete result) := of_bytes _
theorem eraseBegin : Statement .eraseBegin := of_bytes _
theorem eraseComplete (ok : Bool) : Statement (.eraseComplete ok) := of_bytes _
theorem reset : Statement .reset := of_bytes _
theorem resetRelease : Statement .resetRelease := of_bytes _
theorem recoveryEnd : Statement .recoveryEnd := of_bytes _
theorem cursorRecordChosen : Statement .cursorRecordChosen := of_bytes _

end Sys2Proof.Laws.ArgLength
end

