-- ==== Sys2Proof/Tests/Slice0.lean ====
section
/-! SUPPORT. Tests: ill-formed commands refused, select periods and frames written out from the spec's layouts, the spec's worked
values and sequences, and, for each statement with hypotheses, a theorem `meets_<Name>` that shows states and operands meeting the
hypotheses of each of its clauses. -/

open Sys2Proof Sys2Proof.Machine

set_option Elab.async false
set_option linter.unusedVariables false

/-! ### Small states -/

/-- A TRADING station 7 of mall 9: card 1 with 5,000, card 2 frozen with 100, station 12 PRESENT, nothing under way. -/
def base : State :=
  { State.reset with
    station := .trading
    conf := some ⟨150, 5, 50000, 120, 900⟩
    ident := some ⟨7, 9, 3, 4, 256⟩
    custody := ⟨[(0, ⟨1, .active, 5000, 0, 0, true, 1⟩), (1, ⟨2, .frozen, 100, 0, 0, true, 1⟩)], [], 5100⟩
    positions := ⟨⟨.a, 1, false, 0⟩, [], [], 0, none⟩
    tracker := ⟨[], 5⟩
    link := { Link.blank with roster := [(12, ⟨.present, 1, 0, 0⟩)] }
    recovery := none }

/-- The frame area filled with 16 pending frames. -/
def full (s : State) : State :=
  { s with control := { s.control with
    frames := (List.range 16).map fun n => ⟨n, ⟨n + 1, .issue, [], .none⟩, false, false⟩, nextFrame := 17 } }

/-- One pending frame that writes a record. -/
def writing (tg : Target) (format : FrameFormat) (s : State) : State :=
  { s with control := { s.control with frames := [⟨0, ⟨1, format, [⟨true, tg⟩], .none⟩, false, false⟩], nextFrame := 2 } }

/-- The journal inside its reserve: every block FULL. -/
def reserved (s : State) : State :=
  { s with journal := { s.journal with blocks := List.replicate 32 ⟨.full, 0⟩ } }

/-- Till slot 2 holds a slot. -/
def slotIs (sl : Slot) (s : State) : State := { s with slots := [(2, sl)] }

/-- A till slot HELD on hold 9 of 500, period 1. -/
def heldOf (card : CardId) : Slot :=
  ⟨.held, .redeem, card, 500, false, none, some ⟨9, 1, 500⟩, some 1000, none, none⟩

/-- Hold 9 of 500 on card 1, from a requester, with a state, and the card to it. -/
def holdIs (requester : Nat) (st : HoldState) (s : State) : State :=
  { s with
    requests := ⟨[(0, ⟨requester, some 6, 1, 1, .hold 9 500 st⟩)], [(9, 40)], [], []⟩
    custody := ⟨[(0, ⟨1, .active, 4500, 500, 1, true, 1⟩)], [], 5000⟩ }

/-- The head of the receive queue: a frame of station 12 with request number 6, stamped with period 1. -/
def heard (p : Payload) (s : State) : State := { s with link := { s.link with rx := [⟨12, 7, 1, 6, p⟩] } }

/-- The same with another stamp. -/
def heardStamp (stamp : Nat) (p : Payload) (s : State) : State :=
  { s with link := { s.link with rx := [⟨12, 7, stamp, 6, p⟩] } }

/-- A tracker entry (12, 6) of period 1 in place 0, linked to slot 2. -/
def entryIs (kind : TrackKind) (s : State) : State :=
  { s with tracker :=
    ⟨[(0, ⟨⟨kind, 12, 6, 1, 4, 500, some 9, .sent⟩, 1, some 40, some 2, false, none, false, false⟩)], 6⟩ }

/-- The entry changed. -/
def entryMap (f : Track → Track) (s : State) : State :=
  { s with tracker := ⟨s.tracker.entries.map fun p => (p.1, f p.2), s.tracker.counter⟩ }

/-- A closing generation of period 1, period 2 open, with its row states. -/
def closing (rows : Tab CloseRow) (s : State) : State :=
  { s with positions := { s.positions with gen := ⟨.b, 2, true, 0⟩, view := some ⟨rows, true, some 9000, false⟩ } }

/-- The row of a station at the limit of every figure in the open generation of period 1. -/
def atLimit (j : Nat) (s : State) : State :=
  { s with positions := { s.positions with rowsA :=
    [(j, ⟨1, ⟨999999999999, 999999999999, 999999999999, 999999999999, 999999999999, 999999999999⟩, 0, none, false,
      ⟨999999999999, 999999999999, 999999999999, 0⟩⟩)] } }

/-- Every counterpart row CONFIRMED. -/
def settled : Tab CloseRow := (List.range 63).map fun n => (n + 1, ⟨.confirmed, true⟩)

/-- A full transmit queue. -/
def txFull (s : State) : State :=
  { s with link := { s.link with tx := List.replicate 16 ⟨12, 1, 0, .statusReq .enquire 1, 0⟩ } }

/-- Some cursor. -/
def cur0 : Cursor := ⟨.ready, 1, 1, 2, 2, 1, .forward, .stop, .successive, .all, false, false, []⟩

/-- Some journal entry. -/
def entry0 : JournalEntry := ⟨1, .issue, 1, .plain {}⟩

/-- A CURSOR_READ of cursor 1 under way at an item. -/
def reading (item : ReadItem) (c : Cursor) (s : State) : State :=
  { s with
    cursors := ⟨[(1, c)], 0⟩
    port := { s.port with session := .cursor ⟨1, item, none, false, 0, false⟩ } }

/-- A program at the head of the queue, and a pending frame in frame slot 0 with a continuation. -/
def programs (p : Program) (format : FrameFormat) (cont : Continuation) (s : State) : State :=
  { s with control := { s.control with
    queue := [p], frames := [⟨0, ⟨1, format, [⟨true, .generation ⟨.b, 2, false, 1⟩⟩], cont⟩, false, false⟩],
    nextFrame := 2 } }

/-- The erase of block 5 running, the write point in block 2, the other blocks FULL but those listed, which are ERASED. -/
def erasing (count : Nat) (free : List Nat) (s : State) : State :=
  { s with journal := { s.journal with
    wpBlock := 2, wpSlot := 4, erase := some ⟨5, .running 3⟩,
    blocks := (List.range 32).map fun n => if n = 2 then ⟨.inUse, 0⟩ else if n = 5 then ⟨.erasing, count⟩
      else if free.contains n then ⟨.erased, 0⟩ else ⟨.full, 0⟩ } }

/-- RECOVERING with nothing left to do but its end. -/
def ending (fault : Option FaultCode) (owed : List Continuation) : State :=
  { State.reset with recovery := some ⟨.completing, fault, owed⟩ }

/-- The next request number needs a counter step. -/
def stepDue (s : State) : State := { s with tracker := ⟨s.tracker.entries, 256⟩ }

/-- Two entries stored, of indices 1 and 2. -/
def storedTwo (s : State) : State :=
  { s with
    control := { s.control with store := { s.control.store with
      journal := [(0, .whole entry0), (1, .whole { entry0 with index := 2 })] } }
    journal := { s.journal with next := 3 } }

/-- A grant table that is full. -/
def grantsFull (s : State) : State :=
  { s with requests := { s.requests with
    grants := (List.range 1024).map fun n => (n, ⟨12, some 1, 1, 1, .credit .topup 1⟩) } }

/-- A custody table that is full. -/
def cardsFull (s : State) : State :=
  { s with custody := { s.custody with
    cards := (List.range 16384).map fun n => (n, ⟨n + 1, .active, 0, 0, 0, true, 1⟩) } }

/-- The table law as a check. -/
def tablesOk (s : State) : Bool :=
  s.control.store.wf && tabWf s.custody.cards && tabWf s.custody.locks && tabWf s.requests.grants &&
    tabWf s.requests.lives && tabWf s.tracker.entries && tabWf s.slots && tabWf s.positions.rowsA &&
    tabWf s.positions.rowsB && tabWf s.link.roster && tabWf s.cursors.table

/-- A command answers next, and the state after passes a test. -/
def after (c : Instr) (s : State) (p : State → Bool) : Bool :=
  match exec c s with
  | .next t => p t
  | _ => false

/-- The same for two commands, one after the other. -/
def after2 (c d : Instr) (s : State) (p : State → Bool) : Bool := after c s fun t => after d t p

/-- The first card record. -/
def card0 (s : State) : Card := tabGetD s.custody.cards 0 ⟨0, .active, 0, 0, 0, false, 0⟩

/-! ### Well-formedness: each check refuses an ill-formed command -/

theorem test_wf_issue_slot : (Instr.issue 256 1 true none).wellFormed = false := by decide
theorem test_wf_issue_amount : (Instr.issue 0 16777216 true none).wellFormed = false := by decide
theorem test_wf_issue_reference : (Instr.issue 0 1 true (some 4294967296)).wellFormed = false := by decide
theorem test_wf_start_station : (Instr.start 256 1 0 0 0 1 60).wellFormed = false := by decide
theorem test_wf_start_mall : (Instr.start 7 65536 0 0 0 1 60).wellFormed = false := by decide
theorem test_wf_start_limit : (Instr.start 7 9 0 0 0 1 65536).wellFormed = false := by decide
theorem test_wf_redeem_card : (Instr.redeem 0 ⟨7, 1, 256⟩ 1 true none).wellFormed = false := by decide
theorem test_wf_complete_amount : (Instr.complete 0 16777216).wellFormed = false := by decide
theorem test_wf_cancel_slot : (Instr.cancel 256).wellFormed = false := by decide
theorem test_wf_topup_serial : (Instr.topup 0 ⟨7, 4294967296, 1⟩ 1 none).wellFormed = false := by decide
theorem test_wf_enquire_home : (Instr.enquire 0 ⟨256, 1, 1⟩).wellFormed = false := by decide
theorem test_wf_unfreeze_reference : (Instr.unfreeze 0 ⟨7, 1, 1⟩ (some 4294967296) true).wellFormed = false := by decide
theorem test_wf_range_lock : (Instr.rangeLock 0 1 4294967296 true true).wellFormed = false := by decide
theorem test_wf_mask : (Instr.setMask 256).wellFormed = false := by decide
theorem test_wf_position_read : (Instr.positionRead 0 256).wellFormed = false := by decide
theorem test_wf_cursor_set : (Instr.cursorSet 0 0 65536 1 1 1 1 1 true).wellFormed = false := by decide
theorem test_wf_cursor_read : (Instr.cursorRead 256).wellFormed = false := by decide
theorem test_wf_archive_ack : (Instr.archiveAck 4294967296).wellFormed = false := by decide
theorem test_wf_bad_command : (Instr.badCommand 0x10).wellFormed = false := by decide
theorem test_wf_draw : (Instr.attemptCollided 64).wellFormed = false := by decide
theorem test_wf_silence : (Instr.silenceTimeout 0).wellFormed = false := by decide
theorem test_wf_expiry_tag : (Instr.holdExpiry 0).wellFormed = false := by decide
theorem test_wf_hold_timer : (Instr.holdTimerExpiry 8).wellFormed = false := by decide
theorem test_wf_answer_wait : (Instr.answerWaitExpiry 64 1).wellFormed = false := by decide
theorem test_wf_issue_ok : (Instr.issue 7 9999999 false (some 55012)).wellFormed = true := by decide

/-! ### Select periods, byte by byte from the layouts of R187 to R190 -/

theorem test_decode_status : decodeTill false [0x01] = some (.status false) := by decide
theorem test_decode_start :
    decodeTill true [0x02, 7, 0x01, 0x02, 0x00, 0x96, 5, 0x00, 0xC3, 0x50, 0x00, 0x78, 0x03, 0x84]
      = some (.start 7 258 150 5 50000 120 900) := by decide
theorem test_decode_issue : decodeTill true [0x10, 3, 0x00, 0x4E, 0x20, 0x01, 0, 0, 0, 9] = some (.issue 3 20000 true none) := by
  decide
theorem test_decode_redeem :
    decodeTill true [0x11, 3, 7, 0x00, 0x00, 0x08, 0xA2, 12, 0x00, 0x0F, 0xA0, 0xFE, 0x00, 0x00, 0xD6, 0xE4]
      = some (.redeem 3 ⟨7, 2210, 12⟩ 4000 false (some 55012)) := by decide
theorem test_decode_complete : decodeTill true [0x12, 3, 0x00, 0x0D, 0xAC] = some (.complete 3 3500) := by decide
theorem test_decode_cancel : decodeTill true [0x13, 5] = some (.cancel 5) := by decide
theorem test_decode_topup :
    decodeTill true [0x14, 2, 7, 0, 0, 0, 1, 77, 0, 0, 100, 0x01, 0, 0, 0, 9] = some (.topup 2 ⟨7, 1, 77⟩ 100 none) := by decide
theorem test_decode_refund :
    decodeTill true [0x15, 2, 7, 0, 0, 0, 1, 77, 0, 0, 100, 0x02, 0, 0, 0, 9] = some (.refund 2 ⟨7, 1, 77⟩ 100 (some 9)) := by
  decide
theorem test_decode_enquire : decodeTill true [0x16, 1, 7, 0, 0, 4, 18, 24] = some (.enquire 1 ⟨7, 1042, 24⟩) := by decide
theorem test_decode_freeze : decodeTill true [0x17, 1, 7, 0, 0, 4, 18, 24] = some (.freeze 1 ⟨7, 1042, 24⟩) := by decide
theorem test_decode_unfreeze :
    decodeTill false [0x18, 1, 7, 0, 0, 4, 18, 24, 2, 0, 0, 1, 0] = some (.unfreeze 1 ⟨7, 1042, 24⟩ (some 256) false) := by decide
theorem test_decode_range_lock :
    decodeTill true [0x19, 3, 0, 0, 0, 1, 0x05, 0xF5, 0xE0, 0xFF, 9] = some (.rangeLock 3 1 99999999 true true) := by decide
theorem test_decode_slot_read : decodeTill true [0x20, 4] = some (.slotRead 4) := by decide
theorem test_decode_slot_free : decodeTill true [0x21, 4] = some (.slotFree 4) := by decide
theorem test_decode_take_notice : decodeTill true [0x30] = some .takeNotice := by decide
theorem test_decode_set_mask : decodeTill true [0x31, 3] = some (.setMask 3) := by decide
theorem test_decode_close : decodeTill true [0x40] = some .close := by decide
theorem test_decode_roster_read : decodeTill true [0x41] = some .rosterRead := by decide
theorem test_decode_position_read : decodeTill true [0x42, 1, 12] = some (.positionRead 1 12) := by decide
theorem test_decode_cursor_set :
    decodeTill true [0x50, 2, 0, 1, 0, 0, 0, 10, 64, 2, 1, 3, 4, 1] = some (.cursorSet 2 65536 10 64 2 1 3 4 true) := by decide
theorem test_decode_cursor_read : decodeTill true [0x51, 1] = some (.cursorRead 1) := by decide
theorem test_decode_archive_ack : decodeTill true [0x52, 0, 0x0A, 0xAE, 0x60] = some (.archiveAck 700000) := by decide
theorem test_decode_bad_command : decodeTill true [0x22, 1] = some (.badCommand 0x22) := by decide
theorem test_decode_cut_short : decodeTill true [0x12, 3, 0, 0] = none := by decide

/-! ### Worked values -/

/-- The introduction's worked check value, and the card of chapter 2's sequences. -/
theorem test_check_values : cardId 7 1042 = ⟨7, 1042, 24⟩ ∧ cardId 7 2210 = ⟨7, 2210, 12⟩ := by decide

/-- Other identifiers the worked sequences name. -/
theorem test_check_values_more :
    cardValid ⟨44, 310552, 8⟩ = true ∧ cardValid ⟨7, 3318, 83⟩ = true ∧ cardValid ⟨7, 4471, 19⟩ = true ∧
      cardValid ⟨7, 1042, 25⟩ = false := by decide

/-- The worked cases of stamp extension (3.4). -/
theorem test_stamp_cases :
    extendStamp 257 255 = 255 ∧ extendStamp 300 44 = 300 ∧ extendStamp 300 45 = 301 ∧ extendStamp 300 40 = 296 ∧
      extendStamp 5 250 = -6 ∧ extendStamp 130 1 = 257 := by decide

/-- Chapter 6's worked statement and limit cases: the fee. -/
theorem test_fee_cases :
    feeOf 27145 175 9 5 = 520 ∧ feeOf (feeBasis 3000 4500) 175 3 5 = 0 ∧ feeOf 3000 5 0 0 = 2 ∧ feeOf 1000 5 0 0 = 0 ∧
      feeOf 2999 5 0 0 = 1 ∧ feeOf 40 175 12 5 = 40 ∧ feeOf 27145 0 0 0 = 0 ∧
      feeOf 62999999999937 1000 0 0 = 6299999999994 ∧ feeOf 8000 175 2 5 = 150 ∧ feeOf 8500 175 3 5 = 164 := by decide

/-- Chapter 6's worked statement: the nets. -/
theorem test_net_cases :
    rowNet ⟨12345, 0, 0, 4000, 2500, 0⟩ = 10845 ∧ rowNet ⟨8000, 5000, 1200, 15000, 0, 300⟩ = -12900 ∧
      rowNet ⟨2000, 0, 0, 0, 0, 0⟩ = 2000 ∧ rowNet ⟨4000, 2500, 0, 12345, 0, 0⟩ = -10845 := by decide

/-- Station 20 at the completion of period 88 (chapter 6's worked case). -/
def station20 : State :=
  { base with
    conf := some ⟨175, 5, 50000, 120, 900⟩
    ident := some ⟨20, 9, 0, 0, 256⟩
    custody := ⟨[], [], 3412700⟩
    positions := ⟨⟨.b, 89, true, 87⟩,
      [(7, ⟨88, ⟨12345, 0, 0, 4000, 2500, 0⟩, 4, some ⟨4000, 2500, 0, 12345, 0, 0⟩, true, ⟨0, 0, 0, 0⟩⟩),
       (12, ⟨88, ⟨8000, 5000, 1200, 15000, 0, 300⟩, 2, some ⟨15000, 0, 300, 8000, 5000, 1200⟩, true, ⟨0, 0, 0, 0⟩⟩),
       (20, ⟨88, .zero, 0, none, false, ⟨6000, 15000, 0, 2⟩⟩),
       (30, ⟨88, ⟨2000, 0, 0, 0, 0, 0⟩, 1, some ⟨0, 0, 0, 1500, 0, 0⟩, true, ⟨0, 0, 0, 0⟩⟩)],
      [], 88, none⟩ }

/-- The row states of that case. -/
def view20 : CloseView :=
  ⟨(List.range 63).map fun n => (n + 1, ⟨if n + 1 = 30 then .disputed
    else if [3, 7, 12, 51].contains (n + 1) then .confirmed else .empty, true⟩), true, some 1000, false⟩

/-- The statement head at journal index 90,311. -/
theorem test_statement_head :
    statementHead station20 view20 =
      ⟨-2575, 520, 27145, 9, 2000, 4, 1, 57, 0, 0, 0, 6000, 15000, 0, 3412700, 175, 5⟩ := by decide +kernel

/-- The run is two entries long; the second is row 30's exception. -/
theorem test_statement_exception :
    (statementRun station20 view20).length = 2 ∧
      exceptionBody station20 view20 30 =
        .row ⟨30, .disputed, true, ⟨2000, 0, 0, 0, 0, 0⟩, 2000, some ⟨0, 0, 0, 1500, 0, 0⟩⟩ := by decide +kernel

/-- The check value of the CRC of R193's polynomial, initial value and bit order over the nine digits "123456789", as published for
those parameters (PRESUMED: from outside the manual). -/
theorem test_crc : crc16 [0x31, 0x32, 0x33, 0x34, 0x35, 0x36, 0x37, 0x38, 0x39] = 0x29B1 := by decide +kernel

/-- A CREDIT_ANS is 13 bytes and a POSITION 45 (R194). -/
theorem test_frame_lengths :
    (encodeFrame 9 ⟨7, 12, 1, 6, .creditAns .applied none⟩).length = 13 ∧
      (encodeFrame 9 ⟨7, 12, 1, 0, .position 40 .zero true⟩).length = 45 := by decide

/-- A HOLD_REQ laid out by R194. -/
theorem test_frame_bytes :
    frameBody 258 ⟨12, 7, 41, 881, .holdReq 2210 4000 true⟩ =
      [1, 2, 12, 7, 2, 41, 3, 0x71, 8, 0, 0, 0x08, 0xA2, 0x00, 0x0F, 0xA0, 1] := by decide

/-- A frame whose enumerated field holds no value of its list is not valid (R194). -/
theorem test_frame_bad_reason : decodePayload 3 [1, 0, 0, 0, 0, 0, 0, 4] = none := by decide

/-! ### A card's life at its home (chapter 1) -/

/-- Station 7 in period 41. -/
def home7 : State :=
  { base with
    ident := some ⟨7, 9, 1041, 50116, 256⟩
    custody := ⟨[], [], 1250000⟩
    positions := ⟨⟨.a, 41, false, 40⟩, [], [], 40, none⟩ }

theorem test_issue :
    after (.issue 3 20000 false none) home7 (fun t =>
      card0 t = ⟨1042, .active, 20000, 0, 0, false, 41⟩ && t.custody.liability = 1270000 &&
      (t.ident.map (·.serialCounter)) = some 1042 && (readRow t .a 41 7).own.tO = 20000 &&
      ((getSlot t 3).map (·.state)) = some .issuing) = true := by decide

/-- After the ISSUE. -/
def home7b : State := { home7 with custody := ⟨[(0, ⟨1042, .active, 20000, 0, 0, false, 41⟩)], [], 1270000⟩ }

/-- Station 12's refund of 500. -/
def refundOf (s : State) : State := { s with link := { s.link with rx := [⟨12, 7, 41, 6, .creditReq .refund 1042 500⟩] } }

theorem test_credit_req :
    after .creditReq (refundOf home7b) (fun t =>
      (card0 t).available = 20500 && t.custody.liability = 1270500 && (readRow t .a 41 12).fig.fi = 500 &&
      t.link.tx = [] && t.control.frames.length = 1) = true := by decide

/-- The repeat is held behind the frame and credits nothing. -/
theorem test_credit_req_repeat :
    after .creditReq (refundOf home7b) (fun t => after .creditReq (refundOf t) fun u =>
      u.custody = t.custody && u.control.frames = t.control.frames && u.control.waits.length = 1) = true := by decide

/-! ### Two requests for the last of a balance, and the two orders at one entry (chapter 2) -/

/-- Card 2,210 with 6,000. -/
def home7c : State := { home7 with custody := ⟨[(0, ⟨2210, .active, 6000, 0, 0, true, 40⟩)], [], 6000⟩ }

/-- Station 12's request for 4,000. -/
def ask12 (s : State) : State := { s with link := { s.link with rx := [⟨12, 7, 41, 880, .holdReq 2210 4000 false⟩] } }

/-- Station 30's request for 5,000, partial allowed. -/
def ask30 (s : State) : State := { s with link := { s.link with rx := [⟨30, 7, 41, 215, .holdReq 2210 5000 true⟩] } }

theorem test_hold_req_first :
    after .holdReq (ask12 home7c) (fun t => card0 t = ⟨2210, .active, 2000, 4000, 1, true, 41⟩ &&
      t.requests.grants = [(0, ⟨12, some 880, 2210, 41, .hold 50117 4000 .isOpen⟩)] &&
      t.requests.lives = [(50117, 120000)]) = true := by decide

theorem test_hold_req_partial :
    after .holdReq (ask12 home7c) (fun t => after .holdReq (ask30 t) fun u =>
      (card0 u).available = 0 && (card0 u).held = 6000 && (card0 u).openHolds = 2 &&
      tabGet u.requests.grants 1 = some ⟨30, some 215, 2210, 41, .hold 50118 2000 .isOpen⟩) = true := by decide

/-- The other order: station 12 is declined INSUFFICIENT at once. -/
theorem test_hold_req_insufficient :
    after .holdReq (ask30 home7c) (fun t => after .holdReq (ask12 t) fun u =>
      (card0 u).available = 1000 && (card0 u).held = 5000 &&
      u.link.tx = [⟨12, 41, 880, .holdAns .declined 0 0 (some .insufficient), 0⟩]) = true := by decide

/-- The card after both grants. -/
def home7d : State :=
  { home7 with
    custody := ⟨[(0, ⟨2210, .active, 0, 6000, 2, true, 41⟩)], [], 6000⟩
    requests := ⟨[(0, ⟨12, some 880, 2210, 41, .hold 50117 4000 .isOpen⟩),
      (1, ⟨30, some 215, 2210, 41, .hold 50118 2000 .isOpen⟩)], [(50117, 3), (50118, 5)], [], []⟩ }

/-- Station 12's capture of 3,500. -/
def settle12 (a : SettleAction) (s : State) : State :=
  { s with link := { s.link with rx := [⟨12, 7, 41, 884, .settleReq a 50117 2210 3500⟩] } }

theorem test_capture :
    after .settleReq (settle12 .capture home7d) (fun t => card0 t = ⟨2210, .active, 500, 2000, 1, true, 41⟩ &&
      t.custody.liability = 2500 && (readRow t .a 41 12).fig.ri = 3500 &&
      tabGet t.requests.grants 0 = some ⟨12, some 880, 2210, 41, .hold 50117 4000 (.captured 3500)⟩) = true := by decide

/-- The life ends first: the capture is answered TOO_LATE. -/
theorem test_expiry_then_capture :
    after (.holdExpiry 50117) home7d (fun t => card0 t = ⟨2210, .active, 4000, 2000, 1, true, 41⟩ &&
      t.custody.liability = 6000 && after .settleReq (settle12 .capture t) fun u =>
        u.custody = t.custody && (u.control.waits.any fun w => w.item = .answer 12 884 (.settleAns .tooLate .capture 0)))
      = true := by decide

/-- A release: the whole hold returns. -/
theorem test_release :
    after .settleReq (settle12 .release home7d) (fun t => (card0 t).available = 4000 && (card0 t).held = 2000 &&
      tabGet t.requests.grants 0 = some ⟨12, some 880, 2210, 41, .hold 50117 4000 .released⟩) = true := by decide

/-! ### A foreign redemption (chapter 4) -/

/-- Station 12 in period 41, station 7 PRESENT. -/
def acq12 : State :=
  { base with
    ident := some ⟨12, 9, 0, 0, 1024⟩
    custody := .blank
    link := { Link.blank with roster := [(7, ⟨.present, 41, 40, 0⟩)] }
    positions := ⟨⟨.a, 41, false, 40⟩, [(7, ⟨41, ⟨118200, 0, 0, 0, 0, 0⟩, 29, none, false, ⟨0, 0, 0, 0⟩⟩)], [], 40, none⟩
    tracker := ⟨[], 879⟩ }

theorem test_redeem :
    after (.redeem 3 ⟨7, 2210, 12⟩ 4000 false (some 55012)) acq12 (fun t =>
      ((getSlot t 3).map (·.state)) = some .authorising && t.link.tx = [⟨7, 41, 880, .holdReq 2210 4000 false, 0⟩] &&
      (t.tracker.entries.map fun p => (p.2.data.reqNo, p.2.attempts)) = [(880, 1)]) = true := by decide

/-- The answer: the slot is HELD and shows APPROVED 4,000. -/
theorem test_hold_ans :
    after (.redeem 3 ⟨7, 2210, 12⟩ 4000 false (some 55012)) acq12 (fun t =>
      after .holdAns { t with link := { t.link with rx := [⟨7, 12, 41, 880, .holdAns .granted 4000 50117 none⟩] } } fun u =>
        u.tracker.entries = [] && ((getSlot u 3).bind (·.hold)) = some ⟨50117, 41, 4000⟩ &&
        ((getSlot u 3).bind (·.timer)) = some 120000 &&
        ((getSlot u 3).bind (·.outcome)).map (fun o => (o.code, o.amount)) = some (.approved, 4000)) = true := by decide

/-- Slot 3 HELD. -/
def acq12held : State :=
  { acq12 with
    slots := [(3, ⟨.held, .redeem, ⟨7, 2210, 12⟩, 4000, false, some 55012, some ⟨50117, 41, 4000⟩, some 85400, none, none⟩)]
    tracker := ⟨[], 883⟩ }

theorem test_complete :
    after (.complete 3 3500) acq12held (fun t =>
      ((getSlot t 3).map fun sl => (sl.state, sl.amount)) = some (.settling, 3500) && t.link.tx = [] &&
      (t.tracker.entries.map fun p => (p.2.data.reqNo, p.2.data.kind, p.2.attempts)) = [(884, .capture, 0)] &&
      (t.control.frames.map fun f => f.frame.format) = [.trackerStore]) = true := by decide

/-- DONE 3,500 books the capture. -/
theorem test_settle_ans :
    after .settleAns { entryIs .capture acq12 with
        tracker := ⟨[(0, ⟨⟨.capture, 7, 884, 41, 2210, 3500, some 50117, .sent⟩, 1, some 374, none, false, none, false,
          false⟩)], 884⟩
        link := { acq12.link with rx := [⟨7, 12, 41, 884, .settleAns .done .capture 3500⟩] } }
      (fun t => (readRow t .a 41 7).fig.ra = 121700 && (readRow t .a 41 7).ka = 30 && t.tracker.entries = []) = true := by
  decide

/-- At the fourth wait the attempts are exhausted: the move to IN_DOUBT is queued. -/
theorem test_answer_wait_exhausted :
    after (.answerWaitExpiry 7 884) { acq12 with
        tracker := ⟨[(0, ⟨⟨.capture, 7, 884, 41, 2210, 3500, some 50117, .sent⟩, 4, some 1, none, false, none, false,
          false⟩)], 884⟩ }
      (fun t => (t.tracker.entries.map fun p => (p.2.data.state, p.2.attempts)) = [(.inDoubt, 4)] &&
        (t.control.frames.map fun f => f.frame.format) = [.trackerStore]) = true := by decide

/-! ### The link (chapter 3) -/

/-- Attempt 1 of a HOLD_REQ collides, and the draw is 1 of 0 to 1. -/
theorem test_collision :
    after2 .attemptBegin (.attemptCollided 1) { acq12 with link := { acq12.link with
        tx := [⟨7, 41, 881, .holdReq 2210 4000 false, 0⟩] } }
      (fun t => t.link.phase = .backoff 1 && (t.link.tx.map (·.attempts)) = [1]) = true := by decide

/-- A frame for another station sets its sender's silence time to 0 and is discarded. -/
theorem test_frame_for_another :
    after (.frameReceived (encodeFrame 9 ⟨7, 30, 41, 0, .position 40 .zero false⟩))
      { acq12 with link := { acq12.link with roster := [(7, ⟨.present, 41, 40, 4000⟩)] } }
      (fun t => t.link.rx = [] && t.link.roster = [(7, ⟨.present, 41, 40, 0⟩)]) = true := by decide +kernel

/-- A later PRESENCE raises the close target, and the close begins (R61, R96). -/
theorem test_presence_raises :
    after .presence { acq12 with link := { acq12.link with rx := [⟨7, 0, 42, 0, .presence false 42 41 true⟩] } }
      (fun t => t.positions.target = 41 && t.positions.gen = ⟨.b, 42, true, 40⟩) = true := by decide +kernel

/-! ### A close (chapter 5) -/

/-- Station 12's rows at the close of period 63. -/
def close12 : State :=
  { acq12held with
    link := { Link.blank with roster := [(7, ⟨.present, 63, 62, 0⟩), (30, ⟨.present, 63, 62, 0⟩)] }
    slots := [(2, ⟨.held, .redeem, ⟨7, 4471, 19⟩, 3000, false, none, some ⟨61002, 63, 3000⟩, some 9000, none, none⟩)]
    positions := ⟨⟨.a, 63, false, 62⟩, [(7, ⟨63, ⟨24000, 0, 0, 0, 0, 0⟩, 6, none, false, ⟨0, 0, 0, 0⟩⟩),
      (30, ⟨63, ⟨0, 0, 0, 5000, 2000, 0⟩, 0, none, false, ⟨0, 0, 0, 0⟩⟩)], [], 62, none⟩ }

theorem test_close_begins :
    after .close close12 (fun t => t.positions.gen = ⟨.b, 64, true, 62⟩ && t.positions.target = 63 &&
      (t.positions.view.map fun v => ([7, 30, 44].map fun j => (closeRow v j).state, v.ownFinal, v.deadline)) =
        some ([.pending, .awaiting, .empty], true, some 900000)) = true := by decide +kernel

/-- A close that completes as it begins: its CLOSE_BEGIN is not stored, and an answer to a POSITION waits for it, not for its
CLOSE_END (R101). -/
theorem test_send_waits_for_close_begin :
    after .closeBegin
      { base with
        positions := { base.positions with target := 1 }, link := { base.link with roster := [] } }
      (fun t => (t.positions.view.any fun v => v.completed) &&
        t.control.frames.map (fun f => f.frame.format) = [.closeBegin, .closeEnd] && sendFrames 12 t = [1] &&
        after .position (heardStamp 2 (.position 1 .zero false) t)
          (fun u => u.control.waits = [⟨[1], .positionSend 12 1⟩])) = true := by decide +kernel

/-! ### The journal's reserve (chapter 7) -/

/-- Station 20's blocks in period 57: block 14 IN_USE with one erased slot left, block 15 ERASED, the rest FULL. -/
def journal20 : State :=
  { base with journal := { base.journal with
    wpBlock := 14, wpSlot := 511, next := 700039,
    blocks := (List.range 32).map fun n => if n = 14 then ⟨.inUse, 0⟩ else if n = 15 then ⟨.erased, 0⟩ else ⟨.full, 0⟩ } }

/-- The claim that takes the free count from 513 to 512 posts JOURNAL_RESERVE and moves the write point to block 15. -/
theorem test_reserve_entered :
    freeCount journal20.journal = 513 ∧
      after (.issue 3 100 true none) journal20 (fun t => freeCount t.journal = 512 && t.journal.wpBlock = 15 &&
        t.journal.wpSlot = 0 && t.journal.next = 700040 &&
        (t.notices.queue.map (·.data)) = [⟨.journalReserve, .none, 512⟩]) = true := by decide +kernel

/-- Inside the reserve a REDEEM is refused with JOURNAL_FULL. -/
theorem test_reserve_refuses :
    after (.redeem 3 (cardId 7 1) 100 false none) { journal20 with journal := { journal20.journal with
      wpBlock := 15, wpSlot := 0, blocks := setBlockState journal20.journal.blocks 14 .full } }
      (fun t => t.port.reply = [0x0B]) = true := by decide +kernel

/-! ### The notice queue (chapter 10) -/

/-- 3 level-4, 9 level-2 and 20 level-1 notices. -/
def heldBack : Notices :=
  ⟨(List.range 32).map fun n => ⟨n, ⟨if n < 3 then .rowDisputed else if n < 12 then .stationPresent else .cursorEnded,
    .number 1, 0⟩⟩, 7, false, 32⟩

/-- A SLOT_OUTCOME displaces the oldest level-1 notice, and a CURSOR_ENDED is then dropped itself. -/
theorem test_notice_overflow :
    let a := postNotice ⟨.slotOutcome, .number 0, 1⟩ heldBack
    let b := postNotice ⟨.cursorEnded, .number 2, 0⟩ a
    a.lost = true ∧ a.queue.length = 32 ∧ (a.queue.map (·.seq)).contains 12 = false ∧ b.queue = a.queue := by decide +kernel

/-- RESOLVED and CLOSE_DONE wait under mask 7: TAKE_NOTICE is SPURIOUS; under mask 1 NOTICE_N is low. -/
theorem test_notice_mask :
    let s : State := { base with notices := ⟨[⟨0, ⟨.resolved, .work none (cardId 7 3318), 9⟩⟩,
      ⟨1, ⟨.closeDone, .number 40, 700052⟩⟩], 7, false, 2⟩ }
    after .takeNotice s (fun t => t.port.reply = [0, 0, 0xFF] ++ zeroBytes 12 && t.notices = s.notices) = true ∧
      noticeLow s = false ∧ after (.setMask 1) s (fun t => noticeLow t) = true := by decide +kernel

/-! ### The store (chapter 9) -/

/-- The frame program, then the targets, then the done mark: an ISSUE's record reaches the store. -/
theorem test_programs_reach_the_store :
    after (.issue 3 20000 false none) home7 (fun t => t.control.store.cards = [] &&
      after2 (.programComplete .completed) (.programComplete .completed) t fun u =>
        ((getSlot u 3).map (·.state)) = some .outcome &&
        u.control.store.cards = [(0, .whole ⟨1042, .active, 20000, 0, 0, false, 41⟩)]) = true := by decide

/-- A program that reads back different halts the station with PROGRAM_FAILED. -/
theorem test_program_failed :
    after2 (.issue 3 20000 false none) (.programComplete .failedTorn) home7 (fun t =>
      t.station = .halted && t.fault = some .programFailed) = true := by decide

/-- Recovery has erased block 5 again; the STORED ARCHIVE_STORE frame that still shows it ERASING is written with its indices
and with the block ERASED and its new count (R133, R173). -/
theorem test_recovery_keeps_the_erase :
    let stale := blankBlocks.set 5 ⟨.erasing, 7⟩
    let erased := blankBlocks.set 5 ⟨.erased, 8⟩
    after (.programComplete .completed)
      { ending none [] with
        journal := { Journal.blank with blocks := erased, next := 1, oldest := 1, writes := 3, lastB := true }
        control := ⟨{ Store.blank with frames := [(2, .stored ⟨4, .archiveStore, [⟨true, .control ⟨1, 6, 9, stale⟩⟩], .none⟩)] },
          [.control true ⟨3, ⟨1, 0, 1, erased⟩⟩ .eraseEnd], [], [], 1⟩ } (fun t =>
      t.control.queue = [.control false ⟨4, ⟨1, 6, 9, erased⟩⟩ .frame, .done 2]) = true := by decide +kernel

/-- A program that fails while an entry is completed leaves the free count of the store, in which the entry has no slot
(R172). -/
theorem test_recovery_failure_frees_the_claim :
    after (.programComplete .failedUnchanged)
      { ending none [] with
        journal := { Journal.blank with blocks := blankBlocks.set 0 ⟨.inUse, 0⟩, wpSlot := 1, next := 1, oldest := 1 }
        control := ⟨Store.blank, [.entry 0 entry0, .done 2], [], [], 1⟩ } (fun t =>
      freeCount t.journal = 16384 && t.control.queue = []) = true := by decide +kernel

/-- A block the stored control record shows ERASING stays so when the program that marks its erase fails (R133, R172). -/
theorem test_scan_keeps_erasing : scannedState Store.blank 3 0 [] 5 .erasing = .erasing := by decide

/-- A STORED frame the part does not know stops recovery with FRAME_FORMAT, a DONE one does not (R163, R172). -/
theorem test_unknown_frame :
    framesAtFault { Store.blank with frames := [(0, .unknown 9 true)] } = true ∧
      framesAtFault { Store.blank with frames := [(0, .unknown 9 false)] } = false ∧
      highestFrame { Store.blank with frames := [(0, .unknown 9 false)] } = 9 := by decide

/-- STATUS in HALTED reports the two frames that a recovery stopped by FRAME_FORMAT leaves STORED (R161, R172, R187). -/
theorem test_status_counts_frames_left :
    let f : Frame := ⟨4, .issue, [], .none⟩
    after2 .recoveryEnd (.status false)
      { ending (some .frameFormat) [] with
        control := ⟨{ Store.blank with frames := [(0, .unknown 9 true), (1, .stored f), (2, .done f)] }, [], [], [], 1⟩ }
      (fun t => t.leftStored = 2 && t.port.reply[13]? = some 2) = true := by decide +kernel

/-- From reset with nothing placed: the end of recovery on a blank store enters IDLE in period 1, mask 7 (R175). -/
theorem test_recovery_of_a_blank_store :
    after .recoveryEnd State.reset (fun t => t.station = .idle && openPeriod t = 1 && t.positions.gen.lastClosed = 0 &&
      t.ident = none && t.notices.mask = 7 && t.custody.liability = 0) = true := by decide +kernel

/-- The first START on a blank store makes the identity record and enters TRADING (R169, R170). -/
theorem test_first_start :
    after2 .recoveryEnd (.start 7 9 150 5 50000 120 900) State.reset (fun t => t.station = .trading &&
      t.port.reply = [0] && (t.ident.map fun i => (i.station, i.mall)) = some (7, 9) &&
      (t.control.frames.map fun f => f.frame.format) = [.identityWrite]) = true := by decide +kernel

/-! ### Where waiting work and the link meet -/

/-- A HOLD_REQ of the next period whose raise was taken before begins the close that can now begin, and is served (R26). -/
theorem test_period_check_begins_the_close :
    after .holdReq { heardStamp 2 (.holdReq 1 500 true) base with positions := { base.positions with target := 1 } } (fun t =>
      openPeriod t = 2 && t.positions.gen.closing && (card0 t).held = 500) = true := by decide +kernel

/-- The station's own frame heard back while it drives an attempt is kept out of the tests (R52). -/
theorem test_own_frame_while_driving :
    after (.frameReceived (encodeFrame 9 ⟨7, 12, 1, 6, .holdReq 1 500 true⟩))
      { base with link := { base.link with phase := .attempting } } (fun t => t.station = .trading) = true := by decide +kernel

/-- A SILENCE_TIMEOUT taken after a frame of the station has set its silence to 0 changes nothing (R60). -/
theorem test_silence_ended_by_a_frame :
    after (.silenceTimeout 12) base (fun t => t.link.roster = base.link.roster) = true := by decide +kernel

/-- A hold whose life ran out in a full frame area is not released when a frame slot frees: it expires (R85). -/
theorem test_lapsed_release_expires :
    after (.holdExpiry 9) (full { holdIs 7 .isOpen base with
        requests := { (holdIs 7 .isOpen base).requests with lapsing := [9] } }) (fun t =>
      t.requests.lapsing = [] && t.requests.lives = [(9, 0)]) = true := by decide +kernel

/-- A forced expiry held back in a full frame area gives up the release of R85 that waits (log entry 57). -/
theorem test_forced_expiry_gives_up_the_release :
    after .closeDeadline (full { holdIs 7 .isOpen (closing [] base) with
        requests := { (holdIs 7 .isOpen (closing [] base)).requests with lapsing := [9, 8] } }) (fun t =>
      t.requests.lapsing = [8] && t.requests.lives = [(9, 0)] && openHoldOf t 1 7) = true := by decide +kernel

/-- A second call for a POSITION that waits adds the frames pending at it (R101). -/
theorem test_second_call_joins :
    (callSend 12 { writing (.row .a 12 (Row.zero 1)) .mirrorStore (closing [] base) with
        control := { (writing (.row .a 12 (Row.zero 1)) .mirrorStore (closing [] base)).control with
          waits := [⟨[8], .positionSend 12 1⟩] } }).control.waits = [⟨[8, 1], .positionSend 12 1⟩] := by decide +kernel

/-- An entry made orphan while SENT is listed SENT though its waiting move has made it IN_DOUBT since (R125). -/
theorem test_orphan_keeps_its_state :
    after (.inDoubtMove 12 6) (entryMap (fun t => { t with orphan := some .sent, moveWaiting := true, slot := none })
        (entryIs .capture base)) (fun t =>
      t.tracker.entries.all fun p => p.2.data.state = .inDoubt &&
        orphanBody p.2 = .orphan ⟨12, orphanKind .capture, 6, cardId 12 4, 500, some 9, .sent⟩) = true := by decide +kernel

/-- The IN_USE block whose first slot is the first erased one stays IN_USE (R130, R142). -/
theorem test_scan_keeps_in_use : scannedState Store.blank 3 0 [] 3 .inUse = .inUse := by decide

/-- 0xFF comes back while the two bytes of SET_MASK 3 come in, then ACCEPTED, then 0xFF (R184). -/
theorem test_miso_bytes :
    after (.setMask 3) base (fun t => (List.range 5).map (misoByte 2 t) = [some 0xFF, some 0xFF, some 0, some 0xFF, some 0xFF])
      = true := by decide

/-! ### The queue -/

/-- A step takes the command at the front. -/
theorem test_step_takes_the_front :
    (match step { base with pending := [.setMask 1, .setMask 2] } with
      | .next t => t.notices.mask = 1 && t.pending = [.setMask 2]
      | _ => false) = true := by decide

/-! ### Hypotheses met: one theorem a statement, one part a clause -/

theorem tablesOk_iff (s : State) : tablesOk s = true ↔ TablesLaw s := by
  simp only [tablesOk, Bool.and_eq_true]
  constructor
  · rintro ⟨⟨⟨⟨⟨⟨⟨⟨⟨⟨a, b⟩, c⟩, d⟩, e⟩, f⟩, g⟩, h⟩, i⟩, j⟩, k⟩
    exact ⟨a, b, c, d, e, f, g, h, i, j, k⟩
  · rintro ⟨a, b, c, d, e, f, g, h, i, j, k⟩
    exact ⟨⟨⟨⟨⟨⟨⟨⟨⟨⟨a, b⟩, c⟩, d⟩, e⟩, f⟩, g⟩, h⟩, i⟩, j⟩, k⟩

theorem meets_IssueChecksInOrder_tableFull :
    (cardsFull base).station = .trading ∧ (cardsFull base).ident = some ⟨7, 9, 3, 4, 256⟩ ∧ (3 : Nat) < 8 ∧
      getSlot (cardsFull base) 3 = none ∧ 1 ≤ 50 ∧ 50 ≤ ceiling (cardsFull base) ∧ 16384 ≤ cardCount (cardsFull base) := by
  refine ⟨rfl, rfl, by decide, rfl, by decide, by decide, ?_⟩
  refine Nat.le_of_eq (Eq.trans ?_ (List.countP_eq_length.2 ?_).symm)
  · simp [cardsFull]
  · intro p hp
    simp only [cardsFull, List.mem_map] at hp
    obtain ⟨n, -, rfl⟩ := hp
    have h : lastClosed (cardsFull base) = 0 := rfl
    simp [h, cardRetired]

theorem meets_OwnCreditIsDecided_busy :
    let s := grantsFull base
    s.station = .trading ∧ s.ident = some ⟨7, 9, 3, 4, 256⟩ ∧ getSlot s 3 = none ∧ cardValid (cardId 7 1) = true ∧
      512 < freeCount s.journal ∧ frameFree s = true ∧
      findCard s 1 = some (0, ⟨1, .active, 5000, 0, 0, true, 1⟩) ∧
      cardFrozen s ⟨1, .active, 5000, 0, 0, true, 1⟩ = false ∧ 5000 + 0 + 100 ≤ ceiling s ∧ 1024 ≤ grantCount s := by
  refine ⟨rfl, rfl, rfl, by decide +kernel, by decide +kernel, by decide +kernel, by decide +kernel, by decide +kernel,
    by decide +kernel, ?_⟩
  refine Nat.le_of_eq (Eq.trans ?_ (List.countP_eq_length.2 ?_).symm)
  · simp [grantsFull]
  · intro p hp
    simp only [grantsFull, List.mem_map] at hp
    obtain ⟨n, -, rfl⟩ := hp
    have h : lastClosed (grantsFull base) = 0 := rfl
    simp [h, grantFree]

theorem base_custody : CustodyLaw base where
  cardsForm := by decide
  grantsForm := by decide
  liability := by decide
  held := by decide
  inCeiling := by decide
  given := by
    intro p hp
    refine ⟨_, rfl, ?_⟩
    revert p
    decide
  distinct := by decide
  standing := by decide
  periods := by decide

/-- A state with hold 9 of 500 open on card 1 meets the custody law. -/
theorem hold_custody : CustodyLaw (holdIs 7 .isOpen base) where
  cardsForm := by decide
  grantsForm := by decide
  liability := by decide
  held := by decide
  inCeiling := by decide
  given := by
    intro p hp
    refine ⟨_, rfl, ?_⟩
    revert p
    decide
  distinct := by decide
  standing := by
    intro p hp _
    simp only [holdIs, List.mem_singleton] at hp
    subst hp
    exact ⟨by decide, by decide, _, List.mem_singleton.2 rfl, rfl⟩
  periods := by decide

/-- The expiry of hold 9. -/
theorem meets_CustodyStaysInBalance :
    ∃ t, step { holdIs 7 .isOpen base with pending := [.holdExpiry 9] } = .next t ∧
      [Instr.holdExpiry 9].head? ≠ some .recoveryEnd ∧ lastClosed t = lastClosed (holdIs 7 .isOpen base) :=
  ⟨_, rfl, by decide, by decide +kernel⟩

theorem base_bounded : Bounded base := ⟨by decide, by decide, by decide, by decide⟩

theorem base_tables : TablesLaw base := (tablesOk_iff base).1 (by decide)

/-- Every working table within its places, the slots and the tracker up to their last ones. -/
theorem roomy_room :
    RoomLaw { holdIs 7 .isOpen base with
      slots := [(7, heldOf (cardId 7 1))],
      tracker := ⟨[(31, ⟨⟨.capture, 12, 6, 1, 4, 500, some 9, .sent⟩, 1, none, none, false, none, false, false⟩)], 6⟩ } :=
  ⟨by decide, by decide, by decide, by decide, by decide⟩

/-- The expiry of hold 9 is no end of recovery, and leaves the last closed period. -/
theorem meets_AreasKeepRoomAndForm :
    ∃ t, step { holdIs 7 .isOpen base with pending := [.holdExpiry 9] } = .next t ∧
      [Instr.holdExpiry 9].head? ≠ some .recoveryEnd ∧ lastClosed (holdIs 7 .isOpen base) ≤ lastClosed t :=
  ⟨_, rfl, by decide, by decide +kernel⟩

theorem base_frames : FrameLaw base := ⟨by decide, by decide, by decide, by decide, by decide⟩

theorem base_link : LinkLaw base := ⟨by decide, by decide⟩

theorem base_station : StationLaw base := ⟨by decide, by decide, by decide⟩

theorem base_close : CloseLaw base := ⟨by decide, by decide, by (intro v h; cases h), by decide⟩

/-- A closing generation under way meets its law. -/
theorem closing_close : CloseLaw { closing [] base with positions := { (closing [] base).positions with target := 1 } } :=
  ⟨by decide, by decide, by (intro v h; cases h; decide), by decide⟩

/-- The invariants' last hypothesis: a step of `base` answers next. -/
theorem base_steps : ∃ t, step { base with pending := [.issue 3 50 true none] } = .next t := ⟨_, rfl⟩

theorem meets_TillCommandsRoundTrip :
    (Instr.issue 3 50 true (some 77)).wellFormed = true ∧
      encodeTill (.issue 3 50 true (some 77)) = some [0x10, 3, 0, 0, 50, 3, 0, 0, 0, 77] := by decide

theorem meets_LinkFramesRoundTrip : LinkFrame.fits ⟨12, 7, 1, 6, .holdReq 1 500 true⟩ = true ∧ 65535 < 65536 := by decide

theorem meets_ClearingArithmetic :
    (5 * 1000 = 10000 * 0 + 5000 ∧ 5000 < 10000) ∧ (62999999999937 ≤ 62999999999937 ∧ 1000 ≤ 1000) ∧
      figuresAgree ⟨1, 2, 3, 4, 5, 6⟩ ⟨4, 5, 6, 1, 2, 3⟩ = true ∧ 2 * (5 * 1000) = 20000 * percentageFee 5 1000 + 10000 := by
  decide

theorem meets_StampsExtendToTheNearestPeriod :
    255 < 256 ∧ (255 : Int) % 256 = (255 : Nat) ∧ (257 : Int) - 128 ≤ 255 ∧ (255 : Int) ≤ 257 + 127 ∧ 257 ≤ 129 + 128 ∧
      384 ≤ 257 + 127 := by decide

/-- A frame stamped with the next period: the target is raised, or it stands there already and a HOLD_REQ begins the close, or
no close can begin with the frame area full. -/
theorem meets_StampsExtendToTheNearestPeriod_later :
    let s := heardStamp 2 (.holdReq 1 500 true) base
    let waiting := { s with positions := { s.positions with target := 1 } }
    s.station = .trading ∧ s.link.rx = [⟨12, 7, 2, 6, .holdReq 1 500 true⟩] ∧
      isPresence (.holdReq 1 500 true) = false ∧ openPeriod s < extendStamp (openPeriod s) 2 ∧
      s.positions.target + 1 < extendStamp (openPeriod s) 2 ∧
      extendStamp (openPeriod s) 2 ≤ waiting.positions.target + 1 ∧ (Payload.holdReq 1 500 true).asksPeriod = true ∧
      waiting.positions.gen.closing = false ∧ openPeriod waiting ≤ waiting.positions.target ∧
      openPeriod waiting < 16777215 ∧ 512 < freeCount waiting.journal ∧ frameFree waiting = true ∧
      noCloseCanBegin (full s) := by decide +kernel

theorem meets_HeldInResetDiscardsSelectPeriods :
    (opcodeOf (.setMask 7)).isSome = true ∧ ({ State.reset with station := .held } : State).station = .held := by decide

/-- A SET_MASK that is accepted: its two bytes clock in, its reply has one. -/
theorem meets_ReadsAnswerAndChangeOnlyThePort_miso :
    encodeTill (.setMask 3) = some [0x31, 3] ∧
      (∃ t, exec (.setMask 3) base = .next t ∧ t.port.reply = [0] ∧ ∀ cs, t.port.session ≠ .cursor cs) :=
  ⟨by decide, _, rfl, rfl, by intro cs h; cases h⟩

/-- Two stored entries, of indices 1 and 2: a FORWARD cursor at 1 is given the lower one, at 2 the higher one, a BACKWARD
cursor at 2 the higher one. -/
theorem meets_CursorReadChoosesEntries_chosen :
    let s (c : Cursor) : State := storedTwo (reading .header c base)
    let two : JournalEntry := { entry0 with index := 2 }
    let back : Cursor := { cur0 with direction := .backward, current := 2 }
    visible (s cur0) = [entry0, two] ∧ visible (s back) = [entry0, two] ∧
      (getCursor (s cur0) 1).state = .ready ∧ filterAccepts .all .issue = true ∧
      (∀ k ∈ visible (s cur0), filterAccepts cur0.filter k.kind = true → cur0.current ≤ k.index →
        k = entry0 ∨ entry0.index < k.index) ∧
      (∀ k ∈ visible (s { cur0 with current := 2 }), filterAccepts cur0.filter k.kind = true → 2 ≤ k.index →
        k = two ∨ two.index < k.index) ∧
      (∀ k ∈ visible (s back), filterAccepts back.filter k.kind = true → k.index ≤ back.current →
        k = two ∨ k.index < two.index) ∧
      exec .cursorRecordChosen (s cur0) = .next (streamOn ⟨1, .header, none, false, 0, false⟩ (.entry entry0) (s cur0)) ∧
      exec .cursorRecordChosen (s back) = .next (streamOn ⟨1, .header, none, false, 0, false⟩ (.entry two) (s back)) := by
  refine ⟨by decide +kernel, by decide +kernel, by decide, by decide, by decide +kernel, by decide +kernel,
    by decide +kernel, rfl, rfl⟩

/-- The scan finds slot 3 of the block recorded IN_USE, behind two programmed slots and a void one. -/
theorem meets_ResetThenRecovery_scan :
    let blocks : List Block := (List.range 32).map fun n => if n = 3 then ⟨.inUse, 0⟩ else ⟨.full, 0⟩
    let st : Store := { Store.blank with journal := [(1536, .whole entry0), (1537, .torn), (1538, .whole entry0)] }
    ((List.range 32).find? fun i => blockStateOf blocks i = .inUse) = some 3 ∧ firstErased st blocks 3 0 3 = true := by
  decide +kernel

/-- The scan passes a block whose slots are all programmed, and finds the first slot of the next usable one. -/
theorem meets_ResetThenRecovery_scanPassed :
    let blocks : List Block := (List.range 32).map fun n => if n = 1 then ⟨.bad, 0⟩ else ⟨.erased, 0⟩
    let st : Store := { Store.blank with journal := (List.range 512).map fun n => (n, .torn) }
    ((List.range 32).all fun i => blockStateOf blocks i ≠ .inUse) = true ∧ firstErased st blocks 0 1 0 = true ∧
      (nextBlock blocks)^[1] 0 = 2 := by decide +kernel

/-- A store whose one STORED frame writes the control record, and one with a frame the part does not know. -/
theorem meets_ResetThenRecovery_frames :
    let c : ControlRec := ⟨1, 3, 5, blankBlocks⟩
    let st : Store := { Store.blank with frames := [(2, .stored ⟨4, .archiveStore, [⟨true, .control c⟩], .none⟩)] }
    let odd : Store := { Store.blank with frames := [(0, .unknown 9 true)] }
    framesAtFault st = false ∧ storedFrames st = [(2, ⟨4, .archiveStore, [⟨true, .control c⟩], .none⟩)] ∧
      storedTargets noRun st = true ∧ 4 ≤ usableBlocks blankBlocks ∧
      (odd.frames.any fun p => match p.2 with
        | .unknown _ stored => stored
        | _ => false) = true := by decide

/-- Rows within range, and the item of each kind that a wait may hold. -/
theorem meets_ProgramsWriteThenAnnounce_items :
    let s := slotIs (heldOf (cardId 12 4)) (entryIs .hold base)
    (getSlot s 2).isSome = true ∧ (findTrack s 12 6).isSome = true ∧ findTrack s 12 7 = none ∧ 0 + 1 = openPeriod s := by
  decide

theorem meets_ClearingArithmetic_ranges :
    base.conf = some ⟨150, 5, 50000, 120, 900⟩ ∧ 1 ≤ ownStation base ∧ ownStation base ≤ 63 ∧
      ((counterparts base).all fun j => figuresInRange (closingRow base j).fig) = true ∧
      (closingRow base (ownStation base)).own.ro ≤ 999999999999 := by decide +kernel

theorem meets_NumbersGivenAreFresh : trackCount base ≤ 32 ∧ grantCount base ≤ 1024 ∧ grantCount (grantsFull base) ≤ 1024 :=
  ⟨by decide, by decide, Nat.le_trans List.countP_le_length (by simp [grantsFull])⟩

/-- A CLOSE in a close under way is refused, and raises the target. -/
theorem meets_RefusedCommandsChangeNothing :
    (opcodeOf .close).isSome = true ∧
      (∃ t, exec .close (closing [] base) = .next t ∧ ∃ b rest, t.port.reply = b :: rest ∧ b ≠ 0) ∧
      (∃ t, exec (.setMask 8) base = .next t ∧ ∃ b rest, t.port.reply = b :: rest ∧ b ≠ 0) :=
  ⟨by decide, ⟨_, rfl, _, _, rfl, by decide⟩, ⟨_, rfl, _, _, rfl, by decide⟩⟩

/-- A command each clause speaks of: a HALTED station that reads a slot, and commands that leave the store and the liability. -/
theorem meets_OnlySomeCommandsReachTheRecords :
    (∃ t, exec (.slotRead 2) { base with station := .halted, fault := some .stationClash } = .next t) ∧
      Instr.slotRead 2 ≠ .reset ∧ (∀ r, Instr.slotRead 2 ≠ .programComplete r) ∧ (∀ ok, Instr.slotRead 2 ≠ .eraseComplete ok) ∧
      (∀ slot amount rel ref, Instr.slotRead 2 ≠ .issue slot amount rel ref) ∧
      (∀ kind slot card amount ref, Instr.slotRead 2 ≠ creditCommand kind slot card amount ref) ∧
      (∀ slot amount, Instr.slotRead 2 ≠ .complete slot amount) :=
  ⟨⟨_, rfl⟩, by decide, by simp, by simp, by simp, by intro k; cases k <;> simp [creditCommand], by simp⟩

/-- A full queue of the highest level, and a full queue with one lowest notice in its middle. -/
theorem meets_OverflowDropsTheLowest :
    let n : NoticeRec := ⟨.slotOutcome, .number 2, 1⟩
    let high : List Notice := (List.range 32).map fun k => ⟨k, ⟨.fault, .none, 1⟩⟩
    let v : Notice := ⟨40, ⟨.cursorEnded, .number 1, 0⟩⟩
    (32 ≤ high.length ∧ ∀ k ∈ high, noticeLevel n.kind ≤ levelOf k) ∧
      (32 ≤ (high.take 10 ++ v :: high.drop 10).length ∧ (∀ k ∈ high.take 10 ++ high.drop 10, k.seq ≠ v.seq) ∧
        levelOf v < noticeLevel n.kind ∧ (∀ k ∈ high.take 10, levelOf v < levelOf k) ∧
        ∀ k ∈ high.drop 10, levelOf v ≤ levelOf k) := by decide +kernel

theorem meets_EmptyQueuePassesOneMillisecond :
    (
    (let s : State := { State.reset with station := .held, journal := .blank, recovery := none };
      s.pending = [] && s.station = .held) &&
    (let s : State := { base with station := .idle, journal := { base.journal with erase := some ⟨5, .running 0⟩ } };
      s.pending = [] && decide (s.station = .recovering ∨ s.station = .idle)) &&
    (let s : State := { base with station := .idle, journal := { base.journal with erase := some ⟨5, .running 0⟩ } };
      s.pending = [] && decide (s.station = .recovering ∨ s.station = .idle ∨ s.station = .trading) &&
        (match s.journal.erase with
          | some ⟨b, .running n⟩ =>
              s.control.queue = []
          | _ => false)) &&
    (let s : State := base;
      s.pending = [] && decide (s.station = .recovering ∨ s.station = .idle ∨ s.station = .trading) &&
        decide (s.control.queue ≠ [] ∨ s.journal.erase = none ∨ (s.journal.erase.all fun k => k.phase = .marking) = true)) &&
    (let s : State := { base with station := .halted, fault := some .stationClash };
      s.pending = [] && s.station = .halted) &&
    (let s : State := { base with station := .halted, fault := some .stationClash };
      let j : Nat := 12;
      s.pending = [] && decide (s.station = .trading ∨ s.station = .halted) &&
        (match tabGet s.link.roster j with
          | some e =>
              e.state ≠ .absent && e.silence + 1 < 15000
          | _ => false)) &&
    (let s : State := { base with link := { base.link with roster := [(12, ⟨.present, 1, 0, 14999⟩)] } };
      let j : Nat := 12;
      s.pending = [] && decide (s.station = .trading ∨ s.station = .halted) &&
        (match tabGet s.link.roster j with
          | some e =>
              decide (e.state = .absent ∨ 15000 ≤ e.silence + 1)
          | _ => false)) &&
    (let s : State := { State.reset with station := .held, journal := .blank, recovery := none };
      let j : Nat := 12;
      s.pending = [] && tabGet s.link.roster j = none) &&
    (let s : State := { State.reset with station := .held, journal := .blank, recovery := none };
      let tag : Nat := 9;
      s.pending = [] && tabGet s.requests.lives tag = none) &&
    (let s : State := { State.reset with station := .held, journal := .blank, recovery := none };
      let n : Nat := 0;
      s.pending = [] && getSlot s n = none) &&
    (let s : State := slotIs (heldOf (cardId 7 1)) (holdIs 7 .isOpen base);
      let tag : Nat := 9;
      s.pending = [] && s.station = .trading &&
        (match tabGet s.requests.lives tag with
          | some ms =>
              true
          | _ => false)) &&
    (let s : State := slotIs (heldOf (cardId 7 1)) (holdIs 7 .isOpen base);
      let n : Nat := 2;
      s.pending = [] && s.station = .trading &&
        (match getSlot s n with
          | some sl =>
              true
          | _ => false)) &&
    (let s : State := entryMap (fun t => { t with timer := some 1 }) (entryIs .hold base);
      let tp : Nat := 0;
      s.pending = [] && s.station = .trading &&
        (match tabGet s.tracker.entries tp with
          | some tr =>
              true
          | _ => false)) &&
    (let s : State := base;
      let tp : Nat := 0;
      s.pending = [] && s.station = .trading && tabGet s.tracker.entries tp = none) &&
    (let s : State := { closing [] base with positions := { (closing [] base).positions with view := some ⟨[], false, some 1, false⟩ } };
      s.pending = [] && s.station = .trading &&
        (match s.positions.view with
          | some v =>
              v.completed = false && v.deadline = some 1
          | _ => false)) &&
    (let s : State := base;
      s.pending = [] && s.station = .trading && s.positions.view = none) &&
    (let s : State := base;
      s.pending = [] && s.station = .trading && s.link.presenceTimer ≤ 1)) = true := by decide +kernel

theorem meets_StationStateIsCheckedFirst :
    (
    (let s : State := { base with station := .halted, fault := some .stationClash };
      s.station ≠ .held && s.station ≠ .trading) &&
    (let s : State := { base with station := .halted, fault := some .stationClash };
      s.station ≠ .held && s.station ≠ .idle) &&
    (let s : State := State.reset;
      s.station ≠ .held && s.station = .recovering) &&
    (let s : State := { base with station := .halted, fault := some .stationClash };
      s.station ≠ .held && decide (s.station = .recovering ∨ s.station = .halted))) = true := by decide +kernel

theorem meets_ReadsAnswerAndChangeOnlyThePort :
    (
    (let s : State := base;
      let s' : State := s;
      s.station ≠ .held && s'.station ≠ .recovering) &&
    (let s : State := base;
      let slot : Nat := 2;
      s.station ≠ .held && s.station = .trading && slot < 8 && getSlot s slot = none) &&
    (let s : State := base;
      let slot : Nat := 8;
      s.station ≠ .held && s.station = .trading && 8 ≤ slot) &&
    (let s : State := base;
      let j : Nat := 12;
      s.station ≠ .held && s.station = .trading && 1 ≤ j && j ≤ 63)) = true := by decide +kernel

theorem meets_IssueCreatesACard :
    (
    (let s : State := base;
      let slot : Nat := 2;
      let amount : Nat := 50000;
      s.station = .trading &&
        (match s.ident with
          | some i =>
              slot < 8 && getSlot s slot = none && 1 ≤ amount && amount ≤ ceiling s && i.serialCounter < 99999999 &&
                cardCount s < 16384 && (openRow s i.station).own.tO + amount ≤ 999999999999 && insideReserve s = false &&
                frameFree s = true
          | _ => false))) = true := by decide +kernel

theorem meets_IssueChecksInOrder :
    (
    (let s : State := { base with station := .halted, fault := some .stationClash };
      s.station ≠ .held &&
        (match s.ident with
          | some i =>
              s.station ≠ .trading
          | _ => false)) &&
    (let s : State := base;
      let slot : Nat := 8;
      s.station ≠ .held &&
        (match s.ident with
          | some i =>
              s.station = .trading && 8 ≤ slot
          | _ => false)) &&
    (let s : State := slotIs (heldOf (cardId 7 1)) base;
      let slot : Nat := 2;
      s.station ≠ .held &&
        (match s.ident with
          | some i =>
              s.station = .trading && slot < 8 && getSlot s slot ≠ none
          | _ => false)) &&
    (let s : State := base;
      let slot : Nat := 2;
      let amount : Nat := 0;
      s.station ≠ .held &&
        (match s.ident with
          | some i =>
              s.station = .trading && slot < 8 && getSlot s slot = none && decide (amount = 0 ∨ ceiling s < amount)
          | _ => false)) &&
    (let s : State := { base with ident := some ⟨7, 9, 99999999, 4, 256⟩ };
      let slot : Nat := 2;
      let amount : Nat := 500;
      s.station ≠ .held &&
        (match s.ident with
          | some i =>
              s.station = .trading && slot < 8 && getSlot s slot = none && decide (1 ≤ amount ∧ amount ≤ ceiling s) &&
                99999999 ≤ i.serialCounter
          | _ => false)) &&
    (let s : State := atLimit 7 base;
      let slot : Nat := 2;
      let amount : Nat := 500;
      s.station ≠ .held &&
        (match s.ident with
          | some i =>
              s.station = .trading && slot < 8 && getSlot s slot = none && decide (1 ≤ amount ∧ amount ≤ ceiling s) &&
                i.serialCounter < 99999999 && cardCount s < 16384 &&
                999999999999 < (openRow s i.station).own.tO + amount
          | _ => false)) &&
    (let s : State := reserved base;
      let slot : Nat := 2;
      let amount : Nat := 500;
      s.station ≠ .held &&
        (match s.ident with
          | some i =>
              s.station = .trading && slot < 8 && getSlot s slot = none && decide (1 ≤ amount ∧ amount ≤ ceiling s) &&
                i.serialCounter < 99999999 && cardCount s < 16384 &&
                (openRow s i.station).own.tO + amount ≤ 999999999999 && freeCount s.journal ≤ 512
          | _ => false)) &&
    (let s : State := full base;
      let slot : Nat := 2;
      let amount : Nat := 500;
      s.station ≠ .held &&
        (match s.ident with
          | some i =>
              s.station = .trading && slot < 8 && getSlot s slot = none && decide (1 ≤ amount ∧ amount ≤ ceiling s) &&
                i.serialCounter < 99999999 && cardCount s < 16384 &&
                (openRow s i.station).own.tO + amount ≤ 999999999999 && 512 < freeCount s.journal &&
                s.control.frames.length = 16
          | _ => false))) = true := by decide +kernel

theorem meets_OwnRedeemIsDecided :
    (
    (let s : State := base;
      let slot : Nat := 2;
      let card : CardId := cardId 7 1;
      let amount : Nat := 5000;
      let part : Bool := true;
      let amt : Nat := 5000;
      s.station = .trading &&
        (match s.ident with
          | some i =>
              slot < 8 && getSlot s slot = none && cardValid card = true && card.ss = i.station && 1 ≤ amount &&
                amount ≤ 9999999 && 512 < freeCount s.journal &&
                (match findCard s card.serial with
                  | some (place, c) =>
                      cardFrozen s c = false && grantCount s < 1024 && openHolds s < 256 && c.openHolds < 4 &&
                        frameFree s = true &&
                        (openRow s i.station).own.ro + openHeld s i.station + amount ≤ 999999999999 &&
                        decide ((amount ≤ c.available ∧ amt = amount) ∨ (c.available < amount ∧ part = true ∧ 1 ≤ c.available ∧ amt = c.available))
                  | _ => false)
          | _ => false)) &&
    (let s : State := base;
      let slot : Nat := 2;
      let card : CardId := cardId 7 9;
      let amount : Nat := 5000;
      s.station = .trading &&
        (match s.ident with
          | some i =>
              slot < 8 && getSlot s slot = none && cardValid card = true && card.ss = i.station && 1 ≤ amount &&
                amount ≤ 9999999 && 512 < freeCount s.journal && findCard s card.serial = none
          | _ => false)) &&
    (let s : State := base;
      let slot : Nat := 2;
      let card : CardId := cardId 7 2;
      let amount : Nat := 5000;
      s.station = .trading &&
        (match s.ident with
          | some i =>
              slot < 8 && getSlot s slot = none && cardValid card = true && card.ss = i.station && 1 ≤ amount &&
                amount ≤ 9999999 && 512 < freeCount s.journal &&
                (match findCard s card.serial with
                  | some (place, c) =>
                      cardFrozen s c = true
                  | _ => false)
          | _ => false)) &&
    (let s : State := { base with custody := ⟨[(0, ⟨1, .active, 5000, 0, 4, true, 1⟩)], [], 5000⟩ };
      let slot : Nat := 2;
      let card : CardId := cardId 7 1;
      let amount : Nat := 5000;
      s.station = .trading &&
        (match s.ident with
          | some i =>
              slot < 8 && getSlot s slot = none && cardValid card = true && card.ss = i.station && 1 ≤ amount &&
                amount ≤ 9999999 && 512 < freeCount s.journal &&
                (match findCard s card.serial with
                  | some (place, c) =>
                      cardFrozen s c = false &&
                        decide (1024 ≤ grantCount s ∨ 256 ≤ openHolds s ∨ 4 ≤ c.openHolds ∨ 16 ≤ s.control.frames.length)
                  | _ => false)
          | _ => false)) &&
    (let s : State := atLimit 7 base;
      let slot : Nat := 2;
      let card : CardId := cardId 7 1;
      let amount : Nat := 5000;
      s.station = .trading &&
        (match s.ident with
          | some i =>
              slot < 8 && getSlot s slot = none && cardValid card = true && card.ss = i.station && 1 ≤ amount &&
                amount ≤ 9999999 && 512 < freeCount s.journal &&
                (match findCard s card.serial with
                  | some (place, c) =>
                      cardFrozen s c = false &&
                        decide (grantCount s < 1024 ∧ openHolds s < 256 ∧ c.openHolds < 4 ∧ s.control.frames.length < 16) &&
                        999999999999 < (openRow s i.station).own.ro + openHeld s i.station + amount
                  | _ => false)
          | _ => false)) &&
    (let s : State := base;
      let slot : Nat := 2;
      let card : CardId := cardId 7 1;
      let amount : Nat := 5001;
      let part : Bool := false;
      s.station = .trading &&
        (match s.ident with
          | some i =>
              slot < 8 && getSlot s slot = none && cardValid card = true && card.ss = i.station && 1 ≤ amount &&
                amount ≤ 9999999 && 512 < freeCount s.journal &&
                (match findCard s card.serial with
                  | some (place, c) =>
                      cardFrozen s c = false &&
                        decide (grantCount s < 1024 ∧ openHolds s < 256 ∧ c.openHolds < 4 ∧ s.control.frames.length < 16) &&
                        (openRow s i.station).own.ro + openHeld s i.station + amount ≤ 999999999999 &&
                        c.available < amount && decide (part = false ∨ c.available = 0)
                  | _ => false)
          | _ => false))) = true := by decide +kernel

theorem meets_OwnCompleteCaptures :
    (
    (let s : State := slotIs (heldOf (cardId 7 1)) (holdIs 7 .isOpen base);
      let slot : Nat := 2;
      let amount : Nat := 500;
      s.station = .trading && slot < 8 &&
        (match heldSlot s slot with
          | some (sl, h) =>
              sl.card.ss = ownStation s && 1 ≤ amount && amount ≤ h.g && frameFree s = true &&
                (match findSettled s (ownStation s) h.tag sl.card.serial h.period with
                  | some (gp, gr) =>
                      (match gr.body with
                        | .hold tag a .isOpen =>
                            (match findCard s gr.serial with
                              | some (place, c) =>
                                  (match generationOf s gr.period with
                                    | some side =>
                                        true
                                    | _ => false)
                              | _ => false)
                        | _ => false)
                  | _ => false)
          | _ => false)) &&
    (let s : State := slotIs (heldOf (cardId 7 1)) base;
      let slot : Nat := 2;
      let amount : Nat := 500;
      s.station = .trading && slot < 8 &&
        (match heldSlot s slot with
          | some (sl, h) =>
              sl.card.ss = ownStation s && 1 ≤ amount && amount ≤ h.g && frameFree s = true &&
                findSettled s (ownStation s) h.tag sl.card.serial h.period = none
          | _ => false)) &&
    (let s : State := slotIs (heldOf (cardId 7 1)) (holdIs 7 (.captured 500) base);
      let slot : Nat := 2;
      let amount : Nat := 500;
      s.station = .trading && slot < 8 &&
        (match heldSlot s slot with
          | some (sl, h) =>
              sl.card.ss = ownStation s && 1 ≤ amount && amount ≤ h.g && frameFree s = true &&
                (match findSettled s (ownStation s) h.tag sl.card.serial h.period with
                  | some (gp, gr) =>
                      (match gr.body with
                        | .hold tag a (.captured x) =>
                            unstored (writesGrant gp) s = []
                        | _ => false)
                  | _ => false)
          | _ => false)) &&
    (let s : State := slotIs (heldOf (cardId 7 1)) (writing (.grant 0 ⟨7, none, 1, 1, .credit .topup 1⟩) .holdGrant (holdIs 7 (.captured 500) base));
      let slot : Nat := 2;
      let amount : Nat := 500;
      s.station = .trading && slot < 8 &&
        (match heldSlot s slot with
          | some (sl, h) =>
              sl.card.ss = ownStation s && 1 ≤ amount && amount ≤ h.g && frameFree s = true &&
                (match findSettled s (ownStation s) h.tag sl.card.serial h.period with
                  | some (gp, gr) =>
                      (match gr.body with
                        | .hold tag a (.captured x) =>
                            unstored (writesGrant gp) s ≠ []
                        | _ => false)
                  | _ => false)
          | _ => false)) &&
    (let s : State := slotIs (heldOf (cardId 7 1)) (holdIs 7 .released base);
      let slot : Nat := 2;
      let amount : Nat := 500;
      let tag : Nat := 9;
      let a : Nat := 500;
      s.station = .trading && slot < 8 &&
        (match heldSlot s slot with
          | some (sl, h) =>
              sl.card.ss = ownStation s && 1 ≤ amount && amount ≤ h.g && frameFree s = true &&
                (match findSettled s (ownStation s) h.tag sl.card.serial h.period with
                  | some (gp, gr) =>
                      decide (gr.body = .hold tag a .released ∨ gr.body = .hold tag a .expired) &&
                        unstored (writesGrant gp) s = []
                  | _ => false)
          | _ => false)) &&
    (let s : State := slotIs (heldOf (cardId 7 1)) (writing (.grant 0 ⟨7, none, 1, 1, .hold 9 500 .isOpen⟩) .holdExpire (holdIs 7 .expired base));
      let slot : Nat := 2;
      let amount : Nat := 500;
      let tag : Nat := 9;
      let a : Nat := 500;
      s.station = .trading && slot < 8 &&
        (match heldSlot s slot with
          | some (sl, h) =>
              sl.card.ss = ownStation s && 1 ≤ amount && amount ≤ h.g && frameFree s = true &&
                (match findSettled s (ownStation s) h.tag sl.card.serial h.period with
                  | some (gp, gr) =>
                      decide (gr.body = .hold tag a .released ∨ gr.body = .hold tag a .expired) &&
                        unstored (writesGrant gp) s ≠ []
                  | _ => false)
          | _ => false))) = true := by decide +kernel

theorem meets_OwnCancelReleases :
    (
    (let s : State := slotIs (heldOf (cardId 7 1)) (holdIs 7 .isOpen base);
      let slot : Nat := 2;
      s.station = .trading && slot < 8 &&
        (match heldSlot s slot with
          | some (sl, h) =>
              sl.card.ss = ownStation s && frameFree s = true &&
                (match findSettled s (ownStation s) h.tag sl.card.serial h.period with
                  | some (gp, gr) =>
                      (match gr.body with
                        | .hold tag a .isOpen =>
                            (match findCard s gr.serial with
                              | some (place, c) =>
                                  true
                              | _ => false)
                        | _ => false)
                  | _ => false)
          | _ => false)) &&
    (let s : State := slotIs (heldOf (cardId 7 1)) base;
      let slot : Nat := 2;
      s.station = .trading && slot < 8 &&
        (match heldSlot s slot with
          | some (sl, h) =>
              sl.card.ss = ownStation s && frameFree s = true &&
                findSettled s (ownStation s) h.tag sl.card.serial h.period = none
          | _ => false)) &&
    (let s : State := slotIs (heldOf (cardId 7 1)) (holdIs 7 .expired base);
      let slot : Nat := 2;
      s.station = .trading && slot < 8 &&
        (match heldSlot s slot with
          | some (sl, h) =>
              sl.card.ss = ownStation s && frameFree s = true &&
                (match findSettled s (ownStation s) h.tag sl.card.serial h.period with
                  | some (gp, gr) =>
                      grantOpen gr = false && unstored (writesGrant gp) s = []
                  | _ => false)
          | _ => false)) &&
    (let s : State := slotIs (heldOf (cardId 7 1)) (writing (.grant 0 ⟨7, none, 1, 1, .hold 9 500 .isOpen⟩) .holdExpire (holdIs 7 .released base));
      let slot : Nat := 2;
      s.station = .trading && slot < 8 &&
        (match heldSlot s slot with
          | some (sl, h) =>
              sl.card.ss = ownStation s && frameFree s = true &&
                (match findSettled s (ownStation s) h.tag sl.card.serial h.period with
                  | some (gp, gr) =>
                      grantOpen gr = false && unstored (writesGrant gp) s ≠ []
                  | _ => false)
          | _ => false))) = true := by decide +kernel

theorem meets_OwnCreditIsDecided :
    (
    (let s : State := base;
      let slot : Nat := 2;
      let card : CardId := cardId 7 1;
      let amount : Nat := 45000;
      let kind : CreditKind := .topup;
      s.station = .trading &&
        (match s.ident with
          | some i =>
              slot < 8 && getSlot s slot = none && cardValid card = true && card.ss = i.station && 1 ≤ amount &&
                amount ≤ 9999999 && 512 < freeCount s.journal && frameFree s = true &&
                (match findCard s card.serial with
                  | some (place, c) =>
                      decide (kind = .topup → cardFrozen s c = false) && c.available + c.held + amount ≤ ceiling s &&
                        grantCount s < 1024 && creditFigure s i.station kind + amount ≤ 999999999999
                  | _ => false)
          | _ => false)) &&
    (let s : State := base;
      let slot : Nat := 2;
      let card : CardId := cardId 7 9;
      let amount : Nat := 9999999;
      s.station = .trading &&
        (match s.ident with
          | some i =>
              slot < 8 && getSlot s slot = none && cardValid card = true && card.ss = i.station && 1 ≤ amount &&
                amount ≤ 9999999 && 512 < freeCount s.journal && frameFree s = true && findCard s card.serial = none
          | _ => false)) &&
    (let s : State := base;
      let slot : Nat := 2;
      let card : CardId := cardId 7 2;
      let amount : Nat := 9999999;
      let kind : CreditKind := .topup;
      s.station = .trading &&
        (match s.ident with
          | some i =>
              slot < 8 && getSlot s slot = none && cardValid card = true && card.ss = i.station && 1 ≤ amount &&
                amount ≤ 9999999 && 512 < freeCount s.journal && frameFree s = true &&
                (match findCard s card.serial with
                  | some (place, c) =>
                      kind = .topup && cardFrozen s c = true
                  | _ => false)
          | _ => false)) &&
    (let s : State := base;
      let slot : Nat := 2;
      let card : CardId := cardId 7 1;
      let amount : Nat := 9999999;
      let kind : CreditKind := .topup;
      s.station = .trading &&
        (match s.ident with
          | some i =>
              slot < 8 && getSlot s slot = none && cardValid card = true && card.ss = i.station && 1 ≤ amount &&
                amount ≤ 9999999 && 512 < freeCount s.journal && frameFree s = true &&
                (match findCard s card.serial with
                  | some (place, c) =>
                      decide (kind = .refund ∨ cardFrozen s c = false) && ceiling s < c.available + c.held + amount
                  | _ => false)
          | _ => false)) &&
    (let s : State := atLimit 7 base;
      let slot : Nat := 2;
      let card : CardId := cardId 7 1;
      let amount : Nat := 45000;
      let kind : CreditKind := .topup;
      s.station = .trading &&
        (match s.ident with
          | some i =>
              slot < 8 && getSlot s slot = none && cardValid card = true && card.ss = i.station && 1 ≤ amount &&
                amount ≤ 9999999 && 512 < freeCount s.journal && frameFree s = true &&
                (match findCard s card.serial with
                  | some (place, c) =>
                      decide (kind = .refund ∨ cardFrozen s c = false) && c.available + c.held + amount ≤ ceiling s &&
                        grantCount s < 1024 && 999999999999 < creditFigure s i.station kind + amount
                  | _ => false)
          | _ => false))) = true := by decide +kernel

theorem meets_OwnCardStatusCommands :
    (
    (let s : State := base;
      let slot : Nat := 2;
      let card : CardId := cardId 7 1;
      s.station = .trading && slot < 8 && getSlot s slot = none && cardValid card = true && card.ss = ownStation s &&
        512 < freeCount s.journal && frameFree s = true &&
        (match findCard s card.serial with
          | some (place, c) =>
              c.state = .active
          | _ => false)) &&
    (let s : State := base;
      let slot : Nat := 2;
      let card : CardId := cardId 7 2;
      s.station = .trading && slot < 8 && getSlot s slot = none && cardValid card = true && card.ss = ownStation s &&
        512 < freeCount s.journal && frameFree s = true &&
        (findCard s card.serial).all (fun p => p.2.state = .frozen) = true && cardFrames s card.serial = []) &&
    (let s : State := writing (.card 1 ⟨2, .frozen, 100, 0, 0, true, 1⟩) .statusChange base;
      let slot : Nat := 2;
      let card : CardId := cardId 7 2;
      s.station = .trading && slot < 8 && getSlot s slot = none && cardValid card = true && card.ss = ownStation s &&
        512 < freeCount s.journal && frameFree s = true &&
        (findCard s card.serial).all (fun p => p.2.state = .frozen) = true && cardFrames s card.serial ≠ []) &&
    (let s : State := base;
      let slot : Nat := 2;
      let card : CardId := cardId 7 9;
      s.station = .trading && slot < 8 && getSlot s slot = none && cardValid card = true && card.ss = ownStation s &&
        512 < freeCount s.journal && frameFree s = true && findCard s card.serial = none) &&
    (let s : State := base;
      let slot : Nat := 2;
      let card : CardId := cardId 7 2;
      s.station = .trading && slot < 8 && getSlot s slot = none && cardValid card = true && card.ss = ownStation s &&
        512 < freeCount s.journal && frameFree s = true &&
        (match findCard s card.serial with
          | some (place, c) =>
              c.state = .frozen
          | _ => false))) = true := by decide +kernel

theorem meets_ProtectLineAndRangeLocks :
    (
    (let s : State := base;
      let slot : Nat := 2;
      let card : CardId := cardId 7 1;
      s.station = .trading && slot < 8 && getSlot s slot = none && cardValid card = true && card.ss = ownStation s) &&
    (let s : State := base;
      let slot : Nat := 2;
      let card : CardId := cardId 12 4;
      s.station = .trading && slot < 8 && getSlot s slot = none && cardValid card = true && card.ss ≠ ownStation s) &&
    (let s : State := base;
      let n : Nat := 0;
      s.station = .trading && decide (n = 0 ∨ 5 ≤ n)) &&
    (let s : State := base;
      let n : Nat := 1;
      let lo : Nat := 1;
      let hi : Nat := 99999999;
      let act : Bool := true;
      s.station = .trading && 1 ≤ n && n ≤ 4 && decide (act = true → 1 ≤ lo ∧ lo ≤ hi ∧ hi ≤ 99999999) &&
        512 < freeCount s.journal && frameFree s = true)) = true := by decide +kernel

theorem meets_ForeignWorkSendsItsRequest :
    (
    (let s : State := base;
      let slot : Nat := 2;
      let card : CardId := cardId 12 4;
      let amount : Nat := 9999999;
      s.station = .trading && slot < 8 && trackCount s < 32 && (nextNumber s).2 = false &&
        unstored (coversNumber (nextNumber s).1) s = [] && numberHeld s (nextNumber s).1 = false &&
        getSlot s slot = none && cardValid card = true && card.ss ≠ ownStation s && rosterPresent s card.ss = true &&
        lastClosed s < openPeriod s && 1 ≤ amount && amount ≤ 9999999 && 512 < freeCount s.journal &&
        redeemInLimit s card.ss amount = true) &&
    (let s : State := slotIs (heldOf (cardId 12 4)) base;
      let slot : Nat := 2;
      s.station = .trading && slot < 8 && trackCount s < 32 && (nextNumber s).2 = false &&
        unstored (coversNumber (nextNumber s).1) s = [] && numberHeld s (nextNumber s).1 = false &&
        (match heldSlot s slot with
          | some (sl, h) =>
              sl.card.ss ≠ ownStation s && rosterPresent s sl.card.ss = true && lastClosed s < h.period
          | _ => false)) &&
    (let s : State := base;
      let slot : Nat := 2;
      let card : CardId := cardId 20 4;
      let amount : Nat := 9999999;
      s.station = .trading && slot < 8 && getSlot s slot = none && cardValid card = true && card.ss ≠ ownStation s &&
        1 ≤ amount && amount ≤ 9999999 && rosterPresent s card.ss = false) &&
    (let s : State := { base with tracker := ⟨(List.range 32).map fun n => (n, ⟨⟨.hold, 12, n + 300, 1, 4, 500, none, .sent⟩, 1, none, none, false, none, false, false⟩), 5⟩ };
      let slot : Nat := 2;
      let card : CardId := cardId 12 4;
      let amount : Nat := 9999999;
      s.station = .trading && slot < 8 && getSlot s slot = none && cardValid card = true && card.ss ≠ ownStation s &&
        1 ≤ amount && amount ≤ 9999999 && rosterPresent s card.ss = true && 32 ≤ trackCount s)) = true := by decide +kernel

theorem meets_ForeignMoneyIsStoredFirst :
    (
    (let s : State := slotIs (heldOf (cardId 12 4)) base;
      let slot : Nat := 2;
      let amount : Nat := 500;
      s.station = .trading && slot < 8 && trackCount s < 32 && (nextNumber s).2 = false && frameFree s = true &&
        1 ≤ amount &&
        (match heldSlot s slot with
          | some (sl, h) =>
              sl.card.ss ≠ ownStation s && rosterPresent s sl.card.ss = true && amount ≤ h.g
          | _ => false)) &&
    (let s : State := base;
      let slot : Nat := 2;
      let amount : Nat := 500;
      let card : CardId := cardId 12 4;
      let kind : CreditKind := .topup;
      s.station = .trading && slot < 8 && trackCount s < 32 && (nextNumber s).2 = false && frameFree s = true &&
        1 ≤ amount && getSlot s slot = none && cardValid card = true && card.ss ≠ ownStation s &&
        rosterPresent s card.ss = true && amount ≤ 9999999 && 512 < freeCount s.journal &&
        creditInLimit s card.ss kind amount = true)) = true := by decide +kernel

theorem meets_CounterStepsGoFirst :
    (
    (let s : State := { base with tracker := ⟨[], 256⟩ };
      let slot : Nat := 2;
      let card : CardId := cardId 12 4;
      let amount : Nat := 500;
      s.station = .trading &&
        (match s.ident with
          | some i =>
              slot < 8 && (nextNumber s).2 = true && getSlot s slot = none && cardValid card = true &&
                card.ss ≠ i.station && rosterPresent s card.ss = true && trackCount s < 32 && frameFree s = true &&
                coveredBy (stepMark i.highWater) (nextNumber s).1 = true &&
                unstored (coversNumber (nextNumber s).1) s = [] && 512 < freeCount s.journal && 1 ≤ amount &&
                amount ≤ 9999999 && redeemInLimit s card.ss amount = true
          | _ => false)) &&
    (let s : State := full { base with tracker := ⟨[], 256⟩ };
      let slot : Nat := 2;
      let card : CardId := cardId 12 4;
      let amount : Nat := 500;
      s.station = .trading &&
        (match s.ident with
          | some i =>
              slot < 8 && (nextNumber s).2 = true && getSlot s slot = none && cardValid card = true &&
                card.ss ≠ i.station && rosterPresent s card.ss = true && trackCount s < 32 && frameFree s = false &&
                512 < freeCount s.journal && 1 ≤ amount && amount ≤ 9999999 && redeemInLimit s card.ss amount = true
          | _ => false)) &&
    (let s : State := { base with tracker := ⟨[], 256⟩ };
      let slot : Nat := 2;
      let card : CardId := cardId 12 4;
      let amount : Nat := 500;
      let kind : CreditKind := .topup;
      s.station = .trading &&
        (match s.ident with
          | some i =>
              slot < 8 && (nextNumber s).2 = true && getSlot s slot = none && cardValid card = true &&
                card.ss ≠ i.station && rosterPresent s card.ss = true && trackCount s < 32 && 512 < freeCount s.journal &&
                1 ≤ amount && amount ≤ 9999999 && creditInLimit s card.ss kind amount = true && 2 ≤ framesFree s
          | _ => false)) &&
    (let s : State := full { base with tracker := ⟨[], 256⟩ };
      let slot : Nat := 2;
      let card : CardId := cardId 12 4;
      let amount : Nat := 500;
      let kind : CreditKind := .topup;
      s.station = .trading &&
        (match s.ident with
          | some i =>
              slot < 8 && (nextNumber s).2 = true && getSlot s slot = none && cardValid card = true &&
                card.ss ≠ i.station && rosterPresent s card.ss = true && trackCount s < 32 && 512 < freeCount s.journal &&
                1 ≤ amount && amount ≤ 9999999 && creditInLimit s card.ss kind amount = true && framesFree s < 2
          | _ => false)) &&
    (let s : State := slotIs (heldOf (cardId 12 4)) (stepDue base);
      let slot : Nat := 2;
      s.station = .trading &&
        (match s.ident with
          | some i =>
              slot < 8 && (nextNumber s).2 = true &&
                (match heldSlot s slot with
                  | some (sl, h) =>
                      sl.card.ss ≠ i.station && rosterPresent s sl.card.ss = true && trackCount s < 32 &&
                        frameFree s = true && coveredBy (stepMark i.highWater) (nextNumber s).1 = true &&
                        unstored (coversNumber (nextNumber s).1) s = []
                  | _ => false)
          | _ => false)) &&
    (let s : State := full (slotIs (heldOf (cardId 12 4)) (stepDue base));
      let slot : Nat := 2;
      s.station = .trading &&
        (match s.ident with
          | some i =>
              slot < 8 && (nextNumber s).2 = true &&
                (match heldSlot s slot with
                  | some (sl, h) =>
                      sl.card.ss ≠ i.station && rosterPresent s sl.card.ss = true && trackCount s < 32 &&
                        frameFree s = false
                  | _ => false)
          | _ => false)) &&
    (let s : State := slotIs (heldOf (cardId 12 4)) (stepDue base);
      let slot : Nat := 2;
      let amount : Nat := 500;
      s.station = .trading &&
        (match s.ident with
          | some i =>
              slot < 8 && (nextNumber s).2 = true &&
                (match heldSlot s slot with
                  | some (sl, h) =>
                      sl.card.ss ≠ i.station && rosterPresent s sl.card.ss = true && trackCount s < 32 && 1 ≤ amount &&
                        amount ≤ h.g && 2 ≤ framesFree s
                  | _ => false)
          | _ => false)) &&
    (let s : State := full (slotIs (heldOf (cardId 12 4)) (stepDue base));
      let slot : Nat := 2;
      let amount : Nat := 500;
      s.station = .trading &&
        (match s.ident with
          | some i =>
              slot < 8 && (nextNumber s).2 = true &&
                (match heldSlot s slot with
                  | some (sl, h) =>
                      sl.card.ss ≠ i.station && rosterPresent s sl.card.ss = true && trackCount s < 32 && 1 ≤ amount &&
                        amount ≤ h.g && framesFree s < 2
                  | _ => false)
          | _ => false)) &&
    (let s : State := (heard (.holdAns .granted 500 9 none) (stepDue (entryMap (fun t => { t with abandoned := true, slot := none }) (entryIs .hold base))));
      let slot : Nat := 2;
      s.station = .trading &&
        (match s.ident with
          | some i =>
              slot < 8 && (nextNumber s).2 = true &&
                (match s.link.rx with
                  | f :: rest =>
                      (match f.payload with
                        | .holdAns how g tag r =>
                            raisesNothing f s = true && how ≠ .declined &&
                              (match findTrack s f.src f.reqNo with
                                | some (tp, tr) =>
                                    tr.data.kind = .hold &&
                                      (tr.data.period : Int) ≤ extendStamp (openPeriod s) f.stamp && tr.orphan = none &&
                                      tr.abandoned = true && frameFree s = true &&
                                      coveredBy (stepMark i.highWater) (nextNumber s).1 = true &&
                                      unstored (coversNumber (nextNumber s).1) s = []
                                | _ => false)
                        | _ => false)
                  | _ => false)
          | _ => false)) &&
    (let s : State := full (heard (.holdAns .granted 500 9 none) (stepDue (entryMap (fun t => { t with abandoned := true, slot := none }) (entryIs .hold base))));
      let slot : Nat := 2;
      s.station = .trading &&
        (match s.ident with
          | some i =>
              slot < 8 && (nextNumber s).2 = true &&
                (match s.link.rx with
                  | f :: rest =>
                      (match f.payload with
                        | .holdAns how g tag r =>
                            raisesNothing f s = true && how ≠ .declined &&
                              (match findTrack s f.src f.reqNo with
                                | some (tp, tr) =>
                                    tr.data.kind = .hold &&
                                      (tr.data.period : Int) ≤ extendStamp (openPeriod s) f.stamp && tr.orphan = none &&
                                      tr.abandoned = true && frameFree s = false
                                | _ => false)
                        | _ => false)
                  | _ => false)
          | _ => false))) = true := by decide +kernel

theorem meets_SlotFreeLetsGo :
    (
    (let s : State := base;
      let slot : Nat := 2;
      s.station = .trading && slot < 8 && getSlot s slot = none) &&
    (let s : State := slotIs { heldOf (cardId 12 4) with state := .settling, link := some (12, 6) } (entryIs .capture base);
      let slot : Nat := 2;
      s.station = .trading && slot < 8 &&
        (match getSlot s slot with
          | some sl =>
              decide (sl.state = .settling ∨ sl.state = .crediting ∨ sl.state = .issuing)
          | _ => false)) &&
    (let s : State := slotIs { heldOf (cardId 12 4) with state := .outcome, link := some (12, 6) } (entryIs .release base);
      let slot : Nat := 2;
      s.station = .trading && slot < 8 &&
        (match getSlot s slot with
          | some sl =>
              sl.state = .outcome
          | _ => false)) &&
    (let s : State := (let s : State := slotIs { heldOf (cardId 7 1) with state := .authorising } (programs (.frame 0 ⟨1, .holdGrant, [], .none⟩) .holdGrant (.slotOutcome 2 none (some ⟨9, 1, 500⟩) ⟨.approved, 500, cardId 7 1, some 500, none, none, 0⟩) (holdIs 7 .isOpen base)); { s with control := { s.control with frames := s.control.frames }, requests := { s.requests with lives := [(9, 0)] } });
      let slot : Nat := 2;
      s.station = .trading && slot < 8 &&
        (match getSlot s slot with
          | some sl =>
              decide (sl.state = .authorising ∨ sl.state = .enquiring) && linkedTrack s sl = none
          | _ => false)) &&
    (let s : State := (let s : State := slotIs { heldOf (cardId 7 1) with state := .authorising } (programs (.frame 0 ⟨1, .holdGrant, [], .none⟩) .holdGrant (.slotOutcome 2 none (some ⟨9, 1, 500⟩) ⟨.approved, 500, cardId 7 1, some 500, none, none, 0⟩) (holdIs 7 .isOpen base)); { s with control := { s.control with frames := s.control.frames }, requests := { s.requests with lives := [(9, 0)] } });
      let slot : Nat := 2;
      s.station = .trading && slot < 8 &&
        (match getSlot s slot with
          | some sl =>
              sl.state = .authorising && linkedTrack s sl = none &&
                (let freed : State := { s with slots := tabDel s.slots slot, control := (forsake slot s).control, port := acceptedPort [] s };
                 (match s.control.queue with
                   | .frame slt frm :: prs =>
                       (match (s.control.frames.find? fun k => k.slot = slt) with
                         | some pf =>
                             pf.frame.format = .holdGrant &&
                               (match pf.frame.continuation with
                                 | .slotOutcome slot1 orq (some h) oout =>
                                     slot1 = slot &&
                                       (match findSettled s (ownStation s) h.tag oout.card.serial h.period with
                                         | some (gp, gr) =>
                                             (match gr.body with
                                               | .hold h_tag1 a .isOpen =>
                                                   h_tag1 = h.tag &&
                                                     (match findCard s gr.serial with
                                                       | some (place, c) =>
                                                           s.control.waits = [] && tabGet s.requests.lives h.tag = some 0
                                                       | _ => false)
                                               | _ => false)
                                         | _ => false)
                                 | _ => false)
                         | _ => false)
                   | _ => false))
          | _ => false)) &&
    (let s : State := (let s : State := slotIs { heldOf (cardId 7 1) with state := .authorising } (programs (.frame 0 ⟨1, .holdGrant, [], .none⟩) .holdGrant (.slotOutcome 2 none (some ⟨9, 1, 500⟩) ⟨.approved, 500, cardId 7 1, some 500, none, none, 0⟩) (holdIs 7 .isOpen base)); { s with control := { s.control with frames := s.control.frames }, requests := { s.requests with lives := [(9, 40)] } });
      let slot : Nat := 2;
      s.station = .trading && slot < 8 &&
        (match getSlot s slot with
          | some sl =>
              sl.state = .authorising && linkedTrack s sl = none &&
                (let freed : State := { s with slots := tabDel s.slots slot, control := (forsake slot s).control, port := acceptedPort [] s };
                 (match s.control.queue with
                   | .frame slt frm :: prs =>
                       (match (s.control.frames.find? fun k => k.slot = slt) with
                         | some pf =>
                             pf.frame.format = .holdGrant &&
                               (match pf.frame.continuation with
                                 | .slotOutcome slot1 orq (some h) oout =>
                                     slot1 = slot &&
                                       (match findSettled s (ownStation s) h.tag oout.card.serial h.period with
                                         | some (gp, gr) =>
                                             (match gr.body with
                                               | .hold h_tag1 a .isOpen =>
                                                   h_tag1 = h.tag &&
                                                     (match findCard s gr.serial with
                                                       | some (place, c) =>
                                                           s.control.waits = [] && tabGet s.requests.lives h.tag ≠ some 0 &&
                                                             frameFree s = true
                                                       | _ => false)
                                               | _ => false)
                                         | _ => false)
                                 | _ => false)
                         | _ => false)
                   | _ => false))
          | _ => false)) &&
    (let s : State := (let s : State := slotIs { heldOf (cardId 7 1) with state := .authorising } (programs (.frame 0 ⟨1, .holdGrant, [], .none⟩) .holdGrant (.slotOutcome 2 none (some ⟨9, 1, 500⟩) ⟨.approved, 500, cardId 7 1, some 500, none, none, 0⟩) (holdIs 7 .isOpen base)); { s with control := { s.control with frames := s.control.frames ++ (full base).control.frames.drop 1 }, requests := { s.requests with lives := [(9, 40)] } });
      let slot : Nat := 2;
      s.station = .trading && slot < 8 &&
        (match getSlot s slot with
          | some sl =>
              sl.state = .authorising && linkedTrack s sl = none &&
                (let freed : State := { s with slots := tabDel s.slots slot, control := (forsake slot s).control, port := acceptedPort [] s };
                 (match s.control.queue with
                   | .frame slt frm :: prs =>
                       (match (s.control.frames.find? fun k => k.slot = slt) with
                         | some pf =>
                             pf.frame.format = .holdGrant &&
                               (match pf.frame.continuation with
                                 | .slotOutcome slot1 orq (some h) oout =>
                                     slot1 = slot &&
                                       (match findSettled s (ownStation s) h.tag oout.card.serial h.period with
                                         | some (gp, gr) =>
                                             (match gr.body with
                                               | .hold h_tag1 a .isOpen =>
                                                   h_tag1 = h.tag &&
                                                     (match findCard s gr.serial with
                                                       | some (place, c) =>
                                                           s.control.waits = [] && tabGet s.requests.lives h.tag ≠ some 0 &&
                                                             frameFree s = false
                                                       | _ => false)
                                               | _ => false)
                                         | _ => false)
                                 | _ => false)
                         | _ => false)
                   | _ => false))
          | _ => false)) &&
    (let s : State := slotIs { heldOf (cardId 12 4) with state := .authorising, link := some (12, 6) } (entryIs .hold base);
      let slot : Nat := 2;
      s.station = .trading && slot < 8 &&
        (match getSlot s slot with
          | some sl =>
              sl.state = .authorising &&
                (match linkedTrack s sl with
                  | some (tp, tr) =>
                      true
                  | _ => false)
          | _ => false)) &&
    (let s : State := slotIs { heldOf (cardId 12 4) with state := .enquiring, link := some (12, 6) } (entryIs (.status .enquire) base);
      let slot : Nat := 2;
      s.station = .trading && slot < 8 &&
        (match getSlot s slot with
          | some sl =>
              sl.state = .enquiring &&
                (match linkedTrack s sl with
                  | some (tp, tr) =>
                      true
                  | _ => false)
          | _ => false)) &&
    (let s : State := slotIs (heldOf (cardId 7 1)) (holdIs 7 .isOpen base);
      let slot : Nat := 2;
      s.station = .trading && slot < 8 &&
        (match getSlot s slot with
          | some sl =>
              sl.state = .held &&
                (match sl.hold with
                  | some h =>
                      sl.card.ss = ownStation s &&
                        (match findSettled s (ownStation s) h.tag sl.card.serial h.period with
                          | some (gp, gr) =>
                              (match gr.body with
                                | .hold tag a .isOpen =>
                                    (match findCard s gr.serial with
                                      | some (place, c) =>
                                          frameFree s = true
                                      | _ => false)
                                | _ => false)
                          | _ => false)
                  | _ => false)
          | _ => false)) &&
    (let s : State := slotIs (heldOf (cardId 7 1)) (full (holdIs 7 .isOpen base));
      let slot : Nat := 2;
      s.station = .trading && slot < 8 &&
        (match getSlot s slot with
          | some sl =>
              sl.state = .held &&
                (match sl.hold with
                  | some h =>
                      sl.card.ss = ownStation s &&
                        (match findSettled s (ownStation s) h.tag sl.card.serial h.period with
                          | some (gp, gr) =>
                              (match gr.body with
                                | .hold tag a .isOpen =>
                                    (match findCard s gr.serial with
                                      | some (place, c) =>
                                          frameFree s = false
                                      | _ => false)
                                | _ => false)
                          | _ => false)
                  | _ => false)
          | _ => false)) &&
    (let s : State := slotIs (heldOf (cardId 7 1)) (holdIs 7 .expired base);
      let slot : Nat := 2;
      s.station = .trading && slot < 8 &&
        (match getSlot s slot with
          | some sl =>
              sl.state = .held &&
                (match sl.hold with
                  | some h =>
                      sl.card.ss = ownStation s &&
                        ((findSettled s (ownStation s) h.tag sl.card.serial h.period).all fun k => !grantOpen k.2) = true
                  | _ => false)
          | _ => false)) &&
    (let s : State := (let s : State := slotIs { heldOf (cardId 7 1) with state := .authorising } (programs (.frame 0 ⟨1, .holdGrant, [], .none⟩) .holdGrant (.slotOutcome 2 none (some ⟨9, 1, 500⟩) ⟨.approved, 500, cardId 7 1, some 500, none, none, 0⟩) (holdIs 7 .isOpen base)); { s with control := { s.control with frames := s.control.frames }, requests := { s.requests with lives := [(9, 0)] } });
      let slot : Nat := 2;
      let n : Nat := 0;
      s.station = .trading && slot < 8 &&
        (match getSlot s slot with
          | some sl =>
              (match s.control.frames[n]? with
                | some pf =>
                    (match pf.frame.continuation with
                      | .slotOutcome slot1 orq oh oout =>
                          slot1 = slot &&
                            true
                      | _ => false)
                | _ => false)
          | _ => false)) &&
    (let s : State := slotIs (heldOf (cardId 7 1)) (full (holdIs 7 .isOpen base));
      let slot : Nat := 2;
      let n : Nat := 1;
      s.station = .trading && slot < 8 &&
        (match getSlot s slot with
          | some sl =>
              (match s.control.frames[n]? with
                | some pf =>
                    outcomeFor slot pf.frame.continuation = false
                | _ => false)
          | _ => false)) &&
    (let s : State := slotIs (heldOf (cardId 12 4)) base;
      let slot : Nat := 2;
      s.station = .trading && slot < 8 &&
        (match getSlot s slot with
          | some sl =>
              sl.state = .held &&
                (match sl.hold with
                  | some h =>
                      sl.card.ss ≠ ownStation s && (nextNumber s).2 = false &&
                        unstored (coversNumber (nextNumber s).1) s = [] && numberHeld s (nextNumber s).1 = false &&
                        lastClosed s < h.period && trackCount s < 32
                  | _ => false)
          | _ => false)) &&
    (let s : State := slotIs (heldOf (cardId 12 4)) { base with tracker := ⟨(List.range 32).map fun n => (n, ⟨⟨.hold, 12, n + 300, 1, 4, 500, none, .sent⟩, 1, none, none, false, none, false, false⟩), 5⟩ };
      let slot : Nat := 2;
      s.station = .trading && slot < 8 &&
        (match getSlot s slot with
          | some sl =>
              sl.state = .held &&
                (match sl.hold with
                  | some h =>
                      sl.card.ss ≠ ownStation s && (nextNumber s).2 = false &&
                        unstored (coversNumber (nextNumber s).1) s = [] && numberHeld s (nextNumber s).1 = false &&
                        lastClosed s < h.period && 32 ≤ trackCount s
                  | _ => false)
          | _ => false))) = true := by decide +kernel

theorem meets_CloseRaisesTheTargetAndBegins :
    (
    (let s : State := closing [] base;
      s.station = .trading &&
        (let link : Link := (if s.positions.target < openPeriod s then (offerPresence { s with positions := { s.positions with target := openPeriod s } }).link else s.link);
         s.positions.gen.closing = true)) &&
    (let s : State := reserved base;
      s.station = .trading &&
        (let link : Link := (if s.positions.target < openPeriod s then (offerPresence { s with positions := { s.positions with target := openPeriod s } }).link else s.link);
         s.positions.gen.closing = false &&
           decide (freeCount s.journal ≤ 512 ∨ 16 ≤ s.control.frames.length ∨ 16777215 ≤ openPeriod s))) &&
    (let s : State := base;
      s.station = .trading &&
        (let link : Link := (if s.positions.target < openPeriod s then (offerPresence { s with positions := { s.positions with target := openPeriod s } }).link else s.link);
         s.positions.gen.closing = false && 512 < freeCount s.journal && frameFree s = true && openPeriod s < 16777215))) = true := by decide +kernel

theorem meets_StartIsCheckedAndTaken :
    (
    (let s : State := { closing [] base with station := .idle };
      let st : Nat := 7;
      let ml : Nat := 9;
      let fr : Nat := 1000;
      let ff : Nat := 99;
      let ce : Nat := 50000;
      s.station = .idle && 1 ≤ st && st ≤ 63 && 1 ≤ ml && ml ≤ 65535 && fr ≤ 1000 && ff ≤ 99 && 100 ≤ ce &&
        ce ≤ 9999999 && (s.ident.all fun k => k.station = st && k.mall = ml) = true &&
        decide (s.ident = none ∨ (s.custody.cards.all fun p => p.2.available + p.2.held ≤ ce) = true) && s.link.tx = [] &&
        s.positions.gen.closing = true) &&
    (let s : State := { State.reset with station := .idle, recovery := none, positions := { State.reset.positions with target := 0, gen := .blank } };
      let st : Nat := 7;
      let ml : Nat := 9;
      let fr : Nat := 1000;
      let ff : Nat := 99;
      let ce : Nat := 50000;
      s.station = .idle && 1 ≤ st && st ≤ 63 && 1 ≤ ml && ml ≤ 65535 && fr ≤ 1000 && ff ≤ 99 && 100 ≤ ce &&
        ce ≤ 9999999 && (s.ident.all fun k => k.station = st && k.mall = ml) = true &&
        decide (s.ident = none ∨ (s.custody.cards.all fun p => p.2.available + p.2.held ≤ ce) = true) && s.link.tx = [] &&
        s.positions.gen.closing = false && s.positions.target < openPeriod s && s.ident = none && frameFree s = true) &&
    (let s : State := entryIs .capture { base with station := .idle };
      let st : Nat := 7;
      let ml : Nat := 9;
      let fr : Nat := 1000;
      let ff : Nat := 99;
      let ce : Nat := 50000;
      s.station = .idle && 1 ≤ st && st ≤ 63 && 1 ≤ ml && ml ≤ 65535 && fr ≤ 1000 && ff ≤ 99 && 100 ≤ ce &&
        ce ≤ 9999999 && (s.ident.all fun k => k.station = st && k.mall = ml) = true &&
        decide (s.ident = none ∨ (s.custody.cards.all fun p => p.2.available + p.2.held ≤ ce) = true) && s.link.tx = [] &&
        s.link.owed = [] &&
        (match s.tracker.entries with
          | [(tp, tr)] =>
              s.positions.gen.closing = false && s.positions.target < openPeriod s && s.ident.isSome = true &&
                trackFree (lastClosed s) tr = false && tr.data.state = .sent
          | _ => false)) &&
    (let s : State := entryMap (fun t => { t with data := { t.data with state := .inDoubt } }) (entryIs .capture { base with station := .idle });
      let st : Nat := 7;
      let ml : Nat := 9;
      let fr : Nat := 1000;
      let ff : Nat := 99;
      let ce : Nat := 50000;
      s.station = .idle && 1 ≤ st && st ≤ 63 && 1 ≤ ml && ml ≤ 65535 && fr ≤ 1000 && ff ≤ 99 && 100 ≤ ce &&
        ce ≤ 9999999 && (s.ident.all fun k => k.station = st && k.mall = ml) = true &&
        decide (s.ident = none ∨ (s.custody.cards.all fun p => p.2.available + p.2.held ≤ ce) = true) && s.link.tx = [] &&
        s.link.owed = [] &&
        (match s.tracker.entries with
          | [(tp, tr)] =>
              s.positions.gen.closing = false && s.positions.target < openPeriod s && s.ident.isSome = true &&
                trackFree (lastClosed s) tr = false && tr.data.state = .inDoubt
          | _ => false)) &&
    (let s : State := { base with station := .idle };
      let st : Nat := 7;
      let ml : Nat := 0;
      let fr : Nat := 1000;
      let ff : Nat := 99;
      let ce : Nat := 50000;
      s.station = .idle &&
        decide (st = 0 ∨ 63 < st ∨ ml = 0 ∨ 65535 < ml ∨ 1000 < fr ∨ 99 < ff ∨ ce < 100 ∨ 9999999 < ce)) &&
    (let s : State := { base with station := .idle };
      let st : Nat := 8;
      let ml : Nat := 9;
      let fr : Nat := 1000;
      let ff : Nat := 99;
      let ce : Nat := 50000;
      s.station = .idle && 1 ≤ st && st ≤ 63 && 1 ≤ ml && ml ≤ 65535 && fr ≤ 1000 && ff ≤ 99 && 100 ≤ ce &&
        ce ≤ 9999999 &&
        (match s.ident with
          | some i =>
              decide (i.station ≠ st ∨ i.mall ≠ ml)
          | _ => false)) &&
    (let s : State := { base with station := .idle };
      let st : Nat := 7;
      let ml : Nat := 9;
      let fr : Nat := 1000;
      let ff : Nat := 99;
      let ce : Nat := 100;
      s.station = .idle && 1 ≤ st && st ≤ 63 && 1 ≤ ml && ml ≤ 65535 && fr ≤ 1000 && ff ≤ 99 && 100 ≤ ce &&
        ce ≤ 9999999 &&
        (match s.ident with
          | some i =>
              i.station = st && i.mall = ml && (s.custody.cards.any fun p => ce < p.2.available + p.2.held) = true
          | _ => false))) = true := by decide +kernel

theorem meets_MaskAndLostFlag :
    (
    (let s : State := State.reset;
      s.station = .recovering) &&
    (let s : State := base;
      let m : Nat := 7;
      decide (s.station = .idle ∨ s.station = .trading ∨ s.station = .halted) && m ≤ 7) &&
    (let s : State := base;
      let m : Nat := 8;
      decide (s.station = .idle ∨ s.station = .trading ∨ s.station = .halted) && 7 < m) &&
    (let s : State := { base with port := { base.port with session := .statusFlag } };
      s.station ≠ .held && s.port.session = .statusFlag) &&
    (let s : State := base;
      s.port.session ≠ .statusFlag)) = true := by decide +kernel

theorem meets_NoticesAreTakenByLevel :
    (
    (let s : State := { base with notices := ⟨[⟨0, ⟨.cursorEnded, .number 1, 0⟩⟩, ⟨1, ⟨.fault, .none, 1⟩⟩], 7, false, 2⟩ };
      let ln : List Notice := [⟨0, ⟨.cursorEnded, .number 1, 0⟩⟩];
      let nt : Notice := ⟨1, ⟨.fault, .none, 1⟩⟩;
      let rn : List Notice := [];
      decide (s.station = .idle ∨ s.station = .trading ∨ s.station = .halted) && s.notices.queue = ln ++ nt :: rn &&
        eligible s.notices.mask nt = true &&
        (ln.all fun k => !eligible s.notices.mask k || levelOf k < levelOf nt) = true &&
        (rn.all fun k => !eligible s.notices.mask k || levelOf k ≤ levelOf nt) = true) &&
    (let s : State := base;
      decide (s.station = .idle ∨ s.station = .trading ∨ s.station = .halted) &&
        (s.notices.queue.any fun k => eligible s.notices.mask k) = false) &&
    (let s : State := { base with port := { base.port with session := .notice 3 } };
      (match s.port.session with
        | .notice n =>
            true
        | _ => false)) &&
    (let s : State := { base with notices := ⟨[⟨0, ⟨.cursorEnded, .number 1, 0⟩⟩, ⟨1, ⟨.fault, .none, 1⟩⟩], 7, false, 2⟩ };
      decide (s.port.session = .none ∨ s.port.session = .statusFlag)) &&
    (let s : State := { base with notices := ⟨[⟨0, ⟨.cursorEnded, .number 1, 0⟩⟩, ⟨1, ⟨.fault, .none, 1⟩⟩], 7, false, 2⟩, port := { base.port with session := .notice 1 } };
      let ln : List Notice := [⟨0, ⟨.cursorEnded, .number 1, 0⟩⟩];
      let nt : Notice := ⟨1, ⟨.fault, .none, 1⟩⟩;
      let rn : List Notice := [];
      s.notices.queue = ln ++ nt :: rn && s.port.session = .notice nt.seq &&
        ((ln ++ rn).any fun k => eligible s.notices.mask k) = false)) = true := by decide +kernel

theorem meets_CursorSetReadiesTheCursor :
    (
    (let s : State := base;
      let cnt : Nat := 1;
      let len : Nat := 64;
      let ae : Nat := 1;
      let am : Nat := 1;
      let cur : Nat := 1;
      let ad : Nat := 1;
      let af : Nat := 1;
      decide (s.station = .idle ∨ s.station = .trading ∨ s.station = .halted) && 1 ≤ cnt && 1 ≤ len && len ≤ 64 &&
        (match endActionArg ae with
          | some ea =>
              (match modeArg am with
                | some mode =>
                    1 ≤ cur && cur ≤ 3 &&
                      (match directionArg ad with
                        | some dir =>
                            (match filterArg af with
                              | some fil =>
                                  true
                              | _ => false)
                        | _ => false)
                | _ => false)
          | _ => false))) = true := by decide +kernel

theorem meets_CursorReadChoosesEntries :
    (
    (let s : State := { base with cursors := ⟨[(1, cur0)], 0⟩ };
      let cur : Nat := 1;
      decide (s.station = .idle ∨ s.station = .trading ∨ s.station = .halted) && cur ≤ 3 &&
        (getCursor s cur).state ≠ .idle) &&
    (let s : State := base;
      let cur : Nat := 1;
      decide (s.station = .idle ∨ s.station = .trading ∨ s.station = .halted) &&
        decide (4 ≤ cur ∨ (getCursor s cur).state = .idle)) &&
    (let s : State := reading .header cur0 base;
      (match s.port.session with
        | .cursor cs =>
            decide (cs.item = .header ∨ cs.item = .endRecord) && cs.endOnly = false &&
              (getCursor s cs.cursor).state = .ready && cs.given = none && cs.complete = false &&
              decide (∀ k ∈ visible s, filterAccepts (getCursor s cs.cursor).filter k.kind = true → ((getCursor s cs.cursor).direction = .forward → k.index < (getCursor s cs.cursor).current) ∧ ((getCursor s cs.cursor).direction = .backward → (getCursor s cs.cursor).current < k.index))
        | _ => false))) = true := by decide +kernel

theorem meets_EntryReadMovesTheCursor :
    (
    (let s : State := reading (.entry entry0) { cur0 with count := 1 } base;
      (match s.port.session with
        | .cursor cs =>
            (match cs.item with
              | .entry en =>
                  (getCursor s cs.cursor).count = 1 && (getCursor s cs.cursor).endAction = .stop
              | _ => false)
        | _ => false)) &&
    (let s : State := reading (.entry entry0) cur0 base;
      (match s.port.session with
        | .cursor cs =>
            (match cs.item with
              | .entry en =>
                  decide (2 ≤ (getCursor s cs.cursor).count ∨ ((getCursor s cs.cursor).count = 1 ∧ (getCursor s cs.cursor).endAction = .reload)) &&
                    (getCursor s cs.cursor).mode = .successive
              | _ => false)
        | _ => false)) &&
    (let s : State := reading (.entry entry0) { cur0 with mode := .single } base;
      (match s.port.session with
        | .cursor cs =>
            (match cs.item with
              | .entry en =>
                  decide (2 ≤ (getCursor s cs.cursor).count ∨ ((getCursor s cs.cursor).count = 1 ∧ (getCursor s cs.cursor).endAction = .reload)) &&
                    (getCursor s cs.cursor).mode = .single && (getCursor s cs.cursor).state ≠ .ended &&
                    cs.endOnly = false
              | _ => false)
        | _ => false)) &&
    (let s : State := reading (.entry entry0) { cur0 with mode := .block, blockLen := 2 } base;
      (match s.port.session with
        | .cursor cs =>
            (match cs.item with
              | .entry en =>
                  decide (2 ≤ (getCursor s cs.cursor).count ∨ ((getCursor s cs.cursor).count = 1 ∧ (getCursor s cs.cursor).endAction = .reload)) &&
                    (getCursor s cs.cursor).mode = .block && 2 ≤ (getCursor s cs.cursor).count &&
                    (getCursor s cs.cursor).buffer.length + 1 < (getCursor s cs.cursor).blockLen
              | _ => false)
        | _ => false)) &&
    (let s : State := reading (.entry entry0) { cur0 with mode := .block } base;
      let first : JournalEntry := entry0;
      let others : List JournalEntry := [];
      (match s.port.session with
        | .cursor cs =>
            (match cs.item with
              | .entry en =>
                  decide (2 ≤ (getCursor s cs.cursor).count ∨ ((getCursor s cs.cursor).count = 1 ∧ (getCursor s cs.cursor).endAction = .reload)) &&
                    (getCursor s cs.cursor).mode = .block && cs.endOnly = false &&
                    (getCursor s cs.cursor).buffer ++ [en] = first :: others &&
                    decide ((getCursor s cs.cursor).count = 1 ∨ (getCursor s cs.cursor).blockLen ≤ (getCursor s cs.cursor).buffer.length + 1)
              | _ => false)
        | _ => false)) &&
    (let s : State := { reading (.again entry0) { cur0 with mode := .single } base with port := { base.port with session := .cursor ⟨1, .again entry0, some entry0, false, 0, false⟩ } };
      (match s.port.session with
        | .cursor cs =>
            (match cs.item with
              | .again en =>
                  (getCursor s cs.cursor).mode = .single && cs.given = some en
              | _ => false)
        | _ => false)) &&
    (let s : State := { reading (.again entry0) { cur0 with mode := .block, state := .paused, buffer := [entry0] } base with port := { base.port with session := .cursor ⟨1, .again entry0, some entry0, true, 1, false⟩ } };
      (match s.port.session with
        | .cursor cs =>
            (match cs.item with
              | .again en =>
                  (getCursor s cs.cursor).mode = .block && cs.complete = true
              | _ => false)
        | _ => false))) = true := by decide +kernel

theorem meets_ArchiveAckStoresTheIndex :
    (
    (let s : State := { base with station := .halted, fault := some .stationClash };
      decide (s.station = .recovering ∨ s.station = .halted)) &&
    (let s : State := { base with cursors := ⟨[], 1⟩ };
      let idx : Nat := 2;
      decide (s.station = .idle ∨ s.station = .trading) && s.cursors.mark < idx) &&
    (let s : State := { base with cursors := ⟨[], 1⟩ };
      let idx : Nat := 0;
      decide (s.station = .idle ∨ s.station = .trading) && idx ≤ s.cursors.mark && idx ≤ s.journal.archived) &&
    (let s : State := full { base with cursors := ⟨[], 1⟩ };
      let idx : Nat := 1;
      decide (s.station = .idle ∨ s.station = .trading) && idx ≤ s.cursors.mark && s.journal.archived < idx &&
        frameFree s = false) &&
    (let s : State := { base with cursors := ⟨[], 1⟩ };
      let idx : Nat := 1;
      decide (s.station = .idle ∨ s.station = .trading) && idx ≤ s.cursors.mark && s.journal.archived < idx &&
        frameFree s = true)) = true := by decide +kernel

theorem meets_FramesAreTestedInOrder :
    (
    (let s : State := { base with station := .idle };
      s.station ≠ .trading && s.station ≠ .halted) &&
    (let s : State := { base with link := { base.link with phase := .attempting } };
      decide (s.link.phase = .attempting ∨ s.link.phase = .abandoned)) &&
    (let s : State := { base with station := .idle };
      let bytes : List Byte := [];
      frameCheckOk bytes = false) &&
    (let s : State := { base with station := .idle };
      let bytes : List Byte := [];
      frameMall bytes ≠ ownMall s) &&
    (let s : State := { base with station := .idle };
      let bytes : List Byte := [];
      decodeFrame bytes = none) &&
    (let s : State := base;
      let bytes : List Byte := encodeFrame 9 ⟨12, 7, 1, 6, .holdReq 1 500 true⟩;
      decide (s.station = .trading ∨ s.station = .halted) && s.link.phase ≠ .attempting && s.link.phase ≠ .abandoned &&
        frameCheckOk bytes = true && frameMall bytes = ownMall s &&
        (match decodeFrame bytes with
          | some f =>
              f.src ≠ ownStation s && decide (f.dst = 0 ∨ f.dst = ownStation s) && s.link.rx.length < 16
          | _ => false)) &&
    (let s : State := base;
      let bytes : List Byte := encodeFrame 9 ⟨12, 20, 1, 6, .holdReq 1 500 true⟩;
      decide (s.station = .trading ∨ s.station = .halted) && s.link.phase ≠ .attempting && s.link.phase ≠ .abandoned &&
        frameCheckOk bytes = true && frameMall bytes = ownMall s &&
        (match decodeFrame bytes with
          | some f =>
              f.src ≠ ownStation s && decide ((f.dst ≠ 0 ∧ f.dst ≠ ownStation s) ∨ 16 ≤ s.link.rx.length)
          | _ => false)) &&
    (let s : State := { base with station := .halted, fault := some .stationClash };
      let bytes : List Byte := encodeFrame 9 ⟨7, 12, 1, 6, .holdReq 1 500 true⟩;
      decide (s.station = .trading ∨ s.station = .halted) && s.link.phase ≠ .attempting && s.link.phase ≠ .abandoned &&
        frameCheckOk bytes = true && frameMall bytes = ownMall s &&
        (match decodeFrame bytes with
          | some f =>
              f.src = ownStation s && s.station = .halted
          | _ => false)) &&
    (let s : State := base;
      let bytes : List Byte := encodeFrame 9 ⟨7, 12, 1, 6, .holdReq 1 500 true⟩;
      decide (s.station = .trading ∨ s.station = .halted) && s.link.phase ≠ .attempting && s.link.phase ≠ .abandoned &&
        frameCheckOk bytes = true && frameMall bytes = ownMall s &&
        (match decodeFrame bytes with
          | some f =>
              f.src = ownStation s && s.station = .trading
          | _ => false)) &&
    (let s : State := heard (.holdReq 1 500 true) { base with station := .halted, fault := some .stationClash };
      s.station = .halted &&
        (match s.link.rx with
          | f :: rest =>
              isPresence f.payload = false
          | _ => false))) = true := by decide +kernel

theorem meets_SendingFollowsTheQueue :
    (
    (let s : State := { base with link := { base.link with tx := [⟨0, 1, 0, .presence false 1 0 false, 0⟩] } };
      s.station = .trading &&
        (match s.link.tx with
          | tf :: txs =>
              s.link.phase = .quiet
          | _ => false)) &&
    (let s : State := { base with link := { base.link with tx := [⟨12, 1, 6, .creditAns .applied none, 14⟩], phase := .attempting } };
      s.station = .trading &&
        (match s.link.tx with
          | tf :: txs =>
              s.link.phase = .attempting && isRequest tf.payload = false
          | _ => false)) &&
    (let s : State := { entryIs .hold base with link := { base.link with tx := [⟨12, 1, 6, .holdReq 4 500 false, 15⟩], phase := .attempting } };
      s.station = .trading &&
        (match s.link.tx with
          | tf :: txs =>
              s.link.phase = .attempting && isRequest tf.payload = true &&
                (match findTrack s tf.dst tf.reqNo with
                  | some (tp, tr) =>
                      tr.orphan = none
                  | _ => false)
          | _ => false)) &&
    (let s : State := { base with link := { base.link with tx := [⟨12, 1, 6, .creditAns .applied none, 14⟩], phase := .attempting } };
      s.station = .trading &&
        (match s.link.tx with
          | tf :: txs =>
              s.link.phase = .attempting && tf.attempts < 15
          | _ => false)) &&
    (let s : State := { entryIs .hold base with link := { base.link with tx := [⟨12, 1, 6, .holdReq 4 500 false, 15⟩], phase := .attempting } };
      s.station = .trading &&
        (match s.link.tx with
          | tf :: txs =>
              s.link.phase = .attempting && 15 ≤ tf.attempts
          | _ => false)) &&
    (let s : State := { base with link := { base.link with phase := .backoff 63 } };
      s.station = .trading &&
        (match s.link.phase with
          | .backoff k =>
              true
          | _ => false)) &&
    (let s : State := { base with link := { base.link with phase := .abandoned } };
      s.link.phase = .abandoned)) = true := by decide +kernel

theorem meets_PresenceAndOwedFrames :
    (
    (let s : State := txFull base;
      s.station = .trading && decide (s.link.tx.any (fun x => isPresence x.payload) = true ∨ 16 ≤ s.link.tx.length)) &&
    (let s : State := base;
      s.station = .trading && s.link.tx.any (fun x => isPresence x.payload) = false && s.link.tx.length < 16) &&
    (let s : State := { base with link := { base.link with owed := [.answer 12 6 (.creditAns .applied none)] } };
      s.station = .trading &&
        (match s.link.owed with
          | .answer odst oreq opay :: cfs =>
              s.link.tx.length < 16
          | _ => false)) &&
    (let s : State := txFull { base with link := { base.link with owed := [.answer 12 6 (.creditAns .applied none)] } };
      s.station = .trading &&
        (match s.link.owed with
          | .answer odst oreq opay :: cfs =>
              16 ≤ s.link.tx.length
          | _ => false)) &&
    (let s : State := { entryIs .capture base with link := { base.link with owed := [.request 12 6 1 (.settleReq .capture 9 4 500)] } };
      s.station = .trading &&
        (match s.link.owed with
          | .request odst oreq ost opay :: cfs =>
              (match findTrack s odst oreq with
                | some (tp, tr) =>
                    tr.orphan = none && s.link.tx.length < 16
                | _ => false)
          | _ => false))) = true := by decide +kernel

theorem meets_SilenceMakesAStationAbsent :
    (
    (let s : State := { base with link := { base.link with roster := [(12, ⟨.present, 1, 0, 14999⟩)] } };
      let j : Nat := 12;
      decide (s.station = .trading ∨ s.station = .halted) && 1 ≤ j && j ≤ 63 && j ≠ ownStation s &&
        (rosterEntry s j).state ≠ .absent && 15000 ≤ (rosterEntry s j).silence + 1) &&
    (let s : State := base;
      let j : Nat := 12;
      decide (s.station = .trading ∨ s.station = .halted) && 1 ≤ j && j ≤ 63 &&
        decide (j = ownStation s ∨ (rosterEntry s j).state = .absent ∨ (rosterEntry s j).silence + 1 < 15000)) &&
    (let s : State := base;
      let j : Nat := 7;
      let u : State := closing [(12, ⟨.awaiting, true⟩)] { base with positions := { base.positions with rowsA := [(12, Row.zero 1)] } };
      decide (s.station = .trading ∨ s.station = .halted) && 1 ≤ j && j ≤ 63 && u.station = .trading &&
        (match u.positions.view with
          | some v =>
              decide (v.completed = true ∨ (closeRow v j).state ≠ .awaiting ∨ (closingRow u j).fig ≠ .zero)
          | _ => false)) &&
    (let s : State := base;
      let j : Nat := 12;
      let u : State := closing [(12, ⟨.awaiting, true⟩)] { base with positions := { base.positions with rowsA := [(12, Row.zero 1)] } };
      decide (s.station = .trading ∨ s.station = .halted) && 1 ≤ j && j ≤ 63 && u.station = .trading &&
        (match u.positions.view with
          | some v =>
              v.completed = false && (closeRow v j).state = .awaiting && (closingRow u j).fig = .zero
          | _ => false)) &&
    (let s : State := base;
      let j : Nat := 12;
      let u : State := base;
      decide (s.station = .trading ∨ s.station = .halted) && 1 ≤ j && j ≤ 63 &&
        decide (u.positions.view = none ∨ u.station = .halted))) = true := by decide +kernel

theorem meets_PresenceUpdatesTheRoster :
    (
    (let s : State := { heard (.presence true 1 0 false) base with station := .halted, fault := some .stationClash };
      (match s.link.rx with
        | f :: rest =>
            (match f.payload with
              | .presence halted period target closing =>
                  f.src ≠ 0 &&
                    (let noted : State := { s with link := { s.link with rx := rest, roster := tabPutD RosterEntry.blank s.link.roster f.src { rosterEntry s f.src with state := if halted then .halted else .present, lastPeriod := period, target := target } }, notices := if (rosterEntry s f.src).state = (if halted then Presence.halted else Presence.present) then s.notices else postNotice ⟨if halted then .stationHalted else .stationPresent, .number f.src, 0⟩ s.notices };
                     s.station = .halted)
              | _ => false)
        | _ => false)) &&
    (let s : State := heard (.presence true 1 0 false) base;
      (match s.link.rx with
        | f :: rest =>
            (match f.payload with
              | .presence halted period target closing =>
                  f.src ≠ 0 &&
                    (let noted : State := { s with link := { s.link with rx := rest, roster := tabPutD RosterEntry.blank s.link.roster f.src { rosterEntry s f.src with state := if halted then .halted else .present, lastPeriod := period, target := target } }, notices := if (rosterEntry s f.src).state = (if halted then Presence.halted else Presence.present) then s.notices else postNotice ⟨if halted then .stationHalted else .stationPresent, .number f.src, 0⟩ s.notices };
                     s.station = .trading && halted = true)
              | _ => false)
        | _ => false)) &&
    (let s : State := { heard (.presence true 1 0 false) base with station := .halted, fault := some .stationClash };
      (match s.link.rx with
        | f :: rest =>
            (match f.payload with
              | .presence halted period target closing =>
                  f.src ≠ 0 &&
                    (let noted : State := { s with link := { s.link with rx := rest, roster := tabPutD RosterEntry.blank s.link.roster f.src { rosterEntry s f.src with state := if halted then .halted else .present, lastPeriod := period, target := target } }, notices := if (rosterEntry s f.src).state = (if halted then Presence.halted else Presence.present) then s.notices else postNotice ⟨if halted then .stationHalted else .stationPresent, .number f.src, 0⟩ s.notices };
                     decide (s.station = .trading ∨ s.station = .halted))
              | _ => false)
        | _ => false)) &&
    (let s : State := heard (.presence false 1 0 false) base;
      (match s.link.rx with
        | f :: rest =>
            (match f.payload with
              | .presence halted period target closing =>
                  f.src ≠ 0 &&
                    (let noted : State := { s with link := { s.link with rx := rest, roster := tabPutD RosterEntry.blank s.link.roster f.src { rosterEntry s f.src with state := if halted then .halted else .present, lastPeriod := period, target := target } }, notices := if (rosterEntry s f.src).state = (if halted then Presence.halted else Presence.present) then s.notices else postNotice ⟨if halted then .stationHalted else .stationPresent, .number f.src, 0⟩ s.notices };
                     s.station = .trading && halted = false && target ≤ s.positions.target &&
                       period - 1 ≤ s.positions.target && tabWf s.tracker.entries = true &&
                       ((resendsDue s f.src).map fun p => p.2.data.reqNo).Nodup)
              | _ => false)
        | _ => false)) &&
    (let s : State := heard (.presence false 1 0 false) base;
      let j : Nat := 12;
      s.station = .trading && 1 ≤ openPeriod s && sendWaiting s j (closingPeriod s) = false && sendFrames j s = []) &&
    (let s : State := writing (.row .a 12 (Row.zero 1)) .mirrorStore (closing [] base);
      let j : Nat := 12;
      s.station = .trading && 1 ≤ openPeriod s && sendWaiting s j (closingPeriod s) = false && sendFrames j s ≠ []) &&
    (let s : State := { writing (.row .a 12 (Row.zero 1)) .mirrorStore (closing [] base) with control := { (writing (.row .a 12 (Row.zero 1)) .mirrorStore (closing [] base)).control with waits := [⟨[1], .positionSend 12 1⟩] } };
      let j : Nat := 12;
      let lw : List Wait := [];
      let fs : List Nat := [1];
      let rw : List Wait := [];
      s.station = .trading && 1 ≤ openPeriod s &&
        s.control.waits = lw ++ ⟨fs, .positionSend j (closingPeriod s)⟩ :: rw &&
        ((lw ++ rw).all fun w => w.item ≠ .positionSend j (closingPeriod s)) = true)) = true := by decide +kernel

theorem meets_HoldRequestIsDecided :
    (
    (let s : State := heard (.holdReq 1 5000 true) base;
      let amt : Nat := 5000;
      s.station = .trading &&
        (match s.ident with
          | some i =>
              (match s.link.rx with
                | f :: rest =>
                    (match f.payload with
                      | .holdReq serial amount part =>
                          extendStamp (openPeriod s) f.stamp = openPeriod s && 1 ≤ amount &&
                            findHoldRepeat s f.src f.reqNo serial = none &&
                            (match findCard s serial with
                              | some (place, c) =>
                                  cardFrozen s c = false && grantCount s < 1024 && openHolds s < 256 &&
                                    c.openHolds < 4 && 512 < freeCount s.journal && frameFree s = true &&
                                    captureFigure s f.src + openHeld s f.src + amount ≤ 999999999999 &&
                                    decide ((amount ≤ c.available ∧ amt = amount) ∨ (c.available < amount ∧ part = true ∧ 1 ≤ c.available ∧ amt = c.available))
                              | _ => false)
                      | _ => false)
                | _ => false)
          | _ => false)) &&
    (let s : State := heard (.holdReq 1 0 true) base;
      s.station = .trading &&
        (match s.link.rx with
          | f :: rest =>
              (match f.payload with
                | .holdReq serial amount part =>
                    raisesNothing f s = true && amount = 0
                | _ => false)
          | _ => false)) &&
    (let s : State := heardStamp 0 (.holdReq 1 500 true) base;
      s.station = .trading &&
        (match s.link.rx with
          | f :: rest =>
              (match f.payload with
                | .holdReq serial amount part =>
                    raisesNothing f s = true && 1 ≤ amount &&
                      decide (extendStamp (openPeriod s) f.stamp < openPeriod s ∨ (openPeriod s < extendStamp (openPeriod s) f.stamp ∧ noCloseCanBegin s))
                | _ => false)
          | _ => false)) &&
    (let s : State := heard (.holdReq 1 500 true) (holdIs 12 .isOpen base);
      s.station = .trading &&
        (match s.link.rx with
          | f :: rest =>
              (match f.payload with
                | .holdReq serial amount part =>
                    raisesNothing f s = true && 1 ≤ amount && extendStamp (openPeriod s) f.stamp = openPeriod s &&
                      (match findHoldRepeat s f.src f.reqNo serial with
                        | some (gp, gr) =>
                            unstored (grantFrameOf gp) s = []
                        | _ => false)
                | _ => false)
          | _ => false)) &&
    (let s : State := heard (.holdReq 1 500 true) (writing (.grant 0 ⟨12, some 6, 1, 1, .hold 9 500 .isOpen⟩) .holdGrant (holdIs 12 .isOpen base));
      s.station = .trading &&
        (match s.link.rx with
          | f :: rest =>
              (match f.payload with
                | .holdReq serial amount part =>
                    raisesNothing f s = true && 1 ≤ amount && extendStamp (openPeriod s) f.stamp = openPeriod s &&
                      (match findHoldRepeat s f.src f.reqNo serial with
                        | some (gp, gr) =>
                            unstored (grantFrameOf gp) s ≠ []
                        | _ => false)
                | _ => false)
          | _ => false)) &&
    (let s : State := heard (.holdReq 8 500 true) base;
      s.station = .trading &&
        (match s.link.rx with
          | f :: rest =>
              (match f.payload with
                | .holdReq serial amount part =>
                    raisesNothing f s = true && 1 ≤ amount && extendStamp (openPeriod s) f.stamp = openPeriod s &&
                      findHoldRepeat s f.src f.reqNo serial = none && findCard s serial = none
                | _ => false)
          | _ => false)) &&
    (let s : State := heard (.holdReq 2 500 true) base;
      s.station = .trading &&
        (match s.link.rx with
          | f :: rest =>
              (match f.payload with
                | .holdReq serial amount part =>
                    raisesNothing f s = true && 1 ≤ amount && extendStamp (openPeriod s) f.stamp = openPeriod s &&
                      findHoldRepeat s f.src f.reqNo serial = none &&
                      (match findCard s serial with
                        | some (place, c) =>
                            cardFrozen s c = true
                        | _ => false)
                | _ => false)
          | _ => false)) &&
    (let s : State := heard (.holdReq 1 500 true) (full base);
      s.station = .trading &&
        (match s.link.rx with
          | f :: rest =>
              (match f.payload with
                | .holdReq serial amount part =>
                    raisesNothing f s = true && 1 ≤ amount && extendStamp (openPeriod s) f.stamp = openPeriod s &&
                      findHoldRepeat s f.src f.reqNo serial = none &&
                      (match findCard s serial with
                        | some (place, c) =>
                            cardFrozen s c = false &&
                              decide (1024 ≤ grantCount s ∨ 256 ≤ openHolds s ∨ 4 ≤ c.openHolds ∨ freeCount s.journal ≤ 512 ∨ 16 ≤ s.control.frames.length)
                        | _ => false)
                | _ => false)
          | _ => false)) &&
    (let s : State := heard (.holdReq 1 500 true) (atLimit 12 base);
      s.station = .trading &&
        (match s.link.rx with
          | f :: rest =>
              (match f.payload with
                | .holdReq serial amount part =>
                    raisesNothing f s = true && 1 ≤ amount && extendStamp (openPeriod s) f.stamp = openPeriod s &&
                      findHoldRepeat s f.src f.reqNo serial = none &&
                      (match findCard s serial with
                        | some (place, c) =>
                            cardFrozen s c = false && grantCount s < 1024 && openHolds s < 256 && c.openHolds < 4 &&
                              512 < freeCount s.journal && frameFree s = true &&
                              999999999999 < captureFigure s f.src + openHeld s f.src + amount
                        | _ => false)
                | _ => false)
          | _ => false)) &&
    (let s : State := heard (.holdReq 1 5001 false) base;
      s.station = .trading &&
        (match s.link.rx with
          | f :: rest =>
              (match f.payload with
                | .holdReq serial amount part =>
                    raisesNothing f s = true && 1 ≤ amount && extendStamp (openPeriod s) f.stamp = openPeriod s &&
                      findHoldRepeat s f.src f.reqNo serial = none &&
                      (match findCard s serial with
                        | some (place, c) =>
                            cardFrozen s c = false && grantCount s < 1024 && openHolds s < 256 && c.openHolds < 4 &&
                              512 < freeCount s.journal && frameFree s = true &&
                              captureFigure s f.src + openHeld s f.src + amount ≤ 999999999999 && c.available < amount &&
                              decide (part = false ∨ c.available = 0)
                        | _ => false)
                | _ => false)
          | _ => false))) = true := by decide +kernel

theorem meets_SettleRequestIsServed :
    (
    (let s : State := heard (.settleReq .capture 9 1 500) (holdIs 12 .isOpen base);
      let serial : Nat := 1;
      let tag : Nat := 9;
      s.station = .trading &&
        (match s.link.rx with
          | f :: rest =>
              raisesNothing f s = true &&
                (match findSettled s f.src tag serial (extendStamp (openPeriod s) f.stamp) with
                  | some (gp, gr) =>
                      (match gr.body with
                        | .hold tag1 a .isOpen =>
                            tag1 = tag &&
                              (match findCard s gr.serial with
                                | some (place, c) =>
                                    (match f.payload with
                                      | .settleReq .capture tag1 serial1 amount =>
                                          tag1 = tag && serial1 = serial &&
                                            1 ≤ amount && frameFree s = true &&
                                              (match generationOf s gr.period with
                                                | some side =>
                                                    f.src ≠ ownStation s
                                                | _ => false)
                                      | _ => false)
                                | _ => false)
                        | _ => false)
                  | _ => false)
          | _ => false)) &&
    (let s : State := heard (.settleReq .release 9 1 0) (holdIs 12 .isOpen base);
      let serial : Nat := 1;
      let tag : Nat := 9;
      s.station = .trading &&
        (match s.link.rx with
          | f :: rest =>
              raisesNothing f s = true &&
                (match findSettled s f.src tag serial (extendStamp (openPeriod s) f.stamp) with
                  | some (gp, gr) =>
                      (match gr.body with
                        | .hold tag1 a .isOpen =>
                            tag1 = tag &&
                              (match findCard s gr.serial with
                                | some (place, c) =>
                                    (match f.payload with
                                      | .settleReq .release tag1 serial1 amount =>
                                          tag1 = tag && serial1 = serial &&
                                            frameFree s = true
                                      | _ => false)
                                | _ => false)
                        | _ => false)
                  | _ => false)
          | _ => false)) &&
    (let s : State := heard (.settleReq .capture 9 1 500) (full (holdIs 12 .isOpen base));
      let serial : Nat := 1;
      let tag : Nat := 9;
      let amount : Nat := 500;
      s.station = .trading &&
        (match s.link.rx with
          | f :: rest =>
              raisesNothing f s = true &&
                (match findSettled s f.src tag serial (extendStamp (openPeriod s) f.stamp) with
                  | some (gp, gr) =>
                      (match gr.body with
                        | .hold tag1 a .isOpen =>
                            tag1 = tag &&
                              (match findCard s gr.serial with
                                | some (place, c) =>
                                    decide (f.payload = .settleReq .capture tag serial amount ∨ f.payload = .settleReq .release tag serial amount) &&
                                      frameFree s = false
                                | _ => false)
                        | _ => false)
                  | _ => false)
          | _ => false)) &&
    (let s : State := heard (.settleReq .capture 9 1 0) base;
      s.station = .trading &&
        (match s.link.rx with
          | f :: rest =>
              raisesNothing f s = true &&
                (match f.payload with
                  | .settleReq .capture tag serial 0 =>
                      true
                  | _ => false)
          | _ => false)) &&
    (let s : State := heard (.settleReq .capture 9 1 500) base;
      let serial : Nat := 1;
      let tag : Nat := 9;
      s.station = .trading &&
        (match s.link.rx with
          | f :: rest =>
              raisesNothing f s = true && findSettled s f.src tag serial (extendStamp (openPeriod s) f.stamp) = none &&
                (match f.payload with
                  | .settleReq .capture tag1 serial1 amount =>
                      tag1 = tag && serial1 = serial &&
                        1 ≤ amount
                  | _ => false)
          | _ => false)) &&
    (let s : State := heard (.settleReq .release 9 1 0) base;
      let serial : Nat := 1;
      let tag : Nat := 9;
      s.station = .trading &&
        (match s.link.rx with
          | f :: rest =>
              raisesNothing f s = true && findSettled s f.src tag serial (extendStamp (openPeriod s) f.stamp) = none &&
                (match f.payload with
                  | .settleReq .release tag1 serial1 amount =>
                      tag1 = tag && serial1 = serial &&
                        true
                  | _ => false)
          | _ => false)) &&
    (let s : State := heard (.settleReq .release 9 1 0) (holdIs 12 .expired base);
      let serial : Nat := 1;
      let tag : Nat := 9;
      s.station = .trading &&
        (match s.link.rx with
          | f :: rest =>
              raisesNothing f s = true &&
                (match findSettled s f.src tag serial (extendStamp (openPeriod s) f.stamp) with
                  | some (gp, gr) =>
                      grantOpen gr = false && unstored (writesGrant gp) s = [] &&
                        (match f.payload with
                          | .settleReq .release tag1 serial1 amount =>
                              tag1 = tag && serial1 = serial &&
                                true
                          | _ => false)
                  | _ => false)
          | _ => false)) &&
    (let s : State := heard (.settleReq .capture 9 1 500) (holdIs 12 (.captured 500) base);
      let serial : Nat := 1;
      let tag : Nat := 9;
      s.station = .trading &&
        (match s.link.rx with
          | f :: rest =>
              raisesNothing f s = true &&
                (match findSettled s f.src tag serial (extendStamp (openPeriod s) f.stamp) with
                  | some (gp, gr) =>
                      grantOpen gr = false && unstored (writesGrant gp) s = [] &&
                        (match f.payload with
                          | .settleReq .capture tag1 serial1 amount =>
                              tag1 = tag && serial1 = serial &&
                                1 ≤ amount &&
                                  (match gr.body with
                                    | .hold tag1 a (.captured x) =>
                                        tag1 = tag &&
                                          true
                                    | _ => false)
                          | _ => false)
                  | _ => false)
          | _ => false)) &&
    (let s : State := heard (.settleReq .capture 9 1 500) (holdIs 12 .released base);
      let serial : Nat := 1;
      let tag : Nat := 9;
      let a : Nat := 500;
      s.station = .trading &&
        (match s.link.rx with
          | f :: rest =>
              raisesNothing f s = true &&
                (match findSettled s f.src tag serial (extendStamp (openPeriod s) f.stamp) with
                  | some (gp, gr) =>
                      grantOpen gr = false && unstored (writesGrant gp) s = [] &&
                        (match f.payload with
                          | .settleReq .capture tag1 serial1 amount =>
                              tag1 = tag && serial1 = serial &&
                                1 ≤ amount && decide (gr.body = .hold tag a .released ∨ gr.body = .hold tag a .expired)
                          | _ => false)
                  | _ => false)
          | _ => false)) &&
    (let s : State := heard (.settleReq .release 9 1 0) (writing (.grant 0 ⟨12, some 6, 1, 1, .hold 9 500 .expired⟩) .holdExpire (holdIs 12 .expired base));
      let serial : Nat := 1;
      let tag : Nat := 9;
      s.station = .trading &&
        (match s.link.rx with
          | f :: rest =>
              raisesNothing f s = true &&
                (match findSettled s f.src tag serial (extendStamp (openPeriod s) f.stamp) with
                  | some (gp, gr) =>
                      grantOpen gr = false && unstored (writesGrant gp) s ≠ [] &&
                        (match f.payload with
                          | .settleReq .release tag1 serial1 amount =>
                              tag1 = tag && serial1 = serial &&
                                true
                          | _ => false)
                  | _ => false)
          | _ => false)) &&
    (let s : State := heard (.settleReq .capture 9 1 500) (writing (.grant 0 ⟨12, some 6, 1, 1, .hold 9 500 .isOpen⟩) .holdSettle (holdIs 12 (.captured 500) base));
      let serial : Nat := 1;
      let tag : Nat := 9;
      s.station = .trading &&
        (match s.link.rx with
          | f :: rest =>
              raisesNothing f s = true &&
                (match findSettled s f.src tag serial (extendStamp (openPeriod s) f.stamp) with
                  | some (gp, gr) =>
                      grantOpen gr = false && unstored (writesGrant gp) s ≠ [] &&
                        (match f.payload with
                          | .settleReq .capture tag1 serial1 amount =>
                              tag1 = tag && serial1 = serial &&
                                1 ≤ amount &&
                                  (match gr.body with
                                    | .hold tag1 a (.captured x) =>
                                        tag1 = tag &&
                                          true
                                    | _ => false)
                          | _ => false)
                  | _ => false)
          | _ => false)) &&
    (let s : State := heard (.settleReq .capture 9 1 500) (writing (.grant 0 ⟨12, some 6, 1, 1, .hold 9 500 .isOpen⟩) .holdSettle (holdIs 12 .released base));
      let serial : Nat := 1;
      let tag : Nat := 9;
      let a : Nat := 500;
      s.station = .trading &&
        (match s.link.rx with
          | f :: rest =>
              raisesNothing f s = true &&
                (match findSettled s f.src tag serial (extendStamp (openPeriod s) f.stamp) with
                  | some (gp, gr) =>
                      grantOpen gr = false && unstored (writesGrant gp) s ≠ [] &&
                        (match f.payload with
                          | .settleReq .capture tag1 serial1 amount =>
                              tag1 = tag && serial1 = serial &&
                                1 ≤ amount && decide (gr.body = .hold tag a .released ∨ gr.body = .hold tag a .expired)
                          | _ => false)
                  | _ => false)
          | _ => false))) = true := by decide +kernel

theorem meets_CreditRequestIsDecided :
    (
    (let s : State := heard (.creditReq .topup 1 45000) base;
      s.station = .trading &&
        (match s.link.rx with
          | f :: rest =>
              (match f.payload with
                | .creditReq kind serial amount =>
                    extendStamp (openPeriod s) f.stamp = openPeriod s && 1 ≤ amount && f.src ≠ ownStation s &&
                      findCreditRepeat s f.src f.reqNo serial kind amount = none &&
                      (match findCard s serial with
                        | some (place, c) =>
                            decide (kind = .topup → cardFrozen s c = false) &&
                              c.available + c.held + amount ≤ ceiling s && grantCount s < 1024 &&
                              512 < freeCount s.journal && frameFree s = true &&
                              creditFigure s f.src kind + amount ≤ 999999999999
                        | _ => false)
                | _ => false)
          | _ => false)) &&
    (let s : State := heard (.creditReq .topup 1 0) base;
      s.station = .trading &&
        (match s.link.rx with
          | f :: rest =>
              (match f.payload with
                | .creditReq kind serial amount =>
                    raisesNothing f s = true && amount = 0
                | _ => false)
          | _ => false)) &&
    (let s : State := heardStamp 0 (.creditReq .topup 1 500) base;
      s.station = .trading &&
        (match s.link.rx with
          | f :: rest =>
              (match f.payload with
                | .creditReq kind serial amount =>
                    raisesNothing f s = true && 1 ≤ amount &&
                      decide (extendStamp (openPeriod s) f.stamp < openPeriod s ∨ (openPeriod s < extendStamp (openPeriod s) f.stamp ∧ noCloseCanBegin s))
                | _ => false)
          | _ => false)) &&
    (let s : State := heard (.creditReq .topup 1 500) { base with requests := ⟨[(0, ⟨12, some 6, 1, 1, .credit .topup 500⟩)], [], [], []⟩ };
      s.station = .trading &&
        (match s.link.rx with
          | f :: rest =>
              (match f.payload with
                | .creditReq kind serial amount =>
                    raisesNothing f s = true && 1 ≤ amount && extendStamp (openPeriod s) f.stamp = openPeriod s &&
                      (match findCreditRepeat s f.src f.reqNo serial kind amount with
                        | some (gp, gr) =>
                            unstored (creditFrameOf gp) s = []
                        | _ => false)
                | _ => false)
          | _ => false)) &&
    (let s : State := heard (.creditReq .topup 1 500) (writing (.grant 0 ⟨12, some 6, 1, 1, .credit .topup 500⟩) .creditApply { base with requests := ⟨[(0, ⟨12, some 6, 1, 1, .credit .topup 500⟩)], [], [], []⟩ });
      s.station = .trading &&
        (match s.link.rx with
          | f :: rest =>
              (match f.payload with
                | .creditReq kind serial amount =>
                    raisesNothing f s = true && 1 ≤ amount && extendStamp (openPeriod s) f.stamp = openPeriod s &&
                      (match findCreditRepeat s f.src f.reqNo serial kind amount with
                        | some (gp, gr) =>
                            unstored (creditFrameOf gp) s ≠ []
                        | _ => false)
                | _ => false)
          | _ => false)) &&
    (let s : State := heard (.creditReq .topup 8 500) base;
      s.station = .trading &&
        (match s.link.rx with
          | f :: rest =>
              (match f.payload with
                | .creditReq kind serial amount =>
                    raisesNothing f s = true && 1 ≤ amount && extendStamp (openPeriod s) f.stamp = openPeriod s &&
                      findCreditRepeat s f.src f.reqNo serial kind amount = none && findCard s serial = none
                | _ => false)
          | _ => false)) &&
    (let s : State := heard (.creditReq .topup 2 500) base;
      s.station = .trading &&
        (match s.link.rx with
          | f :: rest =>
              (match f.payload with
                | .creditReq kind serial amount =>
                    raisesNothing f s = true && 1 ≤ amount && extendStamp (openPeriod s) f.stamp = openPeriod s &&
                      findCreditRepeat s f.src f.reqNo serial kind amount = none &&
                      (match findCard s serial with
                        | some (place, c) =>
                            kind = .topup && cardFrozen s c = true
                        | _ => false)
                | _ => false)
          | _ => false)) &&
    (let s : State := heard (.creditReq .refund 1 45001) base;
      s.station = .trading &&
        (match s.link.rx with
          | f :: rest =>
              (match f.payload with
                | .creditReq kind serial amount =>
                    raisesNothing f s = true && 1 ≤ amount && extendStamp (openPeriod s) f.stamp = openPeriod s &&
                      findCreditRepeat s f.src f.reqNo serial kind amount = none &&
                      (match findCard s serial with
                        | some (place, c) =>
                            decide (kind = .refund ∨ cardFrozen s c = false) &&
                              ceiling s < c.available + c.held + amount
                        | _ => false)
                | _ => false)
          | _ => false)) &&
    (let s : State := heard (.creditReq .topup 1 500) (full base);
      s.station = .trading &&
        (match s.link.rx with
          | f :: rest =>
              (match f.payload with
                | .creditReq kind serial amount =>
                    raisesNothing f s = true && 1 ≤ amount && extendStamp (openPeriod s) f.stamp = openPeriod s &&
                      findCreditRepeat s f.src f.reqNo serial kind amount = none &&
                      (match findCard s serial with
                        | some (place, c) =>
                            decide (kind = .refund ∨ cardFrozen s c = false) &&
                              c.available + c.held + amount ≤ ceiling s &&
                              decide (1024 ≤ grantCount s ∨ freeCount s.journal ≤ 512 ∨ 16 ≤ s.control.frames.length)
                        | _ => false)
                | _ => false)
          | _ => false)) &&
    (let s : State := heard (.creditReq .topup 1 500) (atLimit 12 base);
      s.station = .trading &&
        (match s.link.rx with
          | f :: rest =>
              (match f.payload with
                | .creditReq kind serial amount =>
                    raisesNothing f s = true && 1 ≤ amount && extendStamp (openPeriod s) f.stamp = openPeriod s &&
                      findCreditRepeat s f.src f.reqNo serial kind amount = none &&
                      (match findCard s serial with
                        | some (place, c) =>
                            decide (kind = .refund ∨ cardFrozen s c = false) &&
                              c.available + c.held + amount ≤ ceiling s && grantCount s < 1024 &&
                              512 < freeCount s.journal && frameFree s = true &&
                              999999999999 < creditFigure s f.src kind + amount
                        | _ => false)
                | _ => false)
          | _ => false))) = true := by decide +kernel

theorem meets_StatusRequestReportsOrFreezes :
    (
    (let s : State := heard (.statusReq .enquire 1) base;
      let serial : Nat := 1;
      s.station = .trading &&
        (match s.link.rx with
          | f :: rest =>
              raisesNothing f s = true &&
                decide (f.payload = .statusReq .enquire serial ∨ (f.payload = .statusReq .freeze serial ∧ (findCard s serial).all (fun p => p.2.state = .frozen) = true)) &&
                cardFrames s serial = []
          | _ => false)) &&
    (let s : State := heard (.statusReq .enquire 1) (writing (.card 0 ⟨1, .active, 5000, 0, 0, true, 1⟩) .issue base);
      let serial : Nat := 1;
      s.station = .trading &&
        (match s.link.rx with
          | f :: rest =>
              raisesNothing f s = true &&
                decide (f.payload = .statusReq .enquire serial ∨ (f.payload = .statusReq .freeze serial ∧ (findCard s serial).all (fun p => p.2.state = .frozen) = true)) &&
                cardFrames s serial ≠ []
          | _ => false)) &&
    (let s : State := heard (.statusReq .freeze 1) (full base);
      s.station = .trading &&
        (match s.link.rx with
          | f :: rest =>
              raisesNothing f s = true &&
                (match f.payload with
                  | .statusReq .freeze serial =>
                      (match findCard s serial with
                        | some (place, c) =>
                            c.state = .active && decide (freeCount s.journal ≤ 512 ∨ 16 ≤ s.control.frames.length)
                        | _ => false)
                  | _ => false)
          | _ => false)) &&
    (let s : State := heard (.statusReq .freeze 1) base;
      s.station = .trading &&
        (match s.link.rx with
          | f :: rest =>
              raisesNothing f s = true &&
                (match f.payload with
                  | .statusReq .freeze serial =>
                      (match findCard s serial with
                        | some (place, c) =>
                            c.state = .active && 512 < freeCount s.journal && frameFree s = true
                        | _ => false)
                  | _ => false)
          | _ => false))) = true := by decide +kernel

theorem meets_HoldAnswerEndsTheRequest :
    (
    (let s : State := heard (.holdAns .granted 500 9 none) base;
      s.station = .trading &&
        (match s.link.rx with
          | f :: rest =>
              (match f.payload with
                | .holdAns how g tag r =>
                    raisesNothing f s = true && findTrack s f.src f.reqNo = none
                | _ => false)
          | _ => false)) &&
    (let s : State := heard (.holdAns .granted 500 9 none) (entryIs .release base);
      s.station = .trading &&
        (match s.link.rx with
          | f :: rest =>
              (match f.payload with
                | .holdAns how g tag r =>
                    raisesNothing f s = true &&
                      (match findTrack s f.src f.reqNo with
                        | some (tp, tr) =>
                            decide (tr.data.kind ≠ .hold ∨ extendStamp (openPeriod s) f.stamp < tr.data.period ∨ tr.orphan.isSome = true)
                        | _ => false)
                | _ => false)
          | _ => false)) &&
    (let s : State := slotIs { heldOf (cardId 12 4) with state := .authorising } (heard (.holdAns .granted 500 9 none) (entryIs .hold base));
      s.station = .trading &&
        (match s.link.rx with
          | f :: rest =>
              (match f.payload with
                | .holdAns how g tag r =>
                    raisesNothing f s = true &&
                      (match findTrack s f.src f.reqNo with
                        | some (tp, tr) =>
                            tr.data.kind = .hold && (tr.data.period : Int) ≤ extendStamp (openPeriod s) f.stamp &&
                              tr.orphan = none && tr.abandoned = false &&
                              (match tr.slot with
                                | some slot =>
                                    (match getSlot s slot with
                                      | some sl =>
                                          how ≠ .declined
                                      | _ => false)
                                | _ => false)
                        | _ => false)
                | _ => false)
          | _ => false)) &&
    (let s : State := slotIs { heldOf (cardId 12 4) with state := .authorising } (heard (.holdAns .declined 0 0 (some .busy)) (entryIs .hold base));
      s.station = .trading &&
        (match s.link.rx with
          | f :: rest =>
              (match f.payload with
                | .holdAns how g tag r =>
                    raisesNothing f s = true &&
                      (match findTrack s f.src f.reqNo with
                        | some (tp, tr) =>
                            tr.data.kind = .hold && (tr.data.period : Int) ≤ extendStamp (openPeriod s) f.stamp &&
                              tr.orphan = none && tr.abandoned = false &&
                              (match tr.slot with
                                | some slot =>
                                    (match getSlot s slot with
                                      | some sl =>
                                          how = .declined && sl.state = .authorising
                                      | _ => false)
                                | _ => false)
                        | _ => false)
                | _ => false)
          | _ => false)) &&
    (let s : State := heard (.holdAns .declined 0 0 (some .busy)) (entryMap (fun t => { t with abandoned := true, slot := none }) (entryIs .hold base));
      s.station = .trading &&
        (match s.link.rx with
          | f :: rest =>
              (match f.payload with
                | .holdAns how g tag r =>
                    raisesNothing f s = true &&
                      (match findTrack s f.src f.reqNo with
                        | some (tp, tr) =>
                            tr.data.kind = .hold && (tr.data.period : Int) ≤ extendStamp (openPeriod s) f.stamp &&
                              tr.orphan = none && tr.abandoned = true && how = .declined
                        | _ => false)
                | _ => false)
          | _ => false)) &&
    (let s : State := heard (.holdAns .granted 500 9 none) (entryMap (fun t => { t with abandoned := true, slot := none }) (entryIs .hold base));
      s.station = .trading &&
        (match s.link.rx with
          | f :: rest =>
              (match f.payload with
                | .holdAns how g tag r =>
                    raisesNothing f s = true &&
                      (match findTrack s f.src f.reqNo with
                        | some (tp, tr) =>
                            tr.data.kind = .hold && (tr.data.period : Int) ≤ extendStamp (openPeriod s) f.stamp &&
                              tr.orphan = none && tr.abandoned = true && how ≠ .declined && (nextNumber s).2 = false &&
                              unstored (coversNumber (nextNumber s).1) s = [] && numberHeld s (nextNumber s).1 = false &&
                              lastClosed s < tr.data.period && tabWf s.tracker.entries = true
                        | _ => false)
                | _ => false)
          | _ => false))) = true := by decide +kernel

theorem meets_MoneyAnswersBook :
    (
    (let s : State := heard (.settleAns .done .capture 500) base;
      s.station = .trading &&
        (match s.link.rx with
          | f :: rest =>
              raisesNothing f s = true &&
                (match f.payload with
                  | .settleAns out .capture g =>
                      findTrack s f.src f.reqNo = none
                  | _ => false)
          | _ => false)) &&
    (let s : State := heard (.settleAns .done .capture 500) (entryIs .hold base);
      s.station = .trading &&
        (match s.link.rx with
          | f :: rest =>
              raisesNothing f s = true &&
                (match f.payload with
                  | .settleAns out .capture g =>
                      (match findTrack s f.src f.reqNo with
                        | some (tp, tr) =>
                            decide (tr.data.kind ≠ .capture ∨ extendStamp (openPeriod s) f.stamp < tr.data.period ∨ tr.orphan.isSome = true)
                        | _ => false)
                  | _ => false)
          | _ => false)) &&
    (let s : State := heard (.creditAns .applied none) base;
      s.station = .trading &&
        (match s.link.rx with
          | f :: rest =>
              raisesNothing f s = true &&
                (match f.payload with
                  | .creditAns ca r =>
                      findTrack s f.src f.reqNo = none
                  | _ => false)
          | _ => false)) &&
    (let s : State := heard (.creditAns .applied none) (entryIs .hold base);
      s.station = .trading &&
        (match s.link.rx with
          | f :: rest =>
              raisesNothing f s = true &&
                (match f.payload with
                  | .creditAns ca r =>
                      (match findTrack s f.src f.reqNo with
                        | some (tp, tr) =>
                            decide ((tr.data.kind ≠ .credit .topup ∧ tr.data.kind ≠ .credit .refund) ∨ extendStamp (openPeriod s) f.stamp < tr.data.period ∨ tr.orphan.isSome = true)
                        | _ => false)
                  | _ => false)
          | _ => false)) &&
    (let s : State := full <| heard (.settleAns .done .capture 500) (entryIs .capture base);
      s.station = .trading &&
        (match s.link.rx with
          | f :: rest =>
              raisesNothing f s = true &&
                (match findTrack s f.src f.reqNo with
                  | some (tp, tr) =>
                      (tr.data.period : Int) ≤ extendStamp (openPeriod s) f.stamp && tr.orphan = none &&
                        (match generationOf s tr.data.period with
                          | some side =>
                              tr.data.kind = .capture &&
                                (match f.payload with
                                  | .settleAns .done .capture g =>
                                      frameFree s = false
                                  | _ => false)
                          | _ => false)
                  | _ => false)
          | _ => false)) &&
    (let s : State := heard (.settleAns .done .capture 500) (entryIs .capture base);
      s.station = .trading &&
        (match s.link.rx with
          | f :: rest =>
              raisesNothing f s = true &&
                (match findTrack s f.src f.reqNo with
                  | some (tp, tr) =>
                      (tr.data.period : Int) ≤ extendStamp (openPeriod s) f.stamp && tr.orphan = none &&
                        (match generationOf s tr.data.period with
                          | some side =>
                              tr.data.kind = .capture &&
                                (match f.payload with
                                  | .settleAns .done .capture g =>
                                      frameFree s = true
                                  | _ => false)
                          | _ => false)
                  | _ => false)
          | _ => false)) &&
    (let s : State := full <| heard (.settleAns .tooLate .capture 0) (entryIs .capture base);
      s.station = .trading &&
        (match s.link.rx with
          | f :: rest =>
              raisesNothing f s = true &&
                (match findTrack s f.src f.reqNo with
                  | some (tp, tr) =>
                      (tr.data.period : Int) ≤ extendStamp (openPeriod s) f.stamp && tr.orphan = none &&
                        (match generationOf s tr.data.period with
                          | some side =>
                              tr.data.kind = .capture &&
                                (match f.payload with
                                  | .settleAns .tooLate .capture g =>
                                      frameFree s = false
                                  | _ => false)
                          | _ => false)
                  | _ => false)
          | _ => false)) &&
    (let s : State := heard (.settleAns .tooLate .capture 0) (entryIs .capture base);
      s.station = .trading &&
        (match s.link.rx with
          | f :: rest =>
              raisesNothing f s = true &&
                (match findTrack s f.src f.reqNo with
                  | some (tp, tr) =>
                      (tr.data.period : Int) ≤ extendStamp (openPeriod s) f.stamp && tr.orphan = none &&
                        (match generationOf s tr.data.period with
                          | some side =>
                              tr.data.kind = .capture &&
                                (match f.payload with
                                  | .settleAns .tooLate .capture g =>
                                      frameFree s = true
                                  | _ => false)
                          | _ => false)
                  | _ => false)
          | _ => false)) &&
    (let s : State := full <| heard (.creditAns .applied none) (entryIs (.credit .topup) base);
      s.station = .trading &&
        (match s.link.rx with
          | f :: rest =>
              raisesNothing f s = true &&
                (match findTrack s f.src f.reqNo with
                  | some (tp, tr) =>
                      (tr.data.period : Int) ≤ extendStamp (openPeriod s) f.stamp && tr.orphan = none &&
                        (match generationOf s tr.data.period with
                          | some side =>
                              (match tr.data.kind with
                                | .credit kind =>
                                    (match f.payload with
                                      | .creditAns .applied r =>
                                          frameFree s = false
                                      | _ => false)
                                | _ => false)
                          | _ => false)
                  | _ => false)
          | _ => false)) &&
    (let s : State := heard (.creditAns .applied none) (entryIs (.credit .topup) base);
      s.station = .trading &&
        (match s.link.rx with
          | f :: rest =>
              raisesNothing f s = true &&
                (match findTrack s f.src f.reqNo with
                  | some (tp, tr) =>
                      (tr.data.period : Int) ≤ extendStamp (openPeriod s) f.stamp && tr.orphan = none &&
                        (match generationOf s tr.data.period with
                          | some side =>
                              (match tr.data.kind with
                                | .credit kind =>
                                    (match f.payload with
                                      | .creditAns .applied r =>
                                          frameFree s = true
                                      | _ => false)
                                | _ => false)
                          | _ => false)
                  | _ => false)
          | _ => false)) &&
    (let s : State := full <| heard (.creditAns .declined (some .limit)) (entryIs (.credit .topup) base);
      s.station = .trading &&
        (match s.link.rx with
          | f :: rest =>
              raisesNothing f s = true &&
                (match findTrack s f.src f.reqNo with
                  | some (tp, tr) =>
                      (tr.data.period : Int) ≤ extendStamp (openPeriod s) f.stamp && tr.orphan = none &&
                        (match generationOf s tr.data.period with
                          | some side =>
                              (match tr.data.kind with
                                | .credit kind =>
                                    (match f.payload with
                                      | .creditAns .declined r =>
                                          frameFree s = false
                                      | _ => false)
                                | _ => false)
                          | _ => false)
                  | _ => false)
          | _ => false)) &&
    (let s : State := heard (.creditAns .declined (some .limit)) (entryIs (.credit .topup) base);
      s.station = .trading &&
        (match s.link.rx with
          | f :: rest =>
              raisesNothing f s = true &&
                (match findTrack s f.src f.reqNo with
                  | some (tp, tr) =>
                      (tr.data.period : Int) ≤ extendStamp (openPeriod s) f.stamp && tr.orphan = none &&
                        (match generationOf s tr.data.period with
                          | some side =>
                              (match tr.data.kind with
                                | .credit kind =>
                                    (match f.payload with
                                      | .creditAns .declined r =>
                                          frameFree s = true
                                      | _ => false)
                                | _ => false)
                          | _ => false)
                  | _ => false)
          | _ => false))) = true := by decide +kernel

theorem meets_ReleaseAndStatusAnswers :
    (
    (let s : State := heard (.settleAns .done .release 0) base;
      s.station = .trading &&
        (match s.link.rx with
          | f :: rest =>
              raisesNothing f s = true &&
                (match f.payload with
                  | .settleAns out .release g =>
                      findTrack s f.src f.reqNo = none
                  | _ => false)
          | _ => false)) &&
    (let s : State := heard (.settleAns .done .release 0) (entryIs .hold base);
      s.station = .trading &&
        (match s.link.rx with
          | f :: rest =>
              raisesNothing f s = true &&
                (match f.payload with
                  | .settleAns out .release g =>
                      (match findTrack s f.src f.reqNo with
                        | some (tp, tr) =>
                            decide (tr.data.kind ≠ .release ∨ extendStamp (openPeriod s) f.stamp < tr.data.period ∨ tr.orphan.isSome = true)
                        | _ => false)
                  | _ => false)
          | _ => false)) &&
    (let s : State := heard (.statusAns .busy 0 0) base;
      s.station = .trading &&
        (match s.link.rx with
          | f :: rest =>
              raisesNothing f s = true &&
                (match f.payload with
                  | .statusAns vw av hd =>
                      findTrack s f.src f.reqNo = none
                  | _ => false)
          | _ => false)) &&
    (let s : State := heard (.statusAns .busy 0 0) (entryIs .hold base);
      s.station = .trading &&
        (match s.link.rx with
          | f :: rest =>
              raisesNothing f s = true &&
                (match f.payload with
                  | .statusAns vw av hd =>
                      (match findTrack s f.src f.reqNo with
                        | some (tp, tr) =>
                            decide ((tr.data.kind ≠ .status .enquire ∧ tr.data.kind ≠ .status .freeze) ∨ extendStamp (openPeriod s) f.stamp < tr.data.period ∨ tr.orphan.isSome = true)
                        | _ => false)
                  | _ => false)
          | _ => false)) &&
    (let s : State := heard (.settleAns .done .release 0) (entryMap (fun t => { t with slot := none }) (entryIs .release base));
      s.station = .trading &&
        (match s.link.rx with
          | f :: rest =>
              raisesNothing f s = true &&
                (match findTrack s f.src f.reqNo with
                  | some (tp, tr) =>
                      (tr.data.period : Int) ≤ extendStamp (openPeriod s) f.stamp && tr.orphan = none &&
                        tr.data.kind = .release &&
                        (match f.payload with
                          | .settleAns out .release g =>
                              tr.slot = none
                          | _ => false)
                  | _ => false)
          | _ => false)) &&
    (let s : State := slotIs { heldOf (cardId 12 4) with state := .settling } (heard (.settleAns .done .release 0) (entryIs .release base));
      s.station = .trading &&
        (match s.link.rx with
          | f :: rest =>
              raisesNothing f s = true &&
                (match findTrack s f.src f.reqNo with
                  | some (tp, tr) =>
                      (tr.data.period : Int) ≤ extendStamp (openPeriod s) f.stamp && tr.orphan = none &&
                        tr.data.kind = .release &&
                        (match f.payload with
                          | .settleAns out .release g =>
                              (match tr.slot with
                                | some slot =>
                                    (match getSlot s slot with
                                      | some sl =>
                                          sl.state = .settling
                                      | _ => false)
                                | _ => false)
                          | _ => false)
                  | _ => false)
          | _ => false)) &&
    (let s : State := heard (.statusAns .busy 0 0) (entryMap (fun t => { t with slot := none }) (entryIs (.status .enquire) base));
      s.station = .trading &&
        (match s.link.rx with
          | f :: rest =>
              raisesNothing f s = true &&
                (match findTrack s f.src f.reqNo with
                  | some (tp, tr) =>
                      (tr.data.period : Int) ≤ extendStamp (openPeriod s) f.stamp && tr.orphan = none &&
                        (match tr.data.kind with
                          | .status act2 =>
                              (match f.payload with
                                | .statusAns vw av hd =>
                                    tr.slot = none
                                | _ => false)
                          | _ => false)
                  | _ => false)
          | _ => false)) &&
    (let s : State := slotIs { heldOf (cardId 12 4) with state := .enquiring } (heard (.statusAns .busy 0 0) (entryIs (.status .enquire) base));
      s.station = .trading &&
        (match s.link.rx with
          | f :: rest =>
              raisesNothing f s = true &&
                (match findTrack s f.src f.reqNo with
                  | some (tp, tr) =>
                      (tr.data.period : Int) ≤ extendStamp (openPeriod s) f.stamp && tr.orphan = none &&
                        (match tr.data.kind with
                          | .status act2 =>
                              (match f.payload with
                                | .statusAns vw av hd =>
                                    (match tr.slot with
                                      | some slot =>
                                          (match getSlot s slot with
                                            | some sl =>
                                                sl.state = .enquiring
                                            | _ => false)
                                      | _ => false)
                                | _ => false)
                          | _ => false)
                  | _ => false)
          | _ => false))) = true := by decide +kernel

theorem meets_PositionIsComparedAndStored :
    (
    (let s : State := heard (.position 1 .zero false) base;
      s.station = .trading &&
        (match s.link.rx with
          | f :: rest =>
              (match f.payload with
                | .position period fig hy =>
                    raisesNothing f s = true && s.positions.view = none
                | _ => false)
          | _ => false)) &&
    (let s : State := heard (.position 2 .zero false) (closing [] base);
      s.station = .trading &&
        (match s.link.rx with
          | f :: rest =>
              (match f.payload with
                | .position period fig hy =>
                    raisesNothing f s = true &&
                      (match s.positions.view with
                        | some v =>
                            decide (s.positions.gen.closing = false ∨ period ≠ closingPeriod s ∨ figuresInRange fig = false)
                        | _ => false)
                | _ => false)
          | _ => false)) &&
    (let s : State := heard (.position 1 .zero false) (closing [(12, ⟨.awaiting, true⟩)] (full base));
      s.station = .trading &&
        (match s.link.rx with
          | f :: rest =>
              (match f.payload with
                | .position period fig hy =>
                    raisesNothing f s = true &&
                      (match s.positions.view with
                        | some v =>
                            s.positions.gen.closing = true && period = closingPeriod s && figuresInRange fig = true &&
                              v.completed = false &&
                              decide ((closeRow v f.src).state = .awaiting ∨ (closingRow s f.src).mirror ≠ some fig) &&
                              frameFree s = false
                        | _ => false)
                | _ => false)
          | _ => false)) &&
    (let s : State := heard (.position 1 .zero false) (closing [(12, ⟨.awaiting, true⟩)] base);
      s.station = .trading &&
        (match s.link.rx with
          | f :: rest =>
              (match f.payload with
                | .position period fig hy =>
                    raisesNothing f s = true &&
                      (match s.positions.view with
                        | some v =>
                            s.positions.gen.closing = true && period = closingPeriod s && figuresInRange fig = true &&
                              v.completed = false &&
                              decide ((closeRow v f.src).state = .awaiting ∨ (closingRow s f.src).mirror ≠ some fig) &&
                              frameFree s = true
                        | _ => false)
                | _ => false)
          | _ => false)) &&
    (let s : State := heard (.position 1 .zero true) (closing [(12, ⟨.confirmed, true⟩)] { base with positions := { base.positions with rowsA := [(12, { Row.zero 1 with mirror := some .zero })] } });
      s.station = .trading &&
        (match s.link.rx with
          | f :: rest =>
              (match f.payload with
                | .position period fig hy =>
                    raisesNothing f s = true &&
                      (match s.positions.view with
                        | some v =>
                            s.positions.gen.closing = true && period = closingPeriod s && figuresInRange fig = true &&
                              decide (v.completed = true ∨ ((closeRow v f.src).state ≠ .awaiting ∧ (closingRow s f.src).mirror = some fig)) &&
                              decide (hy = true ∨ (closeRow v f.src).final = false)
                        | _ => false)
                | _ => false)
          | _ => false)) &&
    (let s : State := heard (.position 1 .zero false) (closing [(12, ⟨.confirmed, true⟩)] { base with positions := { base.positions with rowsA := [(12, { Row.zero 1 with mirror := some .zero })] } });
      s.station = .trading &&
        (match s.link.rx with
          | f :: rest =>
              (match f.payload with
                | .position period fig hy =>
                    raisesNothing f s = true &&
                      (match s.positions.view with
                        | some v =>
                            s.positions.gen.closing = true && period = closingPeriod s && figuresInRange fig = true &&
                              decide (v.completed = true ∨ ((closeRow v f.src).state ≠ .awaiting ∧ (closingRow s f.src).mirror = some fig)) &&
                              hy = false && (closeRow v f.src).final = true && sendWaiting s f.src period = false &&
                              unstored (fun k => writesRow (closingSide s) f.src k || (writesGen k && !(v.completed && k.format = .closeEnd))) s = [] &&
                              1 ≤ openPeriod s && s.link.tx.length < 16
                        | _ => false)
                | _ => false)
          | _ => false))) = true := by decide +kernel

theorem meets_ExpiryReturnsTheHold :
    (
    (let s : State := holdIs 12 .isOpen base;
      let tag : Nat := 9;
      s.station = .trading &&
        (match findHold s tag with
          | some (gp, gr) =>
              (match gr.body with
                | .hold tag1 a .isOpen =>
                    tag1 = tag &&
                      (match tabGet s.requests.lives tag with
                        | some life =>
                            (match findCard s gr.serial with
                              | some (place, c) =>
                                  life ≠ 0 && frameFree s = true
                              | _ => false)
                        | _ => false)
                | _ => false)
          | _ => false)) &&
    (let s : State := full (holdIs 12 .isOpen base);
      let tag : Nat := 9;
      s.station = .trading &&
        (match findHold s tag with
          | some (gp, gr) =>
              (match gr.body with
                | .hold tag1 a .isOpen =>
                    tag1 = tag &&
                      (match tabGet s.requests.lives tag with
                        | some life =>
                            (match findCard s gr.serial with
                              | some (place, c) =>
                                  life ≠ 0 && frameFree s = false
                              | _ => false)
                        | _ => false)
                | _ => false)
          | _ => false)) &&
    (let s : State := { holdIs 12 .isOpen base with requests := { (holdIs 12 .isOpen base).requests with lives := [(9, 0)] } };
      let tag : Nat := 9;
      s.station = .trading &&
        (match findHold s tag with
          | some (gp, gr) =>
              (match gr.body with
                | .hold tag1 a .isOpen =>
                    tag1 = tag &&
                      (match tabGet s.requests.lives tag with
                        | some life =>
                            (match findCard s gr.serial with
                              | some (place, c) =>
                                  life = 0 && frameFree s = true
                              | _ => false)
                        | _ => false)
                | _ => false)
          | _ => false)) &&
    (let s : State := full { holdIs 12 .isOpen base with requests := { (holdIs 12 .isOpen base).requests with lives := [(9, 0)] } };
      let tag : Nat := 9;
      s.station = .trading &&
        (match findHold s tag with
          | some (gp, gr) =>
              (match gr.body with
                | .hold tag1 a .isOpen =>
                    tag1 = tag &&
                      (match tabGet s.requests.lives tag with
                        | some life =>
                            (match findCard s gr.serial with
                              | some (place, c) =>
                                  life = 0 && frameFree s = false
                              | _ => false)
                        | _ => false)
                | _ => false)
          | _ => false))) = true := by decide +kernel

theorem meets_WaitsEndByKind :
    (
    (let s : State := slotIs (heldOf (cardId 12 4)) base;
      let slot : Nat := 2;
      s.station = .trading &&
        (match getSlot s slot with
          | some sl =>
              sl.state = .held
          | _ => false)) &&
    (let s : State := slotIs { heldOf (cardId 12 4) with state := .settling } base;
      let slot : Nat := 2;
      s.station = .trading &&
        (match getSlot s slot with
          | some sl =>
              sl.state ≠ .held
          | _ => false)) &&
    (let s : State := slotIs { heldOf (cardId 12 4) with state := .authorising } (entryMap (fun t => { t with timer := none }) (entryIs .hold base));
      let home : Nat := 12;
      let reqNo : Nat := 6;
      s.station = .trading &&
        (match findTrack s home reqNo with
          | some (tp, tr) =>
              tr.orphan = none && tr.timer = none
          | _ => false)) &&
    (let s : State := slotIs { heldOf (cardId 12 4) with state := .authorising } (entryMap (fun t => { t with data := { t.data with state := .inDoubt } }) (entryIs .hold base));
      let home : Nat := 12;
      let reqNo : Nat := 6;
      s.station = .trading &&
        (match findTrack s home reqNo with
          | some (tp, tr) =>
              tr.orphan = none && tr.timer.isSome = true && tr.data.state = .inDoubt
          | _ => false)) &&
    (let s : State := slotIs { heldOf (cardId 12 4) with state := .authorising } (entryIs .hold base);
      let home : Nat := 12;
      let reqNo : Nat := 6;
      s.station = .trading &&
        (match findTrack s home reqNo with
          | some (tp, tr) =>
              tr.orphan = none && tr.timer.isSome = true && tr.data.state = .sent && tr.attempts < 4
          | _ => false)) &&
    (let s : State := slotIs { heldOf (cardId 12 4) with state := .authorising } (entryMap (fun t => { t with attempts := 4, slot := none }) (entryIs .hold base));
      let home : Nat := 12;
      let reqNo : Nat := 6;
      s.station = .trading &&
        (match findTrack s home reqNo with
          | some (tp, tr) =>
              tr.orphan = none && tr.timer.isSome = true && tr.data.state = .sent && 4 ≤ tr.attempts &&
                tr.data.kind ≠ .capture && tr.data.kind ≠ .credit .topup && tr.data.kind ≠ .credit .refund &&
                tr.slot = none
          | _ => false)) &&
    (let s : State := slotIs { heldOf (cardId 12 4) with state := .authorising } (entryMap (fun t => { t with attempts := 4 }) (entryIs .hold base));
      let home : Nat := 12;
      let reqNo : Nat := 6;
      s.station = .trading &&
        (match findTrack s home reqNo with
          | some (tp, tr) =>
              tr.orphan = none && tr.timer.isSome = true && tr.data.state = .sent && 4 ≤ tr.attempts &&
                tr.data.kind = .hold &&
                (match tr.slot with
                  | some slot =>
                      (match getSlot s slot with
                        | some sl =>
                            sl.state = .authorising
                        | _ => false)
                  | _ => false)
          | _ => false)) &&
    (let s : State := slotIs { heldOf (cardId 12 4) with state := .enquiring } (entryMap (fun t => { t with attempts := 4 }) (entryIs (.status .enquire) base));
      let home : Nat := 12;
      let reqNo : Nat := 6;
      s.station = .trading &&
        (match findTrack s home reqNo with
          | some (tp, tr) =>
              tr.orphan = none && tr.timer.isSome = true && tr.data.state = .sent && 4 ≤ tr.attempts &&
                (match tr.data.kind with
                  | .status act2 =>
                      (match tr.slot with
                        | some slot =>
                            (match getSlot s slot with
                              | some sl =>
                                  sl.state = .enquiring
                              | _ => false)
                        | _ => false)
                  | _ => false)
          | _ => false)) &&
    (let s : State := slotIs { heldOf (cardId 12 4) with state := .settling } (entryMap (fun t => { t with attempts := 4 }) (entryIs .release base));
      let home : Nat := 12;
      let reqNo : Nat := 6;
      s.station = .trading &&
        (match findTrack s home reqNo with
          | some (tp, tr) =>
              tr.orphan = none && tr.timer.isSome = true && tr.data.state = .sent && 4 ≤ tr.attempts &&
                tr.data.kind = .release &&
                (match tr.slot with
                  | some slot =>
                      (match getSlot s slot with
                        | some sl =>
                            sl.state = .settling
                        | _ => false)
                  | _ => false)
          | _ => false)) &&
    (let s : State := slotIs { heldOf (cardId 12 4) with state := .settling } (entryMap (fun t => { t with attempts := 4, slot := none }) (entryIs .capture base));
      let home : Nat := 12;
      let reqNo : Nat := 6;
      s.station = .trading &&
        (match findTrack s home reqNo with
          | some (tp, tr) =>
              tr.orphan = none && tr.timer.isSome = true && tr.data.state = .sent && 4 ≤ tr.attempts &&
                decide (tr.data.kind = .capture ∨ tr.data.kind = .credit .topup ∨ tr.data.kind = .credit .refund) &&
                frameFree s = true
          | _ => false)) &&
    (let s : State := full (entryMap (fun t => { t with attempts := 4 }) (entryIs .capture base));
      let home : Nat := 12;
      let reqNo : Nat := 6;
      s.station = .trading &&
        (match findTrack s home reqNo with
          | some (tp, tr) =>
              tr.orphan = none && tr.timer.isSome = true && tr.data.state = .sent && 4 ≤ tr.attempts &&
                decide (tr.data.kind = .capture ∨ tr.data.kind = .credit .topup ∨ tr.data.kind = .credit .refund) &&
                frameFree s = false
          | _ => false)) &&
    (let s : State := entryMap (fun t => { t with orphan := some .sent }) (entryIs .capture base);
      let home : Nat := 12;
      let reqNo : Nat := 6;
      s.station = .trading &&
        (match findTrack s home reqNo with
          | some (tp, tr) =>
              tr.orphan.isSome = true
          | _ => false)) &&
    (let s : State := slotIs { heldOf (cardId 12 4) with state := .authorising } (entryMap (fun t => { t with moveWaiting := true }) (entryIs .hold base));
      let home : Nat := 12;
      let reqNo : Nat := 6;
      s.station = .trading &&
        (match findTrack s home reqNo with
          | some (tp, tr) =>
              tr.moveWaiting = true && frameFree s = true
          | _ => false)) &&
    (let s : State := slotIs { heldOf (cardId 12 4) with state := .authorising } (entryIs .hold base);
      let home : Nat := 12;
      let reqNo : Nat := 6;
      s.station = .trading &&
        (match findTrack s home reqNo with
          | some (tp, tr) =>
              decide (tr.moveWaiting = false ∨ frameFree s = false)
          | _ => false))) = true := by decide +kernel

theorem meets_WaitingWorkTakesAFrameSlot :
    (
    (let s : State := { holdIs 7 .isOpen base with requests := { (holdIs 7 .isOpen base).requests with deferred := [9] } };
      let tag : Nat := 9;
      s.station = .trading &&
        decide (s.requests.deferred.contains tag = true ∨ s.requests.lapsing.contains tag = true) && frameFree s = true &&
        (match findHold s tag with
          | some (gp, gr) =>
              (match gr.body with
                | .hold tag1 a .isOpen =>
                    tag1 = tag &&
                      (match findCard s gr.serial with
                        | some (place, c) =>
                            true
                        | _ => false)
                | _ => false)
          | _ => false)) &&
    (let s : State := { base with requests := { base.requests with deferred := [9] } };
      let tag : Nat := 9;
      s.station = .trading &&
        decide (s.requests.deferred.contains tag = true ∨ s.requests.lapsing.contains tag = true) && frameFree s = true &&
        (findHold s tag).all (fun p => !grantOpen p.2) = true) &&
    (let s : State := { holdIs 7 .isOpen base with requests := { (holdIs 7 .isOpen base).requests with deferred := [9] } };
      let tag : Nat := 8;
      s.station = .trading &&
        decide ((s.requests.deferred.contains tag = false ∧ s.requests.lapsing.contains tag = false) ∨ frameFree s = false)) &&
    (let s : State := { base with tracker := ⟨[], 256⟩ };
      s.station = .trading &&
        (match s.ident with
          | some i =>
              (nextNumber s).2 = true && frameFree s = true
          | _ => false)) &&
    (let s : State := { holdIs 7 .isOpen base with requests := { (holdIs 7 .isOpen base).requests with deferred := [9] } };
      s.station = .trading && decide ((nextNumber s).2 = false ∨ frameFree s = false)) &&
    (let s : State := { holdIs 7 .isOpen base with requests := { (holdIs 7 .isOpen base).requests with deferred := [9] } };
      let m : Nat := 7;
      s.station = .trading && 1 ≤ m && m ≤ 65535)) = true := by decide +kernel

theorem meets_ClosesBeginAndComplete :
    (
    (let s : State := base;
      s.station = .trading &&
        decide (s.positions.gen.closing = true ∨ s.positions.target < openPeriod s ∨ 16777215 ≤ openPeriod s ∨ freeCount s.journal ≤ 512 ∨ 16 ≤ s.control.frames.length)) &&
    (let s : State := { base with positions := { base.positions with target := 1 } };
      s.station = .trading && s.positions.gen.closing = false && openPeriod s ≤ s.positions.target &&
        openPeriod s < 16777215 && 512 < freeCount s.journal && frameFree s = true) &&
    (let s : State := closing [] base;
      s.station = .trading &&
        (match s.positions.view with
          | some v =>
              decide (v.completed = true ∨ v.ownFinal = false ∨ 16 ≤ s.control.frames.length ∨ ((counterparts s).any fun j => !rowSettled (closeRow v j).state) = true)
          | _ => false)) &&
    (let s : State := closing settled base;
      s.station = .trading &&
        (match s.positions.view with
          | some v =>
              s.positions.gen.closing = true && v.completed = false && v.ownFinal = true && frameFree s = true &&
                ((counterparts s).all fun j => rowSettled (closeRow v j).state) = true &&
                (s.requests.grants.all fun p => !(grantOpen p.2 && !grantFree (lastClosed s) p.2 && p.2.period = closingPeriod s)) = true
          | _ => false)) &&
    (let s : State := programs (.frame 0 ⟨1, .closeEnd, [⟨true, .generation ⟨.b, 2, false, 1⟩⟩], .notice ⟨.closeDone, .number 1, 1⟩⟩) .closeEnd (.notice ⟨.closeDone, .number 1, 1⟩) (closing settled base);
      s.station = .trading &&
        (match s.control.queue with
          | .frame slt frm :: prs =>
              (match (s.control.frames.find? fun k => k.slot = slt) with
                | some pf =>
                    pf.frame.format = .closeEnd &&
                      (match frameGen pf.frame with
                        | some gn =>
                            (match pf.frame.continuation with
                              | .notice nr =>
                                  s.control.waits = []
                              | _ => false)
                        | _ => false)
                | _ => false)
          | _ => false)) &&
    (let s : State := programs (.frame 0 ⟨1, .closeBegin, [], .none⟩) .closeBegin (.notice ⟨.closeBegun, .number 1, 0⟩) (closing [] base);
      s.station = .trading &&
        (match s.control.queue with
          | .frame slt frm :: prs =>
              (match (s.control.frames.find? fun k => k.slot = slt) with
                | some pf =>
                    pf.frame.format = .closeBegin &&
                      (match pf.frame.continuation with
                        | .notice nr =>
                            s.control.waits = []
                        | _ => false)
                | _ => false)
          | _ => false))) = true := by decide +kernel

theorem meets_DeadlineForcesTheClose :
    (
    (let s : State := { closing [] base with positions := { (closing [] base).positions with view := some ⟨[], true, some 0, false⟩ } };
      s.control.store.wf = true && tabWf s.custody.cards = true && tabWf s.requests.grants = true &&
        tabWf s.tracker.entries = true && tabWf s.slots = true && s.station = .trading &&
        (match s.positions.view with
          | some v =>
              decide (v.completed = true ∨ v.deadline = none ∨ v.deadline = some 0)
          | _ => false)) &&
    (let s : State := slotIs (heldOf (cardId 7 1)) (holdIs 7 .isOpen (closing [] base));
      let slot : Nat := 2;
      s.control.store.wf = true && tabWf s.custody.cards = true && tabWf s.requests.grants = true &&
        tabWf s.tracker.entries = true && tabWf s.slots = true && s.station = .trading &&
        (match s.positions.view with
          | some v =>
              v.completed = false && (v.deadline.any fun k => 1 ≤ k) = true &&
                (match getSlot s slot with
                  | some sl =>
                      sl.state = .held &&
                        (match sl.hold with
                          | some h =>
                              h.period = closingPeriod s &&
                                (s.tracker.entries.all fun p => p.2.slot ≠ some slot) = true
                          | _ => false)
                  | _ => false)
          | _ => false)) &&
    (let s : State := entryMap (fun t => { t with data := { t.data with period := 2 } }) (entryIs .hold (closing [] base));
      let tp : Nat := 0;
      s.control.store.wf = true && tabWf s.custody.cards = true && tabWf s.requests.grants = true &&
        tabWf s.tracker.entries = true && tabWf s.slots = true && s.station = .trading &&
        (match s.positions.view with
          | some v =>
              v.completed = false && (v.deadline.any fun k => 1 ≤ k) = true &&
                (match tabGet s.tracker.entries tp with
                  | some tr =>
                      trackFree (lastClosed s) tr = false && tr.data.period ≠ closingPeriod s
                  | _ => false)
          | _ => false)) &&
    (let s : State := entryIs .capture (closing [] base);
      let tp : Nat := 0;
      s.control.store.wf = true && tabWf s.custody.cards = true && tabWf s.requests.grants = true &&
        tabWf s.tracker.entries = true && tabWf s.slots = true && s.station = .trading &&
        (match s.positions.view with
          | some v =>
              v.completed = false && (v.deadline.any fun k => 1 ≤ k) = true &&
                (match tabGet s.tracker.entries tp with
                  | some tr =>
                      trackFree (lastClosed s) tr = false && tr.data.period = closingPeriod s &&
                        decide (tr.data.kind = .capture ∨ tr.data.kind = .credit .topup ∨ tr.data.kind = .credit .refund) &&
                        tr.orphan = none
                  | _ => false)
          | _ => false)) &&
    (let s : State := entryIs .hold (closing [] base);
      let tp : Nat := 0;
      s.control.store.wf = true && tabWf s.custody.cards = true && tabWf s.requests.grants = true &&
        tabWf s.tracker.entries = true && tabWf s.slots = true && s.station = .trading &&
        (match s.positions.view with
          | some v =>
              v.completed = false && (v.deadline.any fun k => 1 ≤ k) = true &&
                (match tabGet s.tracker.entries tp with
                  | some tr =>
                      trackFree (lastClosed s) tr = false && tr.data.period = closingPeriod s &&
                        decide (tr.data.kind = .hold ∨ tr.data.kind = .release ∨ tr.data.kind = .status .enquire ∨ tr.data.kind = .status .freeze)
                  | _ => false)
          | _ => false)) &&
    (let s : State := holdIs 7 .released (closing [] base);
      let gp : Nat := 0;
      s.control.store.wf = true && tabWf s.custody.cards = true && tabWf s.requests.grants = true &&
        tabWf s.tracker.entries = true && tabWf s.slots = true && s.station = .trading &&
        (match s.positions.view with
          | some v =>
              v.completed = false && (v.deadline.any fun k => 1 ≤ k) = true &&
                (match tabGet s.requests.grants gp with
                  | some gr =>
                      decide (grantOpen gr = false ∨ gr.period ≠ closingPeriod s)
                  | _ => false)
          | _ => false)) &&
    (let s : State := slotIs (heldOf (cardId 7 1)) (holdIs 7 .isOpen (closing [] base));
      let gp : Nat := 0;
      s.control.store.wf = true && tabWf s.custody.cards = true && tabWf s.requests.grants = true &&
        tabWf s.tracker.entries = true && tabWf s.slots = true && s.station = .trading &&
        (match s.positions.view with
          | some v =>
              v.completed = false && (v.deadline.any fun k => 1 ≤ k) = true &&
                (match tabGet s.requests.grants gp with
                  | some gr =>
                      grantOpen gr = true && gr.period = closingPeriod s && grantFree (lastClosed s) gr = false &&
                        tabCount (fun k => grantOpen k && k.period = closingPeriod s && !grantFree (lastClosed s) k) (s.requests.grants.filter fun p => p.1 < gp) < framesFree s
                  | _ => false)
          | _ => false)) &&
    (let s : State := full (holdIs 7 .isOpen (closing [] base));
      let gp : Nat := 0;
      s.control.store.wf = true && tabWf s.custody.cards = true && tabWf s.requests.grants = true &&
        tabWf s.tracker.entries = true && tabWf s.slots = true && s.station = .trading &&
        (match s.positions.view with
          | some v =>
              v.completed = false && (v.deadline.any fun k => 1 ≤ k) = true &&
                (match tabGet s.requests.grants gp with
                  | some gr =>
                      grantOpen gr = true && gr.period = closingPeriod s && grantFree (lastClosed s) gr = false &&
                        framesFree s ≤ tabCount (fun k => grantOpen k && k.period = closingPeriod s && !grantFree (lastClosed s) k) (s.requests.grants.filter fun p => p.1 < gp) &&
                        (match grantTag gr with
                          | some tag =>
                              true
                          | _ => false)
                  | _ => false)
          | _ => false))) = true := by decide +kernel

theorem meets_ProgramsWriteThenAnnounce :
    (
    (let s : State := programs (.target (.lock 4 ⟨1, 2, true⟩)) .rangeSet .none base;
      (match s.control.queue with
        | pr :: prs =>
            decide (s.station = .idle ∨ s.station = .trading) &&
              (match pr with
                | .target tg =>
                    true
                | _ => false)
        | _ => false)) &&
    (let s : State := programs (.entry 0 entry0) .issue .none base;
      (match s.control.queue with
        | pr :: prs =>
            decide (s.station = .idle ∨ s.station = .trading) &&
              (match pr with
                | .entry pos en =>
                    true
                | _ => false)
        | _ => false)) &&
    (let s : State := programs (.done 0) .issue .none base;
      (match s.control.queue with
        | pr :: prs =>
            decide (s.station = .idle ∨ s.station = .trading) &&
              (match pr with
                | .done slt =>
                    true
                | _ => false)
        | _ => false)) &&
    (let s : State := programs (.clearFrame 3) .issue .none base;
      (match s.control.queue with
        | pr :: prs =>
            decide (s.station = .idle ∨ s.station = .trading) &&
              (match pr with
                | .clearFrame slt =>
                    true
                | _ => false)
        | _ => false)) &&
    (let s : State := programs (.frame 0 ⟨1, .issue, [], .none⟩) .holdGrant .none (slotIs (heldOf (cardId 7 1)) base);
      (match s.control.queue with
        | pr :: prs =>
            decide (s.station = .idle ∨ s.station = .trading) &&
              (match pr with
                | .frame slt frm =>
                    (match (s.control.frames.find? fun k => k.slot = slt) with
                      | some pf =>
                          pf.frame.format ≠ .closeBegin && pf.frame.format ≠ .closeEnd &&
                            pf.frame.format ≠ .archiveStore && s.control.waits = [] && pf.frame.continuation = .none
                      | _ => false)
                | _ => false)
        | _ => false)) &&
    (let s : State := programs (.frame 0 ⟨1, .issue, [], .none⟩) .holdGrant (.answer 12 6 (.creditAns .applied none)) (slotIs (heldOf (cardId 7 1)) base);
      (match s.control.queue with
        | pr :: prs =>
            decide (s.station = .idle ∨ s.station = .trading) &&
              (match pr with
                | .frame slt frm =>
                    (match (s.control.frames.find? fun k => k.slot = slt) with
                      | some pf =>
                          pf.frame.format ≠ .closeBegin && pf.frame.format ≠ .closeEnd &&
                            pf.frame.format ≠ .archiveStore && s.control.waits = [] &&
                            (match pf.frame.continuation with
                              | .answer odst oreq opay =>
                                  s.station = .trading
                              | _ => false)
                      | _ => false)
                | _ => false)
        | _ => false)) &&
    (let s : State := programs (.frame 0 ⟨1, .issue, [], .none⟩) .holdGrant (.notice ⟨.rowDisputed, .number 12, 1⟩) (slotIs (heldOf (cardId 7 1)) base);
      (match s.control.queue with
        | pr :: prs =>
            decide (s.station = .idle ∨ s.station = .trading) &&
              (match pr with
                | .frame slt frm =>
                    (match (s.control.frames.find? fun k => k.slot = slt) with
                      | some pf =>
                          pf.frame.format ≠ .closeBegin && pf.frame.format ≠ .closeEnd &&
                            pf.frame.format ≠ .archiveStore && s.control.waits = [] &&
                            (match pf.frame.continuation with
                              | .notice nr =>
                                  true
                              | _ => false)
                      | _ => false)
                | _ => false)
        | _ => false)) &&
    (let s : State := { programs (.frame 0 ⟨1, .issue, [], .none⟩) .issue .none base with control := { base.control with queue := [.frame 0 ⟨1, .issue, [], .none⟩], frames := [⟨0, ⟨1, .issue, [], .slotOutcome 2 none none ⟨.issued, 500, cardId 7 1, some 500, none, none, 0⟩⟩, false, true⟩] } };
      (match s.control.queue with
        | pr :: prs =>
            decide (s.station = .idle ∨ s.station = .trading) &&
              (match pr with
                | .frame slt frm =>
                    (match (s.control.frames.find? fun k => k.slot = slt) with
                      | some pf =>
                          pf.frame.format ≠ .closeBegin && pf.frame.format ≠ .closeEnd &&
                            pf.frame.format ≠ .archiveStore && s.control.waits = [] &&
                            (match pf.frame.continuation with
                              | .slotOutcome slot orq none oout =>
                                  pf.slotFreed = true
                              | _ => false)
                      | _ => false)
                | _ => false)
        | _ => false)) &&
    (let s : State := programs (.frame 0 ⟨1, .issue, [], .none⟩) .holdGrant (.slotOutcome 2 none none ⟨.issued, 500, cardId 7 1, some 500, none, none, 0⟩) (slotIs (heldOf (cardId 7 1)) base);
      (match s.control.queue with
        | pr :: prs =>
            decide (s.station = .idle ∨ s.station = .trading) &&
              (match pr with
                | .frame slt frm =>
                    (match (s.control.frames.find? fun k => k.slot = slt) with
                      | some pf =>
                          pf.frame.format ≠ .closeBegin && pf.frame.format ≠ .closeEnd &&
                            pf.frame.format ≠ .archiveStore && s.control.waits = [] &&
                            (match pf.frame.continuation with
                              | .slotOutcome slot orq none oout =>
                                  pf.slotFreed = false &&
                                    (match getSlot s slot with
                                      | some sl =>
                                          true
                                      | _ => false)
                              | _ => false)
                      | _ => false)
                | _ => false)
        | _ => false)) &&
    (let s : State := programs (.frame 0 ⟨1, .issue, [], .none⟩) .holdGrant (.slotOutcome 2 none (some ⟨9, 1, 500⟩) ⟨.approved, 500, cardId 7 1, some 500, none, none, 0⟩) (slotIs (heldOf (cardId 7 1)) base);
      (match s.control.queue with
        | pr :: prs =>
            decide (s.station = .idle ∨ s.station = .trading) &&
              (match pr with
                | .frame slt frm =>
                    (match (s.control.frames.find? fun k => k.slot = slt) with
                      | some pf =>
                          pf.frame.format ≠ .closeBegin && pf.frame.format ≠ .closeEnd &&
                            pf.frame.format ≠ .archiveStore && s.control.waits = [] &&
                            (match pf.frame.continuation with
                              | .slotOutcome slot orq (some h) oout =>
                                  pf.slotFreed = false &&
                                    (match getSlot s slot with
                                      | some sl =>
                                          true
                                      | _ => false)
                              | _ => false)
                      | _ => false)
                | _ => false)
        | _ => false)) &&
    (let s : State := programs (.frame 0 ⟨1, .trackerStore, [], .none⟩) .trackerStore (.request 12 6 1 (.settleReq .capture 9 4 500)) (entryIs .capture base);
      (match s.control.queue with
        | pr :: prs =>
            decide (s.station = .idle ∨ s.station = .trading) &&
              (match pr with
                | .frame slt frm =>
                    (match (s.control.frames.find? fun k => k.slot = slt) with
                      | some pf =>
                          pf.frame.format ≠ .closeBegin && pf.frame.format ≠ .closeEnd &&
                            pf.frame.format ≠ .archiveStore && s.control.waits = [] &&
                            (match pf.frame.continuation with
                              | .request odst oreq ost opay =>
                                  s.station = .trading &&
                                    (match findTrack s odst oreq with
                                      | some (tp, tr) =>
                                          tr.orphan = none
                                      | _ => false)
                              | _ => false)
                      | _ => false)
                | _ => false)
        | _ => false)) &&
    (let s : State := programs (.frame 0 ⟨1, .trackerStore, [], .none⟩) .trackerStore (.request 12 6 1 (.settleReq .capture 9 4 500)) (entryMap (fun t => { t with orphan := some .sent }) (entryIs .capture base));
      (match s.control.queue with
        | pr :: prs =>
            decide (s.station = .idle ∨ s.station = .trading) &&
              (match pr with
                | .frame slt frm =>
                    (match (s.control.frames.find? fun k => k.slot = slt) with
                      | some pf =>
                          pf.frame.format ≠ .closeBegin && pf.frame.format ≠ .closeEnd &&
                            pf.frame.format ≠ .archiveStore && s.control.waits = [] &&
                            (match pf.frame.continuation with
                              | .request odst oreq ost opay =>
                                  s.station = .trading &&
                                    (match findTrack s odst oreq with
                                      | some (tp, tr) =>
                                          tr.orphan.isSome = true
                                      | _ => false)
                              | _ => false)
                      | _ => false)
                | _ => false)
        | _ => false)) &&
    (let s : State := (let s : State := programs (.frame 0 ⟨1, .holdGrant, [], .none⟩) .holdGrant (.slotOutcome 2 none (some ⟨9, 1, 500⟩) ⟨.approved, 500, cardId 7 1, some 500, none, none, 0⟩) (holdIs 7 .isOpen base); { s with control := { s.control with frames := (s.control.frames.map fun f => { f with slotFreed := true }) }, requests := { s.requests with lives := [(9, 0)] } });
      (match s.control.queue with
        | pr :: prs =>
            decide (s.station = .idle ∨ s.station = .trading) &&
              (match pr with
                | .frame slt frm =>
                    (match (s.control.frames.find? fun k => k.slot = slt) with
                      | some pf =>
                          pf.frame.format ≠ .closeBegin && pf.frame.format ≠ .closeEnd &&
                            pf.frame.format ≠ .archiveStore && s.control.waits = [] &&
                            (match pf.frame.continuation with
                              | .slotOutcome slot orq (some h) oout =>
                                  pf.slotFreed = true && s.station = .trading &&
                                    (match findSettled s (ownStation s) h.tag oout.card.serial h.period with
                                      | some (gp, gr) =>
                                          (match gr.body with
                                            | .hold h_tag1 a .isOpen =>
                                                h_tag1 = h.tag &&
                                                  (match findCard s gr.serial with
                                                    | some (place, c) =>
                                                        tabGet s.requests.lives h.tag = some 0
                                                    | _ => false)
                                            | _ => false)
                                      | _ => false)
                              | _ => false)
                      | _ => false)
                | _ => false)
        | _ => false)) &&
    (let s : State := (let s : State := programs (.frame 0 ⟨1, .holdGrant, [], .none⟩) .holdGrant (.slotOutcome 2 none (some ⟨9, 1, 500⟩) ⟨.approved, 500, cardId 7 1, some 500, none, none, 0⟩) (holdIs 7 .isOpen base); { s with control := { s.control with frames := (s.control.frames.map fun f => { f with slotFreed := true }) }, requests := { s.requests with lives := [(9, 40)] } });
      (match s.control.queue with
        | pr :: prs =>
            decide (s.station = .idle ∨ s.station = .trading) &&
              (match pr with
                | .frame slt frm =>
                    (match (s.control.frames.find? fun k => k.slot = slt) with
                      | some pf =>
                          pf.frame.format ≠ .closeBegin && pf.frame.format ≠ .closeEnd &&
                            pf.frame.format ≠ .archiveStore && s.control.waits = [] &&
                            (match pf.frame.continuation with
                              | .slotOutcome slot orq (some h) oout =>
                                  pf.slotFreed = true && s.station = .trading &&
                                    (match findSettled s (ownStation s) h.tag oout.card.serial h.period with
                                      | some (gp, gr) =>
                                          (match gr.body with
                                            | .hold h_tag1 a .isOpen =>
                                                h_tag1 = h.tag &&
                                                  (match findCard s gr.serial with
                                                    | some (place, c) =>
                                                        tabGet s.requests.lives h.tag ≠ some 0 && frameFree s = true
                                                    | _ => false)
                                            | _ => false)
                                      | _ => false)
                              | _ => false)
                      | _ => false)
                | _ => false)
        | _ => false)) &&
    (let s : State := (let s : State := programs (.frame 0 ⟨1, .holdGrant, [], .none⟩) .holdGrant (.slotOutcome 2 none (some ⟨9, 1, 500⟩) ⟨.approved, 500, cardId 7 1, some 500, none, none, 0⟩) (holdIs 7 .isOpen base); { s with control := { s.control with frames := (s.control.frames.map fun f => { f with slotFreed := true }) ++ (full base).control.frames.drop 1 }, requests := { s.requests with lives := [(9, 40)] } });
      (match s.control.queue with
        | pr :: prs =>
            decide (s.station = .idle ∨ s.station = .trading) &&
              (match pr with
                | .frame slt frm =>
                    (match (s.control.frames.find? fun k => k.slot = slt) with
                      | some pf =>
                          pf.frame.format ≠ .closeBegin && pf.frame.format ≠ .closeEnd &&
                            pf.frame.format ≠ .archiveStore && s.control.waits = [] &&
                            (match pf.frame.continuation with
                              | .slotOutcome slot orq (some h) oout =>
                                  pf.slotFreed = true && s.station = .trading &&
                                    (match findSettled s (ownStation s) h.tag oout.card.serial h.period with
                                      | some (gp, gr) =>
                                          (match gr.body with
                                            | .hold h_tag1 a .isOpen =>
                                                h_tag1 = h.tag &&
                                                  (match findCard s gr.serial with
                                                    | some (place, c) =>
                                                        tabGet s.requests.lives h.tag ≠ some 0 && frameFree s = false
                                                    | _ => false)
                                            | _ => false)
                                      | _ => false)
                              | _ => false)
                      | _ => false)
                | _ => false)
        | _ => false)) &&
    (let s : State := (let s : State := programs (.frame 0 ⟨1, .issue, [], .none⟩) .issue .none base; { s with control := { s.control with waits := [⟨[1], .notice ⟨.closeBegun, .number 1, 0⟩⟩] } });
      (match s.control.queue with
        | pr :: prs =>
            decide (s.station = .idle ∨ s.station = .trading) &&
              (match pr with
                | .frame slt frm =>
                    (match (s.control.frames.find? fun k => k.slot = slt) with
                      | some pf =>
                          pf.frame.continuation = .none && pf.frame.format ≠ .closeBegin &&
                            pf.frame.format ≠ .closeEnd && pf.frame.format ≠ .archiveStore &&
                            (match s.control.waits with
                              | [⟨[pf_frame_number1], item⟩] =>
                                  pf_frame_number1 = pf.frame.number &&
                                    true
                              | _ => false)
                      | _ => false)
                | _ => false)
        | _ => false)) &&
    (let s : State := (let s : State := programs (.frame 0 ⟨1, .archiveStore, [], .none⟩) .archiveStore .none base; { s with control := { s.control with frames := [⟨0, ⟨1, .archiveStore, [⟨true, .control ⟨1, 2, 3, blankBlocks⟩⟩], .none⟩, false, false⟩] } });
      (match s.control.queue with
        | pr :: prs =>
            decide (s.station = .idle ∨ s.station = .trading) &&
              (match pr with
                | .frame slt frm =>
                    (match (s.control.frames.find? fun k => k.slot = slt) with
                      | some pf =>
                          pf.frame.continuation = .none && pf.frame.format = .archiveStore &&
                            (match frameArchived pf.frame with
                              | some ar =>
                                  s.control.waits = []
                              | _ => false)
                      | _ => false)
                | _ => false)
        | _ => false)) &&
    (let s : State := { programs (.done 0) .issue .none base with station := .halted };
      (match s.control.queue with
        | pr :: prs =>
            s.station = .halted
        | _ => false))) = true := by decide +kernel

theorem meets_BlocksAreErased :
    (
    (let s : State := (let s : State := erasing 99998 [6, 7] (ending none []); { s with recovery := some ⟨.erasing, none, []⟩ });
      s.station = .recovering &&
        (match s.journal.erase with
          | some ⟨blk, .running spent⟩ =>
              s.control.queue = [] &&
                (match s.journal.blocks[blk]? with
                  | some bk =>
                      bk.eraseCount + 1 < 100000
                  | _ => false)
          | _ => false)) &&
    (let s : State := (let s : State := erasing 99999 [6, 7] (ending none []); { s with recovery := some ⟨.erasing, none, []⟩ });
      s.station = .recovering &&
        (match s.journal.erase with
          | some ⟨blk, .running spent⟩ =>
              s.control.queue = [] &&
                (match s.journal.blocks[blk]? with
                  | some bk =>
                      bk.eraseCount + 1 = 100000
                  | _ => false)
          | _ => false)) &&
    (let s : State := base;
      decide (s.station = .idle ∨ s.station = .trading) &&
        decide (s.journal.erase ≠ none ∨ usableBlocks s.journal.blocks < 4 ∨ eraseCandidate s = none)) &&
    (let s : State := { erasing 7 [6] base with journal := { (erasing 7 [6] base).journal with erase := none, blocks := (List.range 32).map fun n => if n = 2 then ⟨.inUse, 0⟩ else if n = 5 then ⟨.full, 7⟩ else ⟨.erased, 0⟩, oldest := 3 }, control := { base.control with store := { Store.blank with journal := [(2560, .whole entry0)] } } };
      let pos : Nat := 2560;
      decide (s.station = .idle ∨ s.station = .trading) && s.journal.erase = none && 4 ≤ usableBlocks s.journal.blocks &&
        (match eraseCandidate s with
          | some blk =>
              (match tabGet s.control.store.journal pos with
                | some (.whole en) =>
                    pos / 512 = blk
                | _ => false)
          | _ => false)) &&
    (let s : State := erasing 99998 [6, 7] base;
      decide (s.station = .idle ∨ s.station = .trading) &&
        (match s.journal.erase with
          | some ⟨blk, .running spent⟩ =>
              s.control.queue = [] &&
                (match s.journal.blocks[blk]? with
                  | some bk =>
                      bk.eraseCount + 1 < 100000 &&
                        (let s1 : State := marksErase .eraseEnd (s.journal.blocks.modify blk fun k => ⟨.erased, k.eraseCount + 1⟩) none { s.control.store with journal := s.control.store.journal.filter fun k => k.1 / 512 ≠ blk } s;
                         decide (512 < freeCount s.journal ∨ freeCount s1.journal ≤ 512))
                  | _ => false)
          | _ => false)) &&
    (let s : State := erasing 7 [] base;
      decide (s.station = .idle ∨ s.station = .trading) &&
        (match s.journal.erase with
          | some ⟨blk, .running spent⟩ =>
              s.control.queue = [] &&
                (match s.journal.blocks[blk]? with
                  | some bk =>
                      bk.eraseCount + 1 < 100000 &&
                        (let s1 : State := marksErase .eraseEnd (s.journal.blocks.modify blk fun k => ⟨.erased, k.eraseCount + 1⟩) none { s.control.store with journal := s.control.store.journal.filter fun k => k.1 / 512 ≠ blk } s;
                         freeCount s.journal ≤ 512 && 512 < freeCount s1.journal)
                  | _ => false)
          | _ => false)) &&
    (let s : State := erasing 99999 [6, 7] base;
      decide (s.station = .idle ∨ s.station = .trading) &&
        (match s.journal.erase with
          | some ⟨blk, .running spent⟩ =>
              s.control.queue = [] &&
                (match s.journal.blocks[blk]? with
                  | some bk =>
                      512 < freeCount s.journal && bk.eraseCount + 1 = 100000
                  | _ => false)
          | _ => false)) &&
    (let s : State := base;
      decide (s.station = .idle ∨ s.station = .trading) &&
        decide ((s.journal.erase.all fun k => k.phase = .marking) = true ∨ s.control.queue ≠ [])) &&
    (let s : State := programs (.control false ⟨1, ⟨1, 0, 1, blankBlocks⟩⟩ .eraseBegin) .issue .none { base with journal := { base.journal with erase := some ⟨5, .marking⟩ } };
      decide (s.station = .idle ∨ s.station = .trading) &&
        (match s.control.queue with
          | pr :: prs =>
              (match pr with
                | .control copyB cc use =>
                    use = .eraseBegin &&
                      (match s.journal.erase with
                        | some ⟨blk, .marking⟩ =>
                            true
                        | _ => false)
                | _ => false)
          | _ => false)) &&
    (let s : State := programs (.control false ⟨1, ⟨1, 0, 1, blankBlocks⟩⟩ .frame) .issue .none base;
      decide (s.station = .idle ∨ s.station = .trading) &&
        (match s.control.queue with
          | pr :: prs =>
              (match pr with
                | .control copyB cc use =>
                    decide (use = .frame ∨ (use = .eraseEnd ∧ 4 ≤ usableBlocks s.journal.blocks))
                | _ => false)
          | _ => false)) &&
    (let s : State := programs (.control false ⟨1, ⟨1, 0, 1, blankBlocks⟩⟩ .eraseEnd) .issue .none { base with journal := { base.journal with blocks := (List.range 32).map fun n => if n < 3 then ⟨.full, 0⟩ else ⟨.bad, 0⟩ } };
      decide (s.station = .idle ∨ s.station = .trading) &&
        (match s.control.queue with
          | pr :: prs =>
              (match pr with
                | .control copyB cc use =>
                    use = .eraseEnd && usableBlocks s.journal.blocks < 4
                | _ => false)
          | _ => false))) = true := by decide +kernel

theorem meets_ResetThenRecovery :
    (
    (let s : State := base;
      s.station ≠ .held) &&
    (let s : State := ending none [];
      s.station = .recovering &&
        (match s.recovery with
          | some rcv =>
              rcv.phase = .completing && s.control.queue = [] && s.journal.erase = none && rcv.fault = none &&
                recordTorn s.control.store = false && rcv.owed = [] && 512 < freeCount s.journal
          | _ => false)) &&
    (let s : State := ending none [.slotOutcome 2 none none ⟨.issued, 500, cardId 7 1, some 500, none, none, 0⟩];
      s.station = .recovering &&
        (match s.recovery with
          | some rcv =>
              rcv.phase = .completing && s.control.queue = [] && s.journal.erase = none && rcv.fault = none &&
                recordTorn s.control.store = false &&
                (match rcv.owed with
                  | [.slotOutcome slot orq oh oout] =>
                      512 < freeCount s.journal
                  | _ => false)
          | _ => false)) &&
    (let s : State := reserved (ending none []);
      s.station = .recovering &&
        (match s.recovery with
          | some rcv =>
              rcv.phase = .completing && s.control.queue = [] && s.journal.erase = none && rcv.fault = none &&
                recordTorn s.control.store = false && rcv.owed = [] && freeCount s.journal ≤ 512
          | _ => false)) &&
    (let s : State := ending (some .journalWorn) [];
      let code : FaultCode := .journalWorn;
      s.station = .recovering &&
        (match s.recovery with
          | some rcv =>
              rcv.phase = .completing && s.control.queue = [] && s.journal.erase = none &&
                decide (rcv.fault = some code ∨ (rcv.fault = none ∧ recordTorn s.control.store = true ∧ code = .recoveryFailed))
          | _ => false)) &&
    (let s : State := base;
      s.station ≠ .recovering) &&
    (let s : State := (let s : State := ending none []; { s with recovery := some ⟨.completing, none, []⟩, control := { s.control with queue := [.target (.lock 1 ⟨1, 2, true⟩)] } });
      let tg : Target := .lock 1 ⟨1, 2, true⟩;
      let pos : Nat := 0;
      let slt : Nat := 2;
      let en : JournalEntry := entry0;
      let copyB : Bool := false;
      let cc : ControlCopy := ⟨1, ⟨1, 0, 1, blankBlocks⟩⟩;
      s.station = .recovering &&
        (match s.recovery with
          | some rcv =>
              (match s.control.queue with
                | pr :: prs =>
                    decide (pr = .target tg ∨ pr = .entry pos en ∨ pr = .clearFrame slt ∨ pr = .control copyB cc .frame)
                | _ => false)
          | _ => false)) &&
    (let s : State := (let s : State := (let s : State := ending none []; { s with recovery := some ⟨.completing, none, []⟩, control := { s.control with queue := [.done 2] } }); { s with control := { s.control with store := { Store.blank with frames := [(2, .stored ⟨4, .archiveStore, [⟨true, .journal [entry0]⟩], .none⟩)] } } });
      s.station = .recovering &&
        (match s.recovery with
          | some rcv =>
              (match s.control.queue with
                | pr :: prs =>
                    (match pr with
                      | .done slt =>
                          (match tabGet s.control.store.frames slt with
                            | some (.stored frm) =>
                                true
                            | _ => false)
                      | _ => false)
                | _ => false)
          | _ => false)) &&
    (let s : State := (let s : State := ending none []; { s with recovery := some ⟨.erasing, none, []⟩, control := { s.control with queue := [.control false ⟨1, ⟨1, 0, 1, blankBlocks⟩⟩ .eraseBegin] }, journal := { s.journal with erase := some ⟨5, .marking⟩ } });
      s.station = .recovering &&
        (match s.recovery with
          | some rcv =>
              (match s.control.queue with
                | pr :: prs =>
                    (match pr with
                      | .control copyB cc .eraseBegin =>
                          (match s.journal.erase with
                            | some ⟨blk, .marking⟩ =>
                                true
                            | _ => false)
                      | _ => false)
                | _ => false)
          | _ => false)) &&
    (let s : State := { { State.reset with station := .held, journal := .blank, recovery := none } with control := { State.reset.control with store := { Store.blank with frames := [], controlA := some (.whole ⟨1, ⟨1, 0, 1, (List.range 32).map fun n => if n = 5 then ⟨.erasing, 7⟩ else ⟨.full, 7⟩⟩⟩) } } };
      s.station = .held &&
        (match erasingBlock (takenCopy s.control.store).1.content.blocks with
          | some blk =>
              true
          | _ => false)) &&
    (let s : State := (let s : State := ending none []; { s with recovery := some ⟨.erasing, none, []⟩, control := { s.control with queue := [.control false ⟨1, ⟨1, 0, 1, blankBlocks⟩⟩ .eraseEnd] } });
      s.station = .recovering &&
        (match s.recovery with
          | some rcv =>
              s.journal.erase = none &&
                (match s.control.queue with
                  | .control copyB cc .eraseEnd :: prs =>
                      true
                  | _ => false)
          | _ => false)) &&
    (let s : State := { { State.reset with station := .held, journal := .blank, recovery := none } with control := { State.reset.control with store := { Store.blank with frames := [(2, .stored ⟨4, .archiveStore, [⟨true, .journal [entry0]⟩], .none⟩)] } } };
      s.station = .held && erasingBlock (takenCopy s.control.store).1.content.blocks = none &&
        framesAtFault s.control.store = false &&
        (match storedFrames s.control.store with
          | [(slt, frm)] =>
              (match frm.writeBacks with
                | [⟨true, .journal [en]⟩] =>
                    tornSlots s.control.store = [] && s.control.queue = [] && s.control.store.controlA = none &&
                      s.control.store.controlB = none && s.control.store.journal = []
                | _ => false)
          | _ => false)) &&
    (let s : State := { { State.reset with station := .held, journal := .blank, recovery := none } with control := { State.reset.control with store := { Store.blank with frames := [(2, .stored ⟨4, .archiveStore, [⟨true, .journal [entry0]⟩], .none⟩)], journal := [(0, .whole entry0)] } } };
      s.station = .held && erasingBlock (takenCopy s.control.store).1.content.blocks = none &&
        framesAtFault s.control.store = false &&
        (match storedFrames s.control.store with
          | [(slt, frm)] =>
              (match frm.writeBacks with
                | [⟨true, .journal [en]⟩] =>
                    tornSlots s.control.store = [] && s.control.queue = [] && s.control.store.controlA = none &&
                      s.control.store.controlB = none && s.control.store.journal = [(0, .whole en)]
                | _ => false)
          | _ => false)) &&
    (let s : State := { { State.reset with station := .held, journal := .blank, recovery := none } with control := { State.reset.control with store := { Store.blank with frames := [(2, .stored ⟨4, .archiveStore, [⟨true, .journal [entry0]⟩], .none⟩)], journal := [(0, .torn)] } } };
      s.station = .held && erasingBlock (takenCopy s.control.store).1.content.blocks = none &&
        framesAtFault s.control.store = false &&
        (match storedFrames s.control.store with
          | [(slt, frm)] =>
              (match frm.writeBacks with
                | [⟨true, .journal [en]⟩] =>
                    tornSlots s.control.store = [] && s.control.queue = [] && s.control.store.controlA = none &&
                      s.control.store.controlB = none && s.control.store.journal = [(0, .torn)]
                | _ => false)
          | _ => false))) = true := by decide +kernel
end

section
/-! Sparse tables: sums and counts after a write, the lowest free place, and reads against membership. -/

namespace Sys2Proof.Machine

variable {α : Type}

/-- Reading after a write, by place. -/
theorem tabGet_tabPut (t : Tab α) (k i : Nat) (v : α) :
    tabGet (tabPut t k v) i = if i = k then some v else tabGet t i := by
  split
  · next h => rw [h, tabGet_tabPut_self]
  · next h => exact tabGet_tabPut_ne t v h

/-- Below every place of a table nothing is listed. -/
theorem tabGet_eq_none_of_lt {t : Tab α} {k : Nat} (h : ∀ p ∈ t, k < p.1) : tabGet t k = none := by
  cases hg : tabGet t k with
  | none => rfl
  | some a => exact absurd (h _ (mem_of_tabGet hg)) (Nat.lt_irrefl k)

/-- A place written is a place of the table. -/
theorem isSome_tabGet_of_mem {t : Tab α} {p : Nat × α} (h : p ∈ t) : (tabGet t p.1).isSome = true := by
  induction t with
  | nil => simp at h
  | cons q t ih =>
    by_cases hq : q.1 = p.1
    · simp [tabGet, hq]
    · have : p ∈ t := (List.mem_cons.1 h).resolve_left fun e => hq (e ▸ rfl)
      simp [tabGet, hq, ih this]

/-- A place reads as something when an entry is listed there. -/
theorem tabGet_isSome_iff {t : Tab α} {k : Nat} : (tabGet t k).isSome = true ↔ ∃ p ∈ t, p.1 = k := by
  constructor
  · intro h
    obtain ⟨a, ha⟩ := Option.isSome_iff_exists.1 h
    exact ⟨(k, a), mem_of_tabGet ha, rfl⟩
  · rintro ⟨p, hp, rfl⟩
    exact isSome_tabGet_of_mem hp

/-- The sum of a figure after a write: what stood in the place goes, what is written comes. -/
theorem tabSum_tabPut (f : α → Nat) {t : Tab α} (h : tabWf t = true) (k : Nat) (v : α) :
    tabSum f (tabPut t k v) + ((tabGet t k).map f).getD 0 = tabSum f t + f v := by
  induction t with
  | nil => simp [tabPut, tabSum]
  | cons p t ih =>
    obtain ⟨i, a⟩ := p
    simp only [tabWf, Bool.and_eq_true, List.all_eq_true, decide_eq_true_eq] at h
    have ih := ih h.2
    simp only [tabSum, tabPut, tabGet] at ih ⊢
    by_cases h1 : k < i
    · have hn : tabGet t k = none := tabGet_eq_none_of_lt fun p hp => Nat.lt_trans h1 (h.1 p hp)
      simp [h1, Nat.ne_of_gt h1, hn]
      omega
    · by_cases h2 : k = i
      · simp [h2]
        omega
      · simp [h1, h2, Ne.symm h2]
        omega

/-- A count is the sum of ones. -/
theorem tabCount_eq_tabSum (f : α → Bool) (t : Tab α) : tabCount f t = tabSum (fun a => if f a then 1 else 0) t := by
  induction t with
  | nil => rfl
  | cons p t ih =>
    simp only [tabCount, tabSum, List.countP_cons, List.map_cons, List.sum_cons] at ih ⊢
    omega

/-- The count after a write. -/
theorem tabCount_tabPut (f : α → Bool) {t : Tab α} (h : tabWf t = true) (k : Nat) (v : α) :
    tabCount f (tabPut t k v) + ((tabGet t k).map fun a => if f a then 1 else 0).getD 0
      = tabCount f t + if f v then 1 else 0 := by
  simp only [tabCount_eq_tabSum, tabSum_tabPut (fun a => if f a then 1 else 0) h k v]

/-- A write raises a count by no more than the entry written counts for. -/
theorem tabCount_tabPut_le (f : α → Bool) (t : Tab α) (k : Nat) (v : α) :
    tabCount f (tabPut t k v) ≤ tabCount f t + if f v then 1 else 0 := by
  induction t with
  | nil => simp [tabPut, tabCount]
  | cons p t ih =>
    obtain ⟨i, a⟩ := p
    simp only [tabCount, tabPut] at ih ⊢
    split
    · simp [List.countP_cons]
    · split
      · simp only [List.countP_cons]
        omega
      · simp only [List.countP_cons] at ih ⊢
        omega

/-- The lowest free place is no higher than the number of places in use. -/
theorem tabFirstFree_le (free : α → Bool) (t : Tab α) (k : Nat) :
    tabFirstFree free t k ≤ k + tabCount (fun a => !free a) t := by
  induction t generalizing k with
  | nil => simp [tabFirstFree]
  | cons p t ih =>
    obtain ⟨i, a⟩ := p
    simp only [tabFirstFree, tabCount, List.countP_cons] at ih ⊢
    by_cases h1 : i < k
    · have := ih k
      simp only [h1, if_true]
      omega
    · by_cases h2 : i = k
      · cases hf : free a
        · have := ih (k + 1)
          simp [h2]
          omega
        · simp [h2]
      · simp [h1, h2]

theorem le_tabFirstFree (free : α → Bool) (t : Tab α) (k : Nat) : k ≤ tabFirstFree free t k := by
  induction t generalizing k with
  | nil => simp [tabFirstFree]
  | cons p t ih =>
    obtain ⟨i, a⟩ := p
    simp only [tabFirstFree]
    split
    · exact ih k
    · split
      · split
        · exact Nat.le_refl k
        · exact Nat.le_trans (Nat.le_succ k) (ih (k + 1))
      · exact Nat.le_refl k

/-- What stands in the lowest free place counts as free. -/
theorem free_of_tabGet_tabFirstFree {free : α → Bool} {t : Tab α} (h : tabWf t = true) {k : Nat} {a : α}
    (ha : tabGet t (tabFirstFree free t k) = some a) : free a = true := by
  induction t generalizing k with
  | nil => simp at ha
  | cons p t ih =>
    obtain ⟨i, b⟩ := p
    simp only [tabWf, Bool.and_eq_true, List.all_eq_true, decide_eq_true_eq] at h
    simp only [tabFirstFree] at ha
    split at ha
    · next hi =>
      have := le_tabFirstFree free t k
      rw [tabGet, if_neg (by omega)] at ha
      exact ih h.2 ha
    · split at ha
      · next hi =>
        split at ha
        · next hf =>
          simp only [tabGet, hi, if_true, Option.some.injEq] at ha
          exact ha ▸ hf
        · have := le_tabFirstFree free t (k + 1)
          rw [tabGet, if_neg (by omega)] at ha
          exact ih h.2 ha
      · next h1 h2 =>
        have hn : tabGet t k = none := tabGet_eq_none_of_lt fun p hp => by have := h.1 p hp; omega
        simp [tabGet, h2, hn] at ha

/-- Membership after a write in canonical form: the written pair, or one that was there at another place. -/
theorem mem_tabPut_iff {t : Tab α} (h : tabWf t = true) {k : Nat} {v : α} {p : Nat × α} :
    p ∈ tabPut t k v ↔ p = (k, v) ∨ (p ∈ t ∧ p.1 ≠ k) := by
  have hw := tabWf_tabPut k v h
  constructor
  · intro hp
    have hg := tabGet_of_mem hw hp
    rw [tabGet_tabPut] at hg
    split at hg
    · next he => exact .inl (Prod.ext he (Option.some.inj hg).symm)
    · next he => exact .inr ⟨mem_of_tabGet hg, he⟩
  · rintro (rfl | ⟨hp, he⟩)
    · exact mem_of_tabGet (tabGet_tabPut_self t k v)
    · refine mem_of_tabGet (k := p.1) ?_
      rw [tabGet_tabPut_ne t v he]
      exact tabGet_of_mem h hp

/-- A write keeps a bound on the places. -/
theorem tabPut_places {t : Tab α} {n k : Nat} (v : α) (h : ∀ p ∈ t, p.1 < n) (hk : k < n) : ∀ p ∈ tabPut t k v, p.1 < n := by
  intro p hp
  rcases mem_tabPut hp with rfl | hp
  · exact hk
  · exact h p hp

/-- A place that reads as something lies below a bound on the places. -/
theorem place_lt_of_tabGet {t : Tab α} {n k : Nat} (h : ∀ p ∈ t, p.1 < n) (hk : (tabGet t k).isSome = true) : k < n := by
  obtain ⟨p, hp, rfl⟩ := tabGet_isSome_iff.1 hk
  exact h p hp

theorem tabDel_places {t : Tab α} {n : Nat} (k : Nat) (h : ∀ p ∈ t, p.1 < n) : ∀ p ∈ tabDel t k, p.1 < n :=
  fun p hp => h p ((tabDel_sublist t k).subset hp)

/-- A figure that no two contents share, read by place. -/
theorem pairwise_ne_iff {β : Type} {t : Tab α} (h : tabWf t = true) (f : α → β) :
    (t.Pairwise fun p q => f p.2 ≠ f q.2) ↔ ∀ p ∈ t, ∀ q ∈ t, f p.2 = f q.2 → p.1 = q.1 := by
  constructor
  · intro hp p hpm q hqm hf
    by_contra hne
    have hs : Std.Symm fun p q : Nat × α => f p.2 ≠ f q.2 := ⟨fun _ _ h => h.symm⟩
    exact hp.forall hpm hqm (fun e => hne (congrArg Prod.fst e)) hf
  · intro hi
    refine (List.Pairwise.and_mem.1 ((tabWf_iff t).1 h)).imp ?_
    rintro p q ⟨hp, hq, hlt⟩ hf
    exact absurd (hi p hp q hq hf) (Nat.ne_of_lt hlt)

end Sys2Proof.Machine
end

section
/-! Clerical work: what an operation may do that leaves the records of custody, the request table and the store alone. -/

namespace Sys2Proof.Machine

/-- The part works: IDLE or TRADING. Frames are accepted in these states alone. -/
def Up (s : State) : Prop := s.station = .idle ∨ s.station = .trading

/-- The frame area in order: the law of the frames, but for the states in which none is pending. -/
structure FrameArea (c : Control) : Prop where
  room : c.frames.length ≤ 16
  numbers : c.frames.Pairwise fun f g => f.frame.number < g.frame.number
  below : ∀ f ∈ c.frames, f.frame.number < c.nextFrame
  slots : c.frames.Pairwise fun f g => f.slot ≠ g.slot

theorem frameLaw_iff {s : State} :
    FrameLaw s ↔ FrameArea s.control ∧ (s.station = .held ∨ s.station = .recovering → s.control.frames = []) :=
  ⟨fun h => ⟨⟨h.room, h.numbers, h.below, h.slots⟩, h.down⟩,
    fun ⟨h, hd⟩ => ⟨h.room, h.numbers, h.below, h.slots, hd⟩⟩

/-- `t` differs from `s` by clerical work: notices, waits, frames accepted, frames offered, slots, tracker entries, rows and the
close view, the journal's bookkeeping. What an observer may rely on, and what of the laws goes through. -/
structure Clerical (s t : State) : Prop where
  same : { t with link := s.link, slots := s.slots, tracker := s.tracker, positions := s.positions, journal := s.journal,
                  notices := s.notices, control := s.control } = s
  link : { t.link with tx := s.link.tx, presenceTimer := s.link.presenceTimer, owed := s.link.owed } = s.link
  store : t.control.store = s.control.store
  lastClosed : lastClosed t = lastClosed s
  openPeriod : openPeriod s ≤ openPeriod t
  tx : s.link.tx <+: t.link.tx
  queue : s.control.queue <+: t.control.queue
  frames : s.control.frames <+: t.control.frames
  txRoom : s.link.tx.length ≤ 16 → t.link.tx.length ≤ 16
  notices : s.notices.queue.length ≤ 32 → t.notices.queue.length ≤ 32
  mask : t.notices.mask = s.notices.mask
  slotsForm : tabWf s.slots = true → tabWf t.slots = true
  entriesForm : tabWf s.tracker.entries = true → tabWf t.tracker.entries = true
  rowsAForm : tabWf s.positions.rowsA = true → tabWf t.positions.rowsA = true
  rowsBForm : tabWf s.positions.rowsB = true → tabWf t.positions.rowsB = true
  area : FrameArea s.control → FrameArea t.control
  slots : ∀ p ∈ t.slots, p.1 < 8 ∨ ∃ q ∈ s.slots, q.1 = p.1
  entries : ∀ p ∈ t.tracker.entries, p.1 < 32 ∨ ∃ q ∈ s.tracker.entries, q.1 = p.1

theorem Clerical.refl (s : State) : Clerical s s where
  same := rfl
  link := rfl
  store := rfl
  lastClosed := rfl
  openPeriod := Nat.le_refl _
  tx := List.prefix_refl _
  queue := List.prefix_refl _
  frames := List.prefix_refl _
  txRoom := id
  notices := id
  mask := rfl
  slotsForm := id
  entriesForm := id
  rowsAForm := id
  rowsBForm := id
  area := id
  slots := fun p h => .inr ⟨p, h, rfl⟩
  entries := fun p h => .inr ⟨p, h, rfl⟩

section
variable {s t : State} (h : Clerical s t)
include h

theorem Clerical.station : t.station = s.station := (congrArg State.station h.same :)
theorem Clerical.fault : t.fault = s.fault := (congrArg State.fault h.same :)
theorem Clerical.conf : t.conf = s.conf := (congrArg State.conf h.same :)
theorem Clerical.ident : t.ident = s.ident := (congrArg State.ident h.same :)
theorem Clerical.custody : t.custody = s.custody := (congrArg State.custody h.same :)
theorem Clerical.requests : t.requests = s.requests := (congrArg State.requests h.same :)
theorem Clerical.cursors : t.cursors = s.cursors := (congrArg State.cursors h.same :)
theorem Clerical.recovery : t.recovery = s.recovery := (congrArg State.recovery h.same :)
theorem Clerical.leftStored : t.leftStored = s.leftStored := (congrArg State.leftStored h.same :)
theorem Clerical.port : t.port = s.port := (congrArg State.port h.same :)
theorem Clerical.pending : t.pending = s.pending := (congrArg State.pending h.same :)
theorem Clerical.rx : t.link.rx = s.link.rx := (congrArg Link.rx h.link :)
theorem Clerical.roster : t.link.roster = s.link.roster := (congrArg Link.roster h.link :)

theorem Clerical.up (hu : Up s) : Up t := by unfold Up at *; rwa [h.station]

theorem Clerical.trans {u : State} (k : Clerical t u) : Clerical s u where
  same := by
    have hs := h.same
    have ks := k.same
    cases s; cases t; cases u
    simp_all
  link := by
    have hs := h.link
    have ks := k.link
    rw [Link.mk.injEq] at hs ks
    cases hl : s.link
    simp_all
  store := k.store.trans h.store
  lastClosed := k.lastClosed.trans h.lastClosed
  openPeriod := h.openPeriod.trans k.openPeriod
  tx := h.tx.trans k.tx
  queue := h.queue.trans k.queue
  frames := h.frames.trans k.frames
  txRoom := k.txRoom ∘ h.txRoom
  notices := k.notices ∘ h.notices
  mask := k.mask.trans h.mask
  slotsForm := k.slotsForm ∘ h.slotsForm
  entriesForm := k.entriesForm ∘ h.entriesForm
  rowsAForm := k.rowsAForm ∘ h.rowsAForm
  rowsBForm := k.rowsBForm ∘ h.rowsBForm
  area := k.area ∘ h.area
  slots := fun p hp => by
    rcases k.slots p hp with hl | ⟨q, hq, hqp⟩
    · exact .inl hl
    · exact hqp ▸ h.slots q hq
  entries := fun p hp => by
    rcases k.entries p hp with hl | ⟨q, hq, hqp⟩
    · exact .inl hl
    · exact hqp ▸ h.entries q hq

end

/-- Clerical work done for each element of a list in turn. -/
theorem Clerical.foldl {α : Type} {f : State → α → State} {s : State} (l : List α)
    (h : ∀ a ∈ l, ∀ t, Clerical s t → Clerical s (f t a)) : Clerical s (l.foldl f s) := by
  suffices ∀ t, Clerical s t → Clerical s (l.foldl f t) from this s (.refl s)
  induction l with
  | nil => exact fun t ht => ht
  | cons a l ih => exact fun t ht => ih (fun b hb => h b (List.mem_cons_of_mem a hb)) _ (h a List.mem_cons_self t ht)

/-! ### Single fields -/

theorem clerical_notices (n : NoticeRec) (s : State) : Clerical s { s with notices := postNotice n s.notices } :=
  { Clerical.refl s with notices := postNotice_length n, mask := postNotice_mask n _ }

theorem post_clerical (k : NoticeKind) (x : Subject) (c : Nat) (s : State) : Clerical s (post k x c s) :=
  clerical_notices ⟨k, x, c⟩ s

theorem clerical_waits (ws : List Wait) (s : State) : Clerical s { s with control := { s.control with waits := ws } } :=
  { Clerical.refl s with area := fun h => { h with } }

theorem addWait_clerical (ns : List Nat) (i : HeldItem) (s : State) : Clerical s (addWait ns i s) := clerical_waits _ s

theorem clerical_journal (j : Journal) (s : State) : Clerical s { s with journal := j } := { Clerical.refl s with }

theorem clerical_presenceTimer (ms : Nat) (s : State) :
    Clerical s { s with link := { s.link with presenceTimer := ms } } := { Clerical.refl s with }

theorem clerical_owed (cs : List Continuation) (s : State) : Clerical s { s with link := { s.link with owed := cs } } :=
  { Clerical.refl s with }

theorem txRoom_iff {s : State} : txRoom s = true ↔ s.link.tx.length < 16 := decide_eq_true_iff

/-- A frame joins a transmit queue that has room (R47). -/
theorem txPush_clerical (f : TxFrame) {s : State} (room : txRoom s = true) : Clerical s (txPush f s) :=
  { Clerical.refl s with
    tx := List.prefix_append _ _
    txRoom := fun _ => by simpa [txPush] using txRoom_iff.1 room }

/-- A slot is rewritten that is a till slot, or was one already when the work began (R64). -/
theorem Clerical.putSlot {s t : State} (h : Clerical s t) {n : Nat} (sl : Slot)
    (place : n < 8 ∨ ∃ q ∈ s.slots, q.1 = n) : Clerical s (putSlot n sl t) :=
  { h with
    slotsForm := fun hs => tabWf_tabPut n sl (h.slotsForm hs)
    slots := fun p hp => by
      rcases mem_tabPut hp with rfl | hp
      · exact place
      · exact h.slots p hp }

/-- A tracker place is rewritten that exists, or was taken already when the work began (R66). -/
theorem Clerical.putTrack {s t : State} (h : Clerical s t) {n : Nat} (tr : Track)
    (place : n < 32 ∨ ∃ q ∈ s.tracker.entries, q.1 = n) : Clerical s (putTrack n tr t) :=
  { h with
    entriesForm := fun hs => tabWf_tabPut n tr (h.entriesForm hs)
    entries := fun p hp => by
      rcases mem_tabPut hp with rfl | hp
      · exact place
      · exact h.entries p hp }

theorem putSlot_clerical {n : Nat} (sl : Slot) {s : State} (place : n < 8 ∨ ∃ q ∈ s.slots, q.1 = n) :
    Clerical s (putSlot n sl s) := (Clerical.refl s).putSlot sl place

theorem putTrack_clerical {n : Nat} (tr : Track) {s : State} (place : n < 32 ∨ ∃ q ∈ s.tracker.entries, q.1 = n) :
    Clerical s (putTrack n tr s) := (Clerical.refl s).putTrack tr place

theorem delTrack_clerical (n : Nat) (s : State) : Clerical s (delTrack n s) :=
  { Clerical.refl s with
    entriesForm := tabWf_tabDel n
    entries := fun p hp => .inr ⟨p, (tabDel_sublist _ _).subset hp, rfl⟩ }

theorem clerical_counter (n : Nat) (s : State) : Clerical s { s with tracker := { s.tracker with counter := n } } :=
  { Clerical.refl s with }

theorem putRow_clerical (sd : Side) (j : Nat) (r : Row) (s : State) : Clerical s (putRow sd j r s) :=
  match sd with
  | .a => { Clerical.refl s with rowsAForm := tabWf_tabPut j r }
  | .b => { Clerical.refl s with rowsBForm := tabWf_tabPut j r }

theorem setView_clerical (v : CloseView) (s : State) : Clerical s (setView v s) := { Clerical.refl s with }

theorem clerical_target (p : Nat) (s : State) : Clerical s { s with positions := { s.positions with target := p } } :=
  { Clerical.refl s with }

/-! ### Accepting a frame (R161, R165) -/

theorem frameFree_iff {s : State} : frameFree s = true ↔ s.control.frames.length < 16 := decide_eq_true_iff

/-- While fewer than 16 frames are pending, the slot a new one takes is held by none of them. -/
theorem freeFrameSlot_fresh {fs : List PendingFrame} (h : fs.length < 16) : ∀ f ∈ fs, f.slot ≠ freeFrameSlot fs := by
  have hex : ∃ n ∈ List.range 16, n ∉ fs.map (·.slot) := by
    by_contra hno
    push Not at hno
    have := (List.nodup_range.subperm fun n hn => hno n hn).length_le
    simp at this
    omega
  obtain ⟨n, hn, hfree⟩ := hex
  have hsome : ((List.range frameSlots).find? fun n => !fs.any fun f => f.slot = n).isSome = true := by
    rw [List.find?_isSome]
    exact ⟨n, hn, by simpa using hfree⟩
  obtain ⟨m, hm⟩ := Option.isSome_iff_exists.1 hsome
  have hno := List.find?_some hm
  intro f hf
  simp only [freeFrameSlot, hm, Option.getD_some]
  simp only [Bool.not_eq_true', List.any_eq_false, decide_eq_true_eq] at hno
  exact hno f hf

theorem acceptFrame_clerical (fm : FrameFormat) (ts : List Target) (ps : List Nat) (c : Continuation) (s : State) :
    Clerical s (acceptFrame fm ts ps c s) := by
  unfold acceptFrame
  split
  · next room =>
    have room := frameFree_iff.1 room
    exact { Clerical.refl s with
      queue := by simp [List.append_assoc]
      frames := List.prefix_append _ _
      area := fun h =>
        { room := by simpa using room
          numbers := List.pairwise_append.2 ⟨h.numbers, List.pairwise_singleton _ _, fun f hf g hg => by
            rw [List.mem_singleton.1 hg]
            exact h.below f hf⟩
          below := fun f hf => by
            rcases List.mem_append.1 hf with hf | hf
            · exact Nat.lt_succ_of_lt (h.below f hf)
            · rw [List.mem_singleton.1 hf]
              exact Nat.lt_succ_self _
          slots := List.pairwise_append.2 ⟨h.slots, List.pairwise_singleton _ _, fun f hf g hg => by
            rw [List.mem_singleton.1 hg]
            exact freeFrameSlot_fresh room f hf⟩ } }
  · exact .refl s

theorem claim_clerical (ds : List Draft) (s : State) : Clerical s (claim ds s).2 := by
  unfold claim
  dsimp only
  split
  · exact (clerical_journal _ s).trans (post_clerical _ _ _ _)
  · exact clerical_journal _ s

end Sys2Proof.Machine
end

section
/-! The operations that do clerical work, one lemma each, in the order of the model's definitions. -/

namespace Sys2Proof.Machine

/-! ### The link -/

theorem offerPresence_clerical (s : State) : Clerical s (offerPresence s) := by
  unfold offerPresence
  dsimp only
  split
  · split
    · exact clerical_presenceTimer _ s
    · split
      · next room => exact (clerical_presenceTimer _ s).trans (txPush_clerical _ room)
      · exact clerical_presenceTimer _ s
  · exact .refl s

theorem offerAnswer_clerical (d n : Nat) (p : Payload) (s : State) : Clerical s (offerAnswer d n p s) := by
  unfold offerAnswer
  split
  · next h => exact txPush_clerical _ h.2
  · exact .refl s

/-- What `findTrack` finds is listed. -/
theorem findTrack_mem {s : State} {home n p : Nat} {t : Track} (h : findTrack s home n = some (p, t)) :
    ∃ q ∈ s.tracker.entries, q.1 = p := ⟨(p, t), (tabFind_spec h).1, rfl⟩

theorem tellOwner_clerical (f : TxFrame) (s : State) : Clerical s (tellOwner f s) := by
  unfold tellOwner
  split
  · split
    · next h =>
      split
      · exact .refl s
      · exact putTrack_clerical _ (.inr (findTrack_mem h))
    · exact .refl s
  · exact .refl s

/-- The request of an entry is offered that was in its place when the work began. -/
theorem Clerical.offerRequest {s t : State} (h : Clerical s t) {p : Nat} (tr : Track)
    (place : p < 32 ∨ ∃ q ∈ s.tracker.entries, q.1 = p) : Clerical s (offerRequest p tr t) := by
  unfold Machine.offerRequest
  dsimp only
  split
  · next room => exact (h.trans (txPush_clerical _ room)).putTrack _ place
  · exact h.putTrack _ place

theorem offerRequestOf_clerical (home n : Nat) (s : State) : Clerical s (offerRequestOf home n s) := by
  unfold offerRequestOf
  split
  · next h =>
    split
    · exact .refl s
    · exact (Clerical.refl s).offerRequest _ (.inr (findTrack_mem h))
  · exact .refl s

/-! ### Rows and the close -/

theorem book_clerical (p j : Nat) (ch : Row → Row) (s : State) : Clerical s (book p j ch s).1 := by
  unfold book
  split
  · exact putRow_clerical _ _ _ s
  · exact .refl s

theorem setCloseRow_clerical (j : Nat) (c : CloseRow) (s : State) : Clerical s (setCloseRow j c s) := by
  unfold setCloseRow
  split
  · exact setView_clerical _ s
  · exact .refl s

theorem placePosition_clerical (j p : Nat) (s : State) : Clerical s (placePosition j p s) := by
  unfold placePosition
  dsimp only
  split
  · next h => exact txPush_clerical _ h.2.2
  · exact .refl s

theorem callSend_clerical (j : Nat) (s : State) : Clerical s (callSend j s) := by
  rcases callSend_cases j s with ⟨-, h⟩ | ⟨-, -, h⟩ | ⟨-, -, h⟩ <;> rw [h]
  · exact clerical_waits _ s
  · exact addWait_clerical _ _ s
  · exact placePosition_clerical _ _ s

theorem callSendPresent_clerical (j : Nat) (s : State) : Clerical s (callSendPresent j s) := by
  unfold callSendPresent
  split
  · exact callSend_clerical j s
  · exact .refl s

theorem postAfter_clerical (ns : List Nat) (n : NoticeRec) (s : State) : Clerical s (postAfter ns n s) := by
  unfold postAfter
  split
  · exact post_clerical _ _ _ s
  · exact addWait_clerical _ _ s

theorem leavePending_clerical (j : Nat) (s : State) : Clerical s (leavePending j s) := by
  unfold leavePending
  dsimp only
  split
  · split
    · exact (setCloseRow_clerical _ _ s).trans (callSendPresent_clerical _ _)
    · exact ((setCloseRow_clerical _ _ s).trans (postAfter_clerical _ _ _)).trans (callSendPresent_clerical _ _)
  · split
    · exact setCloseRow_clerical _ _ s
    · exact (setCloseRow_clerical _ _ s).trans (callSendPresent_clerical _ _)

theorem examineRow_clerical (j : Nat) (s : State) : Clerical s (examineRow j s) := by
  unfold examineRow
  split
  · exact .refl s
  · split
    · exact .refl s
    · split
      · split
        · exact setView_clerical _ s
        · exact .refl s
      · dsimp only
        split
        · exact .refl s
        · split
          · split
            · exact leavePending_clerical j s
            · exact setCloseRow_clerical _ _ s
          · exact .refl s

theorem examineRows_clerical (s : State) : Clerical s (examineRows s) :=
  Clerical.foldl _ fun j _ t h => h.trans (examineRow_clerical j t)

theorem runCompletion_clerical (s : State) (v : CloseView) : Clerical s (runCompletion s v) :=
  ((claim_clerical _ s).trans (acceptFrame_clerical _ _ _ _ _)).trans (setView_clerical _ _)

theorem examineCompletion_clerical (s : State) : Clerical s (examineCompletion s) := by
  unfold examineCompletion
  split
  · split
    · exact runCompletion_clerical s _
    · exact .refl s
  · exact .refl s

theorem reexamine_clerical (j : Nat) (s : State) : Clerical s (reexamine j s) :=
  (examineRow_clerical j s).trans (examineCompletion_clerical _)

theorem rosterDown_clerical (j : Nat) (s : State) : Clerical s (rosterDown j s) := by
  unfold rosterDown
  split
  · split
    · exact (setCloseRow_clerical _ _ s).trans (examineCompletion_clerical _)
    · exact .refl s
  · exact .refl s

/-- The generation record and the view as a close begins (R97). -/
theorem clerical_closing (v : Option CloseView) (s : State) :
    Clerical s { s with positions := { s.positions with
      gen := { s.positions.gen with
        openSide := otherSide s.positions.gen.openSide, openPeriod := openPeriod s + 1, closing := true }
      view := v } } :=
  { Clerical.refl s with openPeriod := Nat.le_succ _ }

theorem beginClose_clerical (s : State) : Clerical s (beginClose s) := by
  unfold beginClose
  exact (((clerical_closing _ s).trans (acceptFrame_clerical _ _ _ _ _)).trans (examineRows_clerical _)).trans
    (examineCompletion_clerical _)

theorem examineBegin_clerical (s : State) : Clerical s (examineBegin s) := by
  unfold examineBegin
  split
  · exact beginClose_clerical s
  · exact .refl s

theorem raiseTarget_clerical (p : Nat) (s : State) : Clerical s (raiseTarget p s) := by
  unfold raiseTarget
  split
  · exact ((clerical_target p s).trans (offerPresence_clerical _)).trans (examineBegin_clerical _)
  · exact .refl s

theorem raiseByStamp_clerical (ext : Int) (s : State) : Clerical s (raiseByStamp ext s) := by
  unfold raiseByStamp
  split
  · exact raiseTarget_clerical _ s
  · exact .refl s

/-! ### Slots -/

theorem slotLeft_clerical (sl : Slot) (s : State) : Clerical s (slotLeft sl s) := by
  unfold slotLeft
  split
  · exact reexamine_clerical _ s
  · exact .refl s

/-- What a till slot reads as is listed. -/
theorem getSlot_mem {s : State} {n : Nat} {sl : Slot} (h : getSlot s n = some sl) : ∃ q ∈ s.slots, q.1 = n :=
  ⟨(n, sl), mem_of_tabGet h, rfl⟩

theorem Clerical.writeOutcome {s t : State} (h : Clerical s t) {n : Nat} (sl : Slot) (o : OutcomeRec)
    (place : n < 8 ∨ ∃ q ∈ s.slots, q.1 = n) : Clerical s (writeOutcome n sl o t) :=
  (h.putSlot _ place).trans (post_clerical _ _ _ _)

theorem setOutcome_clerical (n : Nat) (o : OutcomeRec) (s : State) : Clerical s (setOutcome n o s) := by
  unfold setOutcome
  split
  · next h => exact ((Clerical.refl s).writeOutcome _ _ (.inr (getSlot_mem h))).trans (slotLeft_clerical _ _)
  · exact .refl s

theorem enterHeld_clerical (n : Nat) (h : HoldRef) (o : OutcomeRec) (s : State) : Clerical s (enterHeld n h o s) := by
  unfold enterHeld
  split
  · next h => exact (putSlot_clerical _ (.inr (getSlot_mem h))).trans (post_clerical _ _ _ _)
  · exact .refl s

theorem cutLink_clerical (x : Option Nat) (s : State) : Clerical s (cutLink x s) := by
  unfold cutLink
  split
  · split
    · next h => exact putSlot_clerical _ (.inr (getSlot_mem h))
    · exact .refl s
  · exact .refl s

theorem setLink_clerical (x : Option Nat) (home n : Nat) (s : State) : Clerical s (setLink x home n s) := by
  unfold setLink
  split
  · split
    · next h => exact putSlot_clerical _ (.inr (getSlot_mem h))
    · exact .refl s
  · exact .refl s

theorem linkedOutcome_clerical (x : Option Nat) (f : Slot → OutcomeRec) (s : State) :
    Clerical s (linkedOutcome x f s) := by
  unfold linkedOutcome
  split
  · split
    · exact setOutcome_clerical _ _ s
    · exact .refl s
  · exact .refl s

/-! ### Tracker entries and waits -/

theorem offerOrWait_clerical (home n : Nat) (s : State) : Clerical s (offerOrWait home n s) := by
  unfold offerOrWait
  split
  · exact offerRequestOf_clerical _ _ s
  · exact addWait_clerical _ _ s

theorem dropTrack_clerical (p : Nat) (t : Track) (s : State) : Clerical s (dropTrack p t s) :=
  (delTrack_clerical p s).trans (reexamine_clerical _ _)

theorem moveInDoubt_clerical {p : Nat} (t : Track) {s : State}
    (place : p < 32 ∨ ∃ q ∈ s.tracker.entries, q.1 = p) : Clerical s (moveInDoubt p t s) := by
  unfold moveInDoubt
  dsimp only
  split
  · exact ((putTrack_clerical _ place).trans (cutLink_clerical _ _)).trans (acceptFrame_clerical _ _ _ _ _)
  · exact putTrack_clerical _ place

theorem releaseItem_clerical (i : HeldItem) (s : State) : Clerical s (releaseItem i s) := by
  cases i with
  | answer dst n p => exact offerAnswer_clerical _ _ _ s
  | slotOutcome n o => exact setOutcome_clerical _ _ s
  | request home n => exact offerRequestOf_clerical _ _ s
  | positionSend j p => exact placePosition_clerical _ _ s
  | notice n => exact post_clerical _ _ _ s

theorem releaseWaits_clerical (n : Nat) (s : State) : Clerical s (releaseWaits n s) :=
  (clerical_waits _ s).trans (Clerical.foldl _ fun w _ t h => h.trans (releaseItem_clerical w.item t))

theorem answerAfter_clerical (ns : List Nat) (d n : Nat) (p : Payload) (s : State) :
    Clerical s (answerAfter ns d n p s) := by
  unfold answerAfter
  split
  · exact offerAnswer_clerical _ _ _ s
  · exact addWait_clerical _ _ s

theorem outcomeAfter_clerical (ns : List Nat) (n : Nat) (o : OutcomeRec) (s : State) :
    Clerical s (outcomeAfter ns n o s) := by
  unfold outcomeAfter
  split
  · exact setOutcome_clerical _ _ s
  · exact addWait_clerical _ _ s

/-! ### START (R170) -/

theorem offerOwed_clerical (c : Continuation) (s : State) : Clerical s (offerOwed c s) := by
  cases c with
  | answer d n p => exact offerAnswer_clerical _ _ _ s
  | request home n stamp p => exact offerRequestOf_clerical _ _ s
  | none => exact .refl s
  | slotOutcome n r h o => exact .refl s
  | notice n => exact .refl s

theorem placeOwed_clerical (cs : List Continuation) (s : State) : Clerical s (placeOwed cs s) := by
  induction cs generalizing s with
  | nil => exact clerical_owed _ s
  | cons c cs ih =>
    unfold placeOwed
    split
    · exact ih s
    · split
      · exact (offerOwed_clerical c s).trans (ih _)
      · exact clerical_owed _ s

theorem offerKept_clerical (owed : List Continuation) (s : State) : Clerical s (offerKept owed s) :=
  Clerical.foldl _ fun p hp t h => by
    split
    · exact h.offerRequest _ (.inr ⟨p, hp, rfl⟩)
    · exact h

theorem resumeClose_clerical (s : State) : Clerical s (resumeClose s) := by
  unfold resumeClose
  split
  · exact ((setView_clerical _ s).trans (examineRows_clerical _)).trans (examineCompletion_clerical _)
  · exact .refl s

/-! ### ARCHIVE_ACK (R155) -/

theorem runArchiveAck_clerical (i : Nat) (s : State) : Clerical s (runArchiveAck i s) :=
  (clerical_journal _ s).trans (acceptFrame_clerical _ _ _ _ _)

/-! ### Answers (R75 to R82) -/

theorem takeGrant_clerical (p : Nat) (tr : Track) (how : HoldAnswer) (g tag : Nat) (s : State) :
    Clerical s (takeGrant p tr how g tag s) := by
  unfold takeGrant
  refine Clerical.trans ?_ (reexamine_clerical _ _)
  split
  · split
    · exact (delTrack_clerical p s).trans (enterHeld_clerical _ _ _ _)
    · exact delTrack_clerical p s
  · exact delTrack_clerical p s

theorem takeDecline_clerical (p : Nat) (tr : Track) (r : Option Reason) (s : State) :
    Clerical s (takeDecline p tr r s) :=
  ((delTrack_clerical p s).trans (linkedOutcome_clerical _ _ _)).trans (reexamine_clerical _ _)

theorem takeReleased_clerical (p : Nat) (tr : Track) (s : State) : Clerical s (takeReleased p tr s) :=
  ((delTrack_clerical p s).trans (linkedOutcome_clerical _ _ _)).trans (reexamine_clerical _ _)

theorem giveUp_clerical (code : OutcomeCode) (p : Nat) (tr : Track) (s : State) : Clerical s (giveUp code p tr s) :=
  ((delTrack_clerical p s).trans (linkedOutcome_clerical _ _ _)).trans (reexamine_clerical _ _)

theorem bookAnswer_clerical (p : Nat) (tr : Track) (ch : Row → Row) (d : Draft) (o : CardId → OutcomeRec) (s : State) :
    Clerical s (bookAnswer p tr ch d o s) :=
  (((((delTrack_clerical p s).trans (cutLink_clerical _ _)).trans (book_clerical _ _ _ _)).trans
    (claim_clerical _ _)).trans (acceptFrame_clerical _ _ _ _ _)).trans (reexamine_clerical _ _)

theorem refuseAnswer_clerical (p : Nat) (tr : Track) (o : CardId → OutcomeRec) (s : State) :
    Clerical s (refuseAnswer p tr o s) :=
  (((delTrack_clerical p s).trans (cutLink_clerical _ _)).trans (acceptFrame_clerical _ _ _ _ _)).trans
    (reexamine_clerical _ _)

theorem takeSettleAns_clerical (f : LinkFrame) (ext : Int) (s : State) : Clerical s (takeSettleAns f ext s) := by
  unfold takeSettleAns
  split
  · split
    · exact .refl s
    · split
      · exact bookAnswer_clerical _ _ _ _ _ s
      · exact refuseAnswer_clerical _ _ _ s
  · exact takeReleased_clerical _ _ s
  · exact .refl s

theorem takeCreditAns_clerical (f : LinkFrame) (ext : Int) (s : State) : Clerical s (takeCreditAns f ext s) := by
  unfold takeCreditAns
  split
  · split
    · exact .refl s
    · split
      · exact bookAnswer_clerical _ _ _ _ _ s
      · exact refuseAnswer_clerical _ _ _ s
      · exact .refl s
  · exact .refl s

theorem takeStatusAns_clerical (f : LinkFrame) (ext : Int) (s : State) : Clerical s (takeStatusAns f ext s) := by
  unfold takeStatusAns
  split
  · exact ((delTrack_clerical _ s).trans (linkedOutcome_clerical _ _ _)).trans (reexamine_clerical _ _)
  · exact .refl s

/-! ### PRESENCE and POSITION (R61, R83, R102, R103) -/

theorem presenceRaises_clerical (p g : Nat) (s : State) : Clerical s (presenceRaises p g s) :=
  (raiseTarget_clerical _ s).trans (raiseTarget_clerical _ _)

theorem resendInDoubt_clerical (j : Nat) (s : State) : Clerical s (resendInDoubt j s) :=
  Clerical.foldl _ fun p hp t h => by
    split
    · exact h.offerRequest _ (.inr ⟨p, hp, rfl⟩)
    · exact h

theorem resendPosition_clerical (j p : Nat) (c : Bool) (s : State) : Clerical s (resendPosition j p c s) := by
  unfold resendPosition
  split
  · split
    · exact callSend_clerical j s
    · exact .refl s
  · exact .refl s

theorem storeMirror_clerical (j : Nat) (c : CloseRow) (f : Figures) (s : State) : Clerical s (storeMirror j c f s) :=
  ((putRow_clerical _ _ _ s).trans (setCloseRow_clerical _ _ _)).trans (acceptFrame_clerical _ _ _ _ _)

theorem replyPosition_clerical (j : Nat) (b : Bool) (c : CloseRow) (s : State) : Clerical s (replyPosition j b c s) := by
  unfold replyPosition
  split
  · exact callSend_clerical j s
  · exact .refl s

theorem takePosition_clerical (f : LinkFrame) (ext : Int) (s : State) : Clerical s (takePosition f ext s) := by
  unfold takePosition
  split
  · split
    · exact .refl s
    · dsimp only
      split
      · exact replyPosition_clerical _ _ _ s
      · split
        · split
          · exact ((storeMirror_clerical _ _ _ s).trans (replyPosition_clerical _ _ _ _)).trans
              (examineCompletion_clerical _)
          · exact .refl s
        · exact replyPosition_clerical _ _ _ s
  · exact .refl s

/-! ### Timers (R68, R71, R76, R107) -/

theorem exhaust_clerical {p : Nat} (tr : Track) {s : State} (place : p < 32 ∨ ∃ q ∈ s.tracker.entries, q.1 = p) :
    Clerical s (exhaust p tr s) := by
  unfold exhaust
  split
  · exact giveUp_clerical _ _ _ s
  · exact giveUp_clerical _ _ _ s
  · exact giveUp_clerical _ _ _ s
  · exact moveInDoubt_clerical _ place
  · exact moveInDoubt_clerical _ place

theorem waitOver_clerical {p : Nat} (tr : Track) {s : State} (place : p < 32 ∨ ∃ q ∈ s.tracker.entries, q.1 = p) :
    Clerical s (waitOver p tr s) := by
  unfold waitOver
  split
  · exact putTrack_clerical _ place
  · split
    · exact (Clerical.refl s).offerRequest _ place
    · exact exhaust_clerical _ place

theorem silenceRows_clerical (s : State) : Clerical s (silenceRows s) :=
  Clerical.foldl _ fun j _ t h => by
    split
    · dsimp only
      split
      · exact h
      · exact h.trans (setCloseRow_clerical _ _ t)
    · exact h

theorem lapseSlots_clerical (p : Nat) (s : State) : Clerical s (lapseSlots p s) :=
  Clerical.foldl _ fun e he t h => by
    split
    · split
      · exact h.writeOutcome _ _ (.inr ⟨e, he, rfl⟩)
      · exact h
    · exact h

theorem deadlineOutcome_clerical (code : OutcomeCode) (x : Option Nat) (s : State) :
    Clerical s (deadlineOutcome code x s) := by
  unfold deadlineOutcome
  split
  · split
    · next h => exact (Clerical.refl s).writeOutcome _ _ (.inr (getSlot_mem h))
    · exact .refl s
  · exact .refl s

/-- The deadline's work on an entry that was in its place when the work began (R86). -/
theorem Clerical.deadlineTrack {s t : State} (h : Clerical s t) {p : Nat} (tr : Track)
    (place : p < 32 ∨ ∃ q ∈ s.tracker.entries, q.1 = p) : Clerical s (deadlineTrack p tr t) := by
  have dropped : ∀ code, Clerical s (deadlineOutcome code tr.slot (delTrack p t)) := fun code =>
    (h.trans (delTrack_clerical p t)).trans (deadlineOutcome_clerical code _ _)
  have orphaned : ∀ code, Clerical s
      (if tr.orphan.isSome then t
       else
        post .orphaned (.work (some tr.data.reqNo) (cardId tr.data.home tr.data.serial)) code
          (deadlineOutcome .inDoubt tr.slot
            (Machine.putTrack p { tr with orphan := some tr.data.state, slot := none, timer := none } t))) := by
    intro code
    split
    · exact h
    · exact ((h.putTrack _ place).trans (deadlineOutcome_clerical _ _ _)).trans (post_clerical _ _ _ _)
  unfold Machine.deadlineTrack
  cases tr.data.kind with
  | hold => exact dropped _
  | status a => exact dropped _
  | release => exact dropped _
  | capture => exact orphaned _
  | credit k => exact orphaned _

theorem deadlineTracks_clerical (p : Nat) (s : State) : Clerical s (deadlineTracks p s) :=
  Clerical.foldl _ fun e he t h => by
    split
    · exact h.deadlineTrack _ (.inr ⟨e, he, rfl⟩)
    · exact h

theorem freeSlot_clerical (n : Nat) (s : State) : Clerical s (freeSlot n s) :=
  { Clerical.refl s with
    slotsForm := tabWf_tabDel n
    slots := fun p hp => .inr ⟨p, (tabDel_sublist _ _).subset hp, rfl⟩ }

theorem deadlineSpent_clerical (s : State) : Clerical s (deadlineSpent s) := by
  unfold deadlineSpent
  split
  · exact setView_clerical _ s
  · exact .refl s

end Sys2Proof.Machine
end

section
/-! Lawful changes: what every command but a few may do, at any station state, and the laws of the part that go through. -/

namespace Sys2Proof.Machine

/-- `t` is reached from `s` by changes that every law of the part survives, that leave the store alone, and the records while
HALTED. `money` says that the liability may change. -/
structure Lawful (money : Prop) (s t : State) : Prop where
  station : t.station = s.station
  store : t.control.store = s.control.store
  lastClosed : lastClosed t = lastClosed s
  halted : s.station = .halted → t.fault = s.fault ∧ t.leftStored = s.leftStored ∧ sameRecords s t
  liability : ¬ money → t.custody.liability = s.custody.liability
  bounded : Bounded s → Bounded t
  tables : TablesLaw s → TablesLaw t
  area : FrameLaw s → FrameLaw t
  room : RoomLaw s → RoomLaw t
  books : CustodyLaw s → CustodyLaw t

theorem Lawful.refl {money : Prop} (s : State) : Lawful money s s where
  station := rfl
  store := rfl
  lastClosed := rfl
  halted := fun _ => ⟨rfl, rfl, rfl, rfl, rfl, rfl, rfl, rfl, rfl⟩
  liability := fun _ => rfl
  bounded := id
  tables := id
  area := id
  room := id
  books := id

section
variable {money : Prop} {s t u : State}

theorem Lawful.up (h : Lawful money s t) (hu : Up s) : Up t := by unfold Up at *; rwa [h.station]

theorem Lawful.trans (h : Lawful money s t) (k : Lawful money t u) : Lawful money s u where
  station := k.station.trans h.station
  store := k.store.trans h.store
  lastClosed := k.lastClosed.trans h.lastClosed
  halted := fun hh => by
    obtain ⟨h1, h2, h3, h4, h5, h6, h7, h8, h9⟩ := h.halted hh
    obtain ⟨k1, k2, k3, k4, k5, k6, k7, k8, k9⟩ := k.halted (h.station.trans hh)
    exact ⟨k1.trans h1, k2.trans h2, k3.trans h3, k4.trans h4, k5.trans h5, k6.trans h6, k7.trans h7, k8.trans h8,
      k9.trans h9⟩
  liability := fun hm => (k.liability hm).trans (h.liability hm)
  bounded := k.bounded ∘ h.bounded
  tables := k.tables ∘ h.tables
  area := k.area ∘ h.area
  room := k.room ∘ h.room
  books := k.books ∘ h.books

/-- What may be done where the liability stays may be done where it need not. -/
theorem Lawful.weaken (h : Lawful False s t) : Lawful money s t := { h with liability := fun _ => h.liability id }

theorem Up.not_halted (h : Up s) : s.station ≠ .halted := by rcases h with h | h <;> rw [h] <;> decide

theorem Up.not_down (h : Up s) : ¬ (s.station = .held ∨ s.station = .recovering) := by
  rcases h with h | h <;> rw [h] <;> decide

theorem up_of_trading (h : s.station = .trading) : Up s := .inr h

/-- The laws of room depend on the places, the OPEN holds counted and the last closed period. -/
theorem Clerical.room (h : Clerical s t) (hr : RoomLaw s) : RoomLaw t where
  cards := by rw [h.custody]; exact hr.cards
  grants := by rw [h.requests]; exact hr.grants
  opens := by
    unfold openHolds
    rw [h.requests, h.lastClosed]
    exact hr.opens
  slots := fun p hp => by
    rcases h.slots p hp with hl | ⟨q, hq, hqp⟩
    · exact hl
    · exact hqp ▸ hr.slots q hq
  entries := fun p hp => by
    rcases h.entries p hp with hl | ⟨q, hq, hqp⟩
    · exact hl
    · exact hqp ▸ hr.entries q hq

/-- The custody law reads the records, the identity, the ceiling, the station state and the two periods. -/
theorem CustodyLaw.congr (hc : CustodyLaw s) (station : t.station = s.station) (custody : t.custody = s.custody)
    (grants : t.requests.grants = s.requests.grants) (ident : t.ident = s.ident) (conf : t.conf = s.conf)
    (closed : Machine.lastClosed t = Machine.lastClosed s) (period : Machine.openPeriod s ≤ Machine.openPeriod t) :
    CustodyLaw t where
  cardsForm := by rw [custody]; exact hc.cardsForm
  grantsForm := by rw [grants]; exact hc.grantsForm
  liability := by rw [custody]; exact hc.liability
  held := by
    unfold heldOn holdsOn
    rw [custody, grants]
    exact hc.held
  inCeiling := by
    unfold ceiling
    rw [station, custody, conf]
    exact hc.inCeiling
  given := by rw [custody, ident]; exact hc.given
  distinct := by rw [custody]; exact hc.distinct
  standing := by rw [custody, grants, closed]; exact hc.standing
  periods := by
    rw [station, closed]
    exact fun h => Nat.lt_of_lt_of_le (hc.periods h) period

/-- Clerical work of a part that works is lawful. -/
theorem Clerical.lawful (h : Clerical s t) (hu : Up s) : Lawful money s t where
  station := h.station
  store := h.store
  lastClosed := h.lastClosed
  halted := fun hh => absurd hh hu.not_halted
  liability := fun _ => by rw [h.custody]
  bounded := fun hb =>
    { tx := h.txRoom hb.tx
      rx := by rw [h.rx]; exact hb.rx
      notices := h.notices hb.notices
      mask := by rw [h.mask]; exact hb.mask }
  tables := fun ht =>
    { store := by rw [h.store]; exact ht.store
      cards := by rw [h.custody]; exact ht.cards
      locks := by rw [h.custody]; exact ht.locks
      grants := by rw [h.requests]; exact ht.grants
      lives := by rw [h.requests]; exact ht.lives
      entries := h.entriesForm ht.entries
      slots := h.slotsForm ht.slots
      rowsA := h.rowsAForm ht.rowsA
      rowsB := h.rowsBForm ht.rowsB
      roster := by rw [h.roster]; exact ht.roster
      cursors := by rw [h.cursors]; exact ht.cursors }
  area := fun hf => frameLaw_iff.2 ⟨h.area (frameLaw_iff.1 hf).1, fun hd => absurd hd (h.up hu).not_down⟩
  room := h.room
  books := fun hc =>
    hc.congr h.station h.custody (by rw [h.requests]) h.ident h.conf h.lastClosed h.openPeriod

end

/-- `t` differs from `s` in the port, the link, the notices, the cursors or the bookkeeping of the store's scheduler: what may
change at any station state. -/
structure Outer (s t : State) : Prop where
  same : { t with link := s.link, journal := s.journal, cursors := s.cursors, notices := s.notices, control := s.control,
                  recovery := s.recovery, port := s.port, pending := s.pending } = s
  control : { t.control with queue := s.control.queue, waits := s.control.waits } = s.control
  tx : s.link.tx.length ≤ 16 → t.link.tx.length ≤ 16
  rx : s.link.rx.length ≤ 16 → t.link.rx.length ≤ 16
  roster : tabWf s.link.roster = true → tabWf t.link.roster = true
  notices : s.notices.queue.length ≤ 32 → t.notices.queue.length ≤ 32
  mask : s.notices.mask ≤ 7 → t.notices.mask ≤ 7
  cursors : tabWf s.cursors.table = true → tabWf t.cursors.table = true

theorem Outer.refl (s : State) : Outer s s := ⟨rfl, rfl, id, id, id, id, id, id⟩

theorem Outer.lawful {money : Prop} {s t : State} (h : Outer s t) : Lawful money s t := by
  have station : t.station = s.station := (congrArg State.station h.same :)
  have fault : t.fault = s.fault := (congrArg State.fault h.same :)
  have conf : t.conf = s.conf := (congrArg State.conf h.same :)
  have ident : t.ident = s.ident := (congrArg State.ident h.same :)
  have custody : t.custody = s.custody := (congrArg State.custody h.same :)
  have requests : t.requests = s.requests := (congrArg State.requests h.same :)
  have slots : t.slots = s.slots := (congrArg State.slots h.same :)
  have tracker : t.tracker = s.tracker := (congrArg State.tracker h.same :)
  have positions : t.positions = s.positions := (congrArg State.positions h.same :)
  have left : t.leftStored = s.leftStored := (congrArg State.leftStored h.same :)
  have store : t.control.store = s.control.store := (congrArg Control.store h.control :)
  have frames : t.control.frames = s.control.frames := (congrArg Control.frames h.control :)
  have next : t.control.nextFrame = s.control.nextFrame := (congrArg Control.nextFrame h.control :)
  have closed : lastClosed t = lastClosed s := by unfold lastClosed; rw [positions]
  exact
    { station := station
      store := store
      lastClosed := closed
      halted := fun _ => ⟨fault, left, ident, conf, custody, requests, slots, tracker, positions⟩
      liability := fun _ => by rw [custody]
      bounded := fun hb => ⟨h.tx hb.tx, h.rx hb.rx, h.notices hb.notices, h.mask hb.mask⟩
      tables := fun ht =>
        { store := by rw [store]; exact ht.store
          cards := by rw [custody]; exact ht.cards
          locks := by rw [custody]; exact ht.locks
          grants := by rw [requests]; exact ht.grants
          lives := by rw [requests]; exact ht.lives
          entries := by rw [tracker]; exact ht.entries
          slots := by rw [slots]; exact ht.slots
          rowsA := by rw [positions]; exact ht.rowsA
          rowsB := by rw [positions]; exact ht.rowsB
          roster := h.roster ht.roster
          cursors := h.cursors ht.cursors }
      area := fun hf =>
        { room := by rw [frames]; exact hf.room
          numbers := by rw [frames]; exact hf.numbers
          below := by rw [frames, next]; exact hf.below
          slots := by rw [frames]; exact hf.slots
          down := by rw [frames, station]; exact hf.down }
      room := fun hr =>
        { cards := by rw [custody]; exact hr.cards
          grants := by rw [requests]; exact hr.grants
          opens := by unfold openHolds; rw [requests, closed]; exact hr.opens
          slots := by rw [slots]; exact hr.slots
          entries := by rw [tracker]; exact hr.entries }
      books := fun hc => hc.congr station custody (by rw [requests]) ident conf closed
        (by unfold openPeriod; rw [positions]) }

end Sys2Proof.Machine
end

section
/-! Changes of the records of custody and of the request table, and the custody law through each of them. -/

namespace Sys2Proof.Machine

/-- The state with other records of custody and of the request table. -/
def withRecords (i : Option Identity) (k : Custody) (r : Requests) (s : State) : State :=
  { s with ident := i, custody := k, requests := r }

/-- The records `i`, `k` and `r` may take the place of the ones of `s`: what the laws ask of them. -/
structure Recorded (money : Prop) (s : State) (i : Option Identity) (k : Custody) (r : Requests) : Prop where
  cards : tabWf s.custody.cards = true → tabWf k.cards = true
  locks : tabWf s.custody.locks = true → tabWf k.locks = true
  grants : tabWf s.requests.grants = true → tabWf r.grants = true
  lives : tabWf s.requests.lives = true → tabWf r.lives = true
  cardPlaces : (∀ p ∈ s.custody.cards, p.1 < 16384) → ∀ p ∈ k.cards, p.1 < 16384
  grantPlaces : (∀ p ∈ s.requests.grants, p.1 < 1024) → ∀ p ∈ r.grants, p.1 < 1024
  opens : openHolds s ≤ 256 → openHolds (withRecords i k r s) ≤ 256
  liability : ¬ money → k.liability = s.custody.liability
  books : CustodyLaw s → CustodyLaw (withRecords i k r s)

theorem Recorded.refl {money : Prop} (s : State) : Recorded money s s.ident s.custody s.requests :=
  ⟨id, id, id, id, id, id, id, fun _ => rfl, id⟩

theorem Recorded.lawful {money : Prop} {s : State} {i : Option Identity} {k : Custody} {r : Requests}
    (h : Recorded money s i k r) (hu : Up s) : Lawful money s (withRecords i k r s) where
  station := rfl
  store := rfl
  lastClosed := rfl
  halted := fun hh => absurd hh hu.not_halted
  liability := h.liability
  bounded := fun hb => { hb with }
  tables := fun ht =>
    { ht with cards := h.cards ht.cards, locks := h.locks ht.locks, grants := h.grants ht.grants, lives := h.lives ht.lives }
  area := fun hf => { hf with }
  room := fun hr => { hr with cards := h.cardPlaces hr.cards, grants := h.grantPlaces hr.grants, opens := h.opens hr.opens }
  books := h.books

/-! ### Changes that the custody law does not read -/

/-- Remaining lives and waiting releases are rewritten (R22, R37, R85). -/
theorem recorded_lives {money : Prop} (s : State) (l : Tab Nat) (d p : List Nat)
    (hl : tabWf s.requests.lives = true → tabWf l = true) :
    Recorded money s s.ident s.custody { s.requests with lives := l, deferred := d, lapsing := p } :=
  { Recorded.refl s with
    lives := hl
    books := fun hc => hc.congr rfl rfl rfl rfl rfl rfl (Nat.le_refl _) }

/-- The identity record with another counter than that of the serials (R25, R166). -/
theorem CustodyLaw.counters {s : State} {i j : Identity} (hc : CustodyLaw s) (hi : s.ident = some i)
    (hs : j.serialCounter = i.serialCounter) : CustodyLaw { s with ident := some j } :=
  { hc with
    given := fun p hp => by
      obtain ⟨k, hk, hle⟩ := hc.given p hp
      rw [hi] at hk
      exact ⟨j, rfl, by rw [hs, Option.some.inj hk]; exact hle⟩
    periods := hc.periods }

theorem recorded_mark {money : Prop} {s : State} {i : Identity} (hi : s.ident = some i) (m : Nat) :
    Recorded money s (some { i with highWater := m }) s.custody s.requests :=
  { Recorded.refl s with books := fun hc => hc.counters hi rfl }

theorem recorded_locks {money : Prop} (s : State) (l : Tab RangeLock)
    (hl : tabWf s.custody.locks = true → tabWf l = true) :
    Recorded money s s.ident { s.custody with locks := l } s.requests :=
  { Recorded.refl s with
    locks := hl
    books := fun hc => { hc with } }

end Sys2Proof.Machine
end

section
namespace Sys2Proof.Machine

/-! ### The custody law through the change of one record -/

/-- The card record `c` at `cp` becomes `c'` in the state with the records `i`, `k`, `r`, and the books stay right: the card's
figures are those of its OPEN holds, another card's have not moved, every OPEN hold stands on a record, and the liability moves
with available and held (R1, R2, R6). -/
structure Rebalanced (s : State) (i : Option Identity) (k : Custody) (r : Requests) (cp : Nat) (c c' : Card) : Prop where
  card : (cp, c) ∈ s.custody.cards
  cards : k.cards = tabPut s.custody.cards cp c'
  serial : c'.serial = c.serial
  ident : ∀ j, s.ident = some j → ∃ j', i = some j' ∧ j.serialCounter ≤ j'.serialCounter
  grantsForm : tabWf r.grants = true
  held : c'.held = heldOn (withRecords i k r s) c.serial ∧ c'.openHolds = holdsOn (withRecords i k r s) c.serial
  limit : c'.openHolds ≤ 4
  others : ∀ n, n ≠ c.serial → heldOn (withRecords i k r s) n = heldOn s n ∧ holdsOn (withRecords i k r s) n = holdsOn s n
  standing : ∀ p ∈ r.grants, grantOpen p.2 = true →
    p ∈ s.requests.grants ∨ (1 ≤ grantAmount p.2 ∧ lastClosed s < p.2.period ∧ p.2.serial = c.serial)
  inCeiling : s.station = .trading → c'.available + c'.held ≤ ceiling s
  liability : k.liability + (c.available + c.held) = s.custody.liability + (c'.available + c'.held)

/-- Two records of one serial stand at one place. -/
theorem CustodyLaw.place_unique {s : State} (hc : CustodyLaw s) {p q : Nat × Card} (hp : p ∈ s.custody.cards)
    (hq : q ∈ s.custody.cards) (h : p.2.serial = q.2.serial) : p.1 = q.1 :=
  (pairwise_ne_iff hc.cardsForm (fun c : Card => c.serial)).1 hc.distinct p hp q hq h

/-- In canonical form one record stands at a place. -/
theorem eq_of_place_eq {α : Type} {t : Tab α} (h : tabWf t = true) {p q : Nat × α} (hp : p ∈ t) (hq : q ∈ t)
    (he : p.1 = q.1) : p = q := by
  have hpg := tabGet_of_mem h hp
  rw [he, tabGet_of_mem h hq] at hpg
  exact Prod.ext he (Option.some.inj hpg).symm

section
variable {s : State} {i : Option Identity} {k : Custody} {r : Requests} {cp : Nat} {c c' : Card}

/-- Where a record is rewritten, the records are the new one and the old ones of other places. -/
theorem Rebalanced.mem_cards (b : Rebalanced s i k r cp c c') (hc : CustodyLaw s) {p : Nat × Card} :
    p ∈ k.cards ↔ p = (cp, c') ∨ (p ∈ s.custody.cards ∧ p.2.serial ≠ c.serial) := by
  rw [b.cards, mem_tabPut_iff hc.cardsForm]
  refine or_congr_right (and_congr_right fun hp => not_congr ⟨fun he => ?_, fun he => hc.place_unique hp b.card he⟩)
  rw [eq_of_place_eq hc.cardsForm hp b.card he]

/-- The liability after a record is rewritten is the sum over the records. -/
theorem Rebalanced.sum (b : Rebalanced s i k r cp c c') (hc : CustodyLaw s) :
    k.liability = tabSum (fun x => x.available + x.held) k.cards := by
  have hput := tabSum_tabPut (fun x : Card => x.available + x.held) hc.cardsForm cp c'
  have hlaw := hc.liability
  have hb := b.liability
  rw [tabGet_of_mem hc.cardsForm b.card] at hput
  simp only [Option.map_some, Option.getD_some] at hput
  rw [b.cards]
  omega

/-- Every record's figures after one is rewritten. -/
theorem Rebalanced.figures (b : Rebalanced s i k r cp c c') (hc : CustodyLaw s) {p : Nat × Card} (hp : p ∈ k.cards) :
    p.2.held = heldOn (withRecords i k r s) p.2.serial ∧ p.2.openHolds = holdsOn (withRecords i k r s) p.2.serial ∧
      p.2.openHolds ≤ 4 := by
  rcases (b.mem_cards hc).1 hp with rfl | ⟨hp, hne⟩
  · show c'.held = heldOn _ c'.serial ∧ c'.openHolds = holdsOn _ c'.serial ∧ c'.openHolds ≤ 4
    rw [b.serial]
    exact ⟨b.held.1, b.held.2, b.limit⟩
  · rw [(b.others _ hne).1, (b.others _ hne).2]
    exact hc.held p hp

/-- Every OPEN hold stands on a record after one is rewritten. -/
theorem Rebalanced.stands (b : Rebalanced s i k r cp c c') (hc : CustodyLaw s) {p : Nat × Grant} (hp : p ∈ r.grants)
    (ho : grantOpen p.2 = true) :
    1 ≤ grantAmount p.2 ∧ lastClosed s < p.2.period ∧ ∃ q ∈ k.cards, q.2.serial = p.2.serial := by
  rcases b.standing p hp ho with hp | ⟨h1, h2, h3⟩
  · obtain ⟨h1, h2, q, hq, hqs⟩ := hc.standing p hp ho
    refine ⟨h1, h2, ?_⟩
    by_cases hs : q.2.serial = c.serial
    · exact ⟨(cp, c'), (b.mem_cards hc).2 (.inl rfl), b.serial.trans (hs.symm.trans hqs)⟩
    · exact ⟨q, (b.mem_cards hc).2 (.inr ⟨hq, hs⟩), hqs⟩
  · exact ⟨h1, h2, (cp, c'), (b.mem_cards hc).2 (.inl rfl), b.serial.trans h3.symm⟩

/-- The custody law goes through a change of one record that keeps the books right. -/
theorem Rebalanced.books (b : Rebalanced s i k r cp c c') (hc : CustodyLaw s) : CustodyLaw (withRecords i k r s) where
  cardsForm := by
    show tabWf k.cards = true
    rw [b.cards]
    exact tabWf_tabPut cp c' hc.cardsForm
  grantsForm := b.grantsForm
  liability := b.sum hc
  held := fun _ hp => b.figures hc hp
  inCeiling := fun ht p hp => by
    rcases (b.mem_cards hc).1 hp with rfl | ⟨hp, -⟩
    · exact b.inCeiling ht
    · exact hc.inCeiling ht p hp
  given := fun p hp => by
    have hgiven : ∃ j, s.ident = some j ∧ p.2.serial ≤ j.serialCounter := by
      rcases (b.mem_cards hc).1 hp with rfl | ⟨hp, -⟩
      · exact b.serial ▸ hc.given _ b.card
      · exact hc.given p hp
    obtain ⟨j, hj, hle⟩ := hgiven
    obtain ⟨j', hj', hle'⟩ := b.ident j hj
    exact ⟨j', hj', hle.trans hle'⟩
  distinct := by
    show k.cards.Pairwise _
    have hw : tabWf k.cards = true := by
      rw [b.cards]
      exact tabWf_tabPut cp c' hc.cardsForm
    refine (pairwise_ne_iff hw (fun c : Card => c.serial)).2 fun p hp q hq hs => ?_
    rcases (b.mem_cards hc).1 hp with rfl | ⟨hp, hpne⟩ <;> rcases (b.mem_cards hc).1 hq with rfl | ⟨hq, hqne⟩
    · rfl
    · exact absurd (hs.symm.trans b.serial) hqne
    · exact absurd (hs.trans b.serial) hpne
    · exact hc.place_unique hp hq hs
  standing := fun _ hp ho => b.stands hc hp ho
  periods := hc.periods

end

/-! ### One entry of the request table rewritten -/

/-- What an entry counts in the held figure of its card (R2). -/
def openAmount (g : Grant) : Nat := if grantOpen g then grantAmount g else 0

/-- What an entry counts in the number of OPEN holds of its card (R2). -/
def openOne (g : Grant) : Nat := if grantOpen g then 1 else 0

/-- The sum of a figure over the entries of a serial. -/
def sumOn (w : Grant → Nat) (t : Tab Grant) (n : Nat) : Nat := tabSum (fun g => if g.serial = n then w g else 0) t

theorem heldOn_eq_sumOn (s : State) (n : Nat) : heldOn s n = sumOn openAmount s.requests.grants n := by
  unfold heldOn sumOn openAmount
  congr 1
  funext g
  by_cases h : g.serial = n <;> simp [h]

theorem holdsOn_eq_sumOn (s : State) (n : Nat) : holdsOn s n = sumOn openOne s.requests.grants n := by
  unfold holdsOn sumOn openOne
  rw [tabCount_eq_tabSum]
  congr 1
  funext g
  by_cases h : g.serial = n <;> simp [h]

/-- An entry's figure is part of the sum of its serial. -/
theorem le_sumOn (w : Grant → Nat) {t : Tab Grant} {p : Nat × Grant} (h : p ∈ t) : w p.2 ≤ sumOn w t p.2.serial := by
  have := List.single_le_sum (l := t.map fun q => if q.2.serial = p.2.serial then w q.2 else 0) (by simp) _
    (List.mem_map.2 ⟨p, h, rfl⟩)
  simpa [sumOn, tabSum] using this

section
variable {t : Tab Grant} {w : Grant → Nat} {m gp : Nat} {g' : Grant}

/-- The sum of a serial's entries after one of them is rewritten moves with it. -/
theorem sumOn_tabPut_self (hw : tabWf t = true) (before : ∀ g, tabGet t gp = some g → w g ≠ 0 → g.serial = m)
    (after : w g' ≠ 0 → g'.serial = m) :
    sumOn w (tabPut t gp g') m + ((tabGet t gp).map w).getD 0 = sumOn w t m + w g' := by
  have hput := tabSum_tabPut (fun g => if g.serial = m then w g else 0) hw gp g'
  have hnew : (if g'.serial = m then w g' else 0) = w g' := by
    by_cases h0 : w g' = 0
    · simp [h0]
    · simp [after h0]
  have hold : ((tabGet t gp).map fun g => if g.serial = m then w g else 0).getD 0 = ((tabGet t gp).map w).getD 0 := by
    cases hg : tabGet t gp with
    | none => rfl
    | some g =>
      by_cases h0 : w g = 0
      · simp [h0]
      · simp [before g hg h0]
  rwa [hold, hnew] at hput

/-- The sum of another serial's entries does not move. -/
theorem sumOn_tabPut_ne (hw : tabWf t = true) (before : ∀ g, tabGet t gp = some g → w g ≠ 0 → g.serial = m)
    (after : w g' ≠ 0 → g'.serial = m) {n : Nat} (hn : n ≠ m) : sumOn w (tabPut t gp g') n = sumOn w t n := by
  have hput := tabSum_tabPut (fun g => if g.serial = n then w g else 0) hw gp g'
  have hnew : (if g'.serial = n then w g' else 0) = 0 := by
    by_cases h0 : w g' = 0
    · simp [h0]
    · simp [after h0, Ne.symm hn]
  have hold : ((tabGet t gp).map fun g => if g.serial = n then w g else 0).getD 0 = 0 := by
    cases hg : tabGet t gp with
    | none => rfl
    | some g =>
      by_cases h0 : w g = 0
      · simp [h0]
      · simp [before g hg h0, Ne.symm hn]
  rw [hold, hnew] at hput
  exact hput

end

/-- The card record `c` at `cp` becomes `c'` and the entry at `gp` becomes `g'`: the card's held and its number of OPEN holds
move with the entry, and the liability `l` with available and held (R1, R2, R6). -/
structure Balanced (s : State) (cp : Nat) (c c' : Card) (gp : Nat) (g' : Grant) (l : Nat) : Prop where
  card : (cp, c) ∈ s.custody.cards
  serial : c'.serial = c.serial
  before : ∀ g, tabGet s.requests.grants gp = some g → grantOpen g = true → g.serial = c.serial
  after : grantOpen g' = true → 1 ≤ grantAmount g' ∧ lastClosed s < g'.period ∧ g'.serial = c.serial
  held : c'.held + ((tabGet s.requests.grants gp).map openAmount).getD 0 = c.held + openAmount g'
  opens : c'.openHolds + ((tabGet s.requests.grants gp).map openOne).getD 0 = c.openHolds + openOne g'
  limit : c'.openHolds ≤ 4
  inCeiling : s.station = .trading → c'.available + c'.held ≤ ceiling s
  liability : l + (c.available + c.held) = s.custody.liability + (c'.available + c'.held)

/-- A record and an entry rewritten in balance keep the books right. -/
theorem Balanced.rebalanced {s : State} (hc : CustodyLaw s) {cp gp : Nat} {c c' : Card} {g' : Grant} {i : Option Identity}
    {k : Custody} {r : Requests} (b : Balanced s cp c c' gp g' k.liability)
    (ident : ∀ j, s.ident = some j → ∃ j', i = some j' ∧ j.serialCounter ≤ j'.serialCounter)
    (cards : k.cards = tabPut s.custody.cards cp c') (grants : r.grants = tabPut s.requests.grants gp g') :
    Rebalanced s i k r cp c c' := by
  have open_of : ∀ g, openAmount g ≠ 0 ∨ openOne g ≠ 0 → grantOpen g = true := fun g hg => by
    cases ho : grantOpen g
    · simp [openAmount, openOne, ho] at hg
    · rfl
  have hself : heldOn (withRecords i k r s) c.serial + ((tabGet s.requests.grants gp).map openAmount).getD 0
      = heldOn s c.serial + openAmount g' := by
    rw [heldOn_eq_sumOn, heldOn_eq_sumOn, show (withRecords i k r s).requests.grants = _ from grants]
    exact sumOn_tabPut_self hc.grantsForm (fun g hg h => b.before g hg (open_of g (.inl h)))
      fun h => (b.after (open_of g' (.inl h))).2.2
  have hone : holdsOn (withRecords i k r s) c.serial + ((tabGet s.requests.grants gp).map openOne).getD 0
      = holdsOn s c.serial + openOne g' := by
    rw [holdsOn_eq_sumOn, holdsOn_eq_sumOn, show (withRecords i k r s).requests.grants = _ from grants]
    exact sumOn_tabPut_self hc.grantsForm (fun g hg h => b.before g hg (open_of g (.inr h)))
      fun h => (b.after (open_of g' (.inr h))).2.2
  obtain ⟨h1, h2, -⟩ := hc.held _ b.card
  have h3 := b.held
  have h4 := b.opens
  simp only at h1 h2
  exact
    { card := b.card
      cards := cards
      serial := b.serial
      ident := ident
      grantsForm := grants ▸ tabWf_tabPut gp g' hc.grantsForm
      held := by omega
      limit := b.limit
      others := fun n hn => by
        rw [heldOn_eq_sumOn, heldOn_eq_sumOn, holdsOn_eq_sumOn, holdsOn_eq_sumOn,
          show (withRecords i k r s).requests.grants = _ from grants]
        exact ⟨sumOn_tabPut_ne hc.grantsForm (fun g hg h => b.before g hg (open_of g (.inl h)))
            (fun h => (b.after (open_of g' (.inl h))).2.2) hn,
          sumOn_tabPut_ne hc.grantsForm (fun g hg h => b.before g hg (open_of g (.inr h)))
            (fun h => (b.after (open_of g' (.inr h))).2.2) hn⟩
      standing := fun p hp ho => by
        rw [grants, mem_tabPut_iff hc.grantsForm] at hp
        rcases hp with rfl | ⟨hp, -⟩
        · exact .inr (b.after ho)
        · exact .inl hp
      inCeiling := b.inCeiling
      liability := b.liability }

end Sys2Proof.Machine
end

section
namespace Sys2Proof.Machine

/-! ### The operations on the records -/

/-- A change lawful in a part that works. -/
def Deal (money : Prop) (s t : State) : Prop := Up s → Lawful money s t

theorem Deal.trans {money : Prop} {s t u : State} (h : Deal money s t) (k : Deal money t u) : Deal money s u :=
  fun hu => (h hu).trans (k ((h hu).up hu))

theorem Deal.refl {money : Prop} (s : State) : Deal money s s := fun _ => .refl s

theorem Clerical.deal {money : Prop} {s t : State} (h : Clerical s t) : Deal money s t := h.lawful

theorem Recorded.deal {money : Prop} {s : State} {i : Option Identity} {k : Custody} {r : Requests}
    (h : Recorded money s i k r) : Deal money s (withRecords i k r s) := h.lawful

/-- What `findCard` finds is listed, has the serial, and is not retired (R3, R5). -/
theorem findCard_spec {s : State} {n p : Nat} {c : Card} (h : findCard s n = some (p, c)) :
    (p, c) ∈ s.custody.cards ∧ c.serial = n ∧ cardRetired (lastClosed s) c = false := by
  obtain ⟨hm, hf⟩ := tabFind_spec h
  simp only [Bool.and_eq_true, decide_eq_true_eq, Bool.not_eq_true'] at hf
  exact ⟨hm, hf⟩

/-- What `findHold` finds is listed, has the tag, and is not free (R24). -/
theorem findHold_spec {s : State} {n p : Nat} {g : Grant} (h : findHold s n = some (p, g)) :
    (p, g) ∈ s.requests.grants ∧ grantTag g = some n ∧ grantFree (lastClosed s) g = false := by
  obtain ⟨hm, hf⟩ := tabFind_spec h
  simp only [Bool.and_eq_true, decide_eq_true_eq, Bool.not_eq_true'] at hf
  exact ⟨hm, hf⟩

theorem findSettled_spec {s : State} {q n m p : Nat} {x : Int} {g : Grant} (h : findSettled s q n m x = some (p, g)) :
    findHold s n = some (p, g) ∧ g.requester = q ∧ g.serial = m ∧ (g.period : Int) = x := by
  unfold findSettled at h
  split at h
  · next hf =>
    split at h
    · next hq =>
      obtain ⟨rfl, rfl⟩ := Prod.mk.inj (Option.some.inj h)
      exact ⟨hf, hq⟩
    · simp at h
  · simp at h

/-- A free request-table place holds no OPEN hold (R20, R23). -/
theorem CustodyLaw.free_not_open {s : State} (hc : CustodyLaw s) {g : Grant}
    (h : tabGet s.requests.grants (freeGrantPlace s) = some g) : grantOpen g = false := by
  have hf := free_of_tabGet_tabFirstFree hc.grantsForm h
  cases ho : grantOpen g with
  | false => rfl
  | true =>
    have hs : lastClosed s < g.period := (hc.standing _ (mem_of_tabGet h) ho).2.1
    simp only [grantFree, decide_eq_true_eq] at hf
    omega

/-- The lowest free request-table place lies in the table while the table is not full (R23). -/
theorem freeGrantPlace_lt {s : State} (h : grantCount s < 1024) : freeGrantPlace s < 1024 := by
  have := tabFirstFree_le (grantFree (lastClosed s)) s.requests.grants 0
  unfold grantCount at h
  unfold freeGrantPlace
  omega

theorem freeCardPlace_lt {s : State} (h : cardCount s < 16384) : freeCardPlace s < 16384 := by
  have := tabFirstFree_le (cardRetired (lastClosed s)) s.custody.cards 0
  unfold cardCount at h
  unfold freeCardPlace
  omega

theorem freeTrackPlace_lt {s : State} (h : trackCount s < 32) : freeTrackPlace s < 32 := by
  have := tabFirstFree_le (trackFree (lastClosed s)) s.tracker.entries 0
  unfold trackCount at h
  unfold freeTrackPlace
  omega

/-- An entry that counts for nothing among the OPEN holds leaves their number within its limit. -/
theorem opens_tabPut {s : State} {i : Option Identity} {k : Custody} {r : Requests} {gp : Nat} {g : Grant}
    (hr : r.grants = tabPut s.requests.grants gp g) (hg : grantOpen g = true → openHolds s < 256)
    (h : openHolds s ≤ 256) : openHolds (withRecords i k r s) ≤ 256 := by
  have hle := tabCount_tabPut_le (fun g => grantOpen g && !grantFree (lastClosed s) g) s.requests.grants gp g
  show tabCount (fun g => grantOpen g && !grantFree (lastClosed s) g) r.grants ≤ 256
  unfold openHolds at h hg
  rw [hr]
  cases ho : grantOpen g with
  | false =>
    simp only [ho, Bool.false_and, Bool.false_eq_true, if_false, Nat.add_zero] at hle
    omega
  | true =>
    have := hg ho
    split at hle <;> omega

/-- A record and an entry rewritten, with the room and the balance the laws ask for. -/
theorem recorded_rebook {money : Prop} {s : State} {cp gp : Nat} {c c' : Card} {g' : Grant} {l : Nat}
    {i : Option Identity} {r : Requests} (hcard : (cp, c) ∈ s.custody.cards)
    (hplace : gp < 1024 ∨ ∃ q ∈ s.requests.grants, q.1 = gp) (hopen : grantOpen g' = true → openHolds s < 256)
    (ident : ∀ j, s.ident = some j → ∃ j', i = some j' ∧ j.serialCounter ≤ j'.serialCounter)
    (grants : r.grants = tabPut s.requests.grants gp g')
    (lives : tabWf s.requests.lives = true → tabWf r.lives = true) (hl : ¬ money → l = s.custody.liability)
    (b : CustodyLaw s → Balanced s cp c c' gp g' l) :
    Recorded money s i { s.custody with cards := tabPut s.custody.cards cp c', liability := l } r where
  cards := tabWf_tabPut cp c'
  locks := id
  grants := fun h => grants ▸ tabWf_tabPut gp g' h
  lives := lives
  cardPlaces := fun h => tabPut_places c' h (h _ hcard)
  grantPlaces := fun h => grants ▸ tabPut_places g' h (hplace.elim id fun ⟨q, hq, he⟩ => he ▸ h q hq)
  opens := opens_tabPut grants hopen
  liability := hl
  books := fun hc => ((b hc).rebalanced hc ident rfl grants).books hc

/-! ### Settlement and expiry (R33, R35, R38) -/

/-- An OPEN hold counts in its card's figures. -/
theorem CustodyLaw.card_of_open {s : State} (hc : CustodyLaw s) {gp : Nat} {g : Grant} {p : Nat × Card}
    (hg : (gp, g) ∈ s.requests.grants) (ho : grantOpen g = true) (hp : p ∈ s.custody.cards)
    (hs : p.2.serial = g.serial) : grantAmount g ≤ p.2.held ∧ 1 ≤ p.2.openHolds := by
  obtain ⟨h1, h2, -⟩ := hc.held p hp
  rw [heldOn_eq_sumOn, hs] at h1
  rw [holdsOn_eq_sumOn, hs] at h2
  have hamount : openAmount g ≤ _ := le_sumOn openAmount hg
  have hone : openOne g ≤ _ := le_sumOn openOne hg
  simp only [openAmount, openOne, ho, if_true] at hamount hone
  exact ⟨h1 ▸ hamount, h2 ▸ hone⟩

/-- The card of an OPEN hold is found: it is not retired (R2, R5). -/
theorem CustodyLaw.findCard_of_open {s : State} (hc : CustodyLaw s) {gp : Nat} {g : Grant}
    (hg : (gp, g) ∈ s.requests.grants) (ho : grantOpen g = true) : findCard s g.serial ≠ none := by
  obtain ⟨h1, -, q, hq, hqs⟩ := hc.standing _ hg ho
  obtain ⟨hheld, -⟩ := hc.card_of_open hg ho hq hqs
  intro hn
  have := tabFind_none hn q hq
  simp only [hqs, decide_true, Bool.true_and, Bool.not_eq_false'] at this
  simp only [cardRetired, Bool.and_eq_true, decide_eq_true_eq] at this
  simp only at h1
  omega

/-- A hold state that is not OPEN makes an entry that is not OPEN. -/
theorem grantOpen_withHoldState {g : Grant} {st : HoldState} (hst : st ≠ .isOpen) : grantOpen (withHoldState g st) = false := by
  unfold withHoldState grantOpen
  cases hb : g.body with
  | hold t a _ => cases st <;> simp_all
  | credit k a => simp [hb]

/-- An OPEN hold ends, `back` of it returned to the card and `lost` of it taken off the liability (R33, R35, R38). -/
theorem endHold_deal {money : Prop} {s : State} {gp : Nat} {g : Grant} {st : HoldState} {back lost : Nat}
    (hplace : ∃ q ∈ s.requests.grants, q.1 = gp) (hget : CustodyLaw s → tabGet s.requests.grants gp = some g)
    (ho : grantOpen g = true) (hst : st ≠ .isOpen) (hsum : back + lost = grantAmount g)
    (hm : ¬ money → lost = 0) : Deal money s (lowerLiability lost (endHold gp g st back s).1) := by
  have hclosed := grantOpen_withHoldState (g := g) hst
  have placed {n : Nat} (h : ∀ p ∈ s.requests.grants, p.1 < n) : gp < n := by
    obtain ⟨q, hq, he⟩ := hplace
    exact he ▸ h q hq
  unfold endHold
  dsimp only
  cases hf : findCard s g.serial with
  | none =>
    refine Recorded.deal (i := s.ident) (k := { s.custody with liability := s.custody.liability - lost }) ?_
    exact
      { cards := id
        locks := id
        grants := tabWf_tabPut gp _
        lives := tabWf_tabDel _
        cardPlaces := id
        grantPlaces := fun h => tabPut_places _ h (placed h)
        opens := opens_tabPut rfl fun h => absurd h (by simp [hclosed])
        liability := fun h => by simp [hm h]
        books := fun hc => absurd hf (hc.findCard_of_open (mem_of_tabGet (hget hc)) ho) }
  | some pc =>
    obtain ⟨cp, c⟩ := pc
    obtain ⟨hcm, hcs, -⟩ := findCard_spec hf
    refine Recorded.deal (i := s.ident) (recorded_rebook (l := s.custody.liability - lost)
      (c' := cardEnded (openPeriod s) (grantAmount g) back c) hcm (.inr hplace) (fun h => absurd h (by simp [hclosed])) (fun j hj => ⟨j, hj, Nat.le_refl _⟩) rfl
      (tabWf_tabDel _) (fun h => by simp [hm h]) fun hc => ?_)
    obtain ⟨hheld, hopens⟩ := hc.card_of_open (mem_of_tabGet (hget hc)) ho hcm hcs
    simp only at hheld hopens
    obtain ⟨-, -, hlimit⟩ := hc.held _ hcm
    simp only at hlimit
    have hle : c.available + c.held ≤ s.custody.liability := by
      rw [hc.liability]
      exact List.single_le_sum (by simp) _ (List.mem_map.2 ⟨_, hcm, rfl⟩)
    exact
      { card := hcm
        serial := rfl
        before := fun g' hg' _ => by
          rw [hget hc] at hg'
          exact (Option.some.inj hg' ▸ hcs.symm)
        after := fun h => absurd h (by simp [hclosed])
        held := by simp [hget hc, cardEnded, openAmount, ho, hclosed]; omega
        opens := by simp [hget hc, cardEnded, openOne, ho, hclosed]; omega
        limit := by simp [cardEnded]; omega
        inCeiling := fun ht => by
          have := hc.inCeiling ht _ hcm
          simp only [cardEnded] at this ⊢
          omega
        liability := by simp only [cardEnded]; omega }

end Sys2Proof.Machine
end

section
namespace Sys2Proof.Machine

/-! ### Grants (R25, R30) -/

/-- A free request-table place counts for nothing in a card's figures. -/
theorem CustodyLaw.free_counts {s : State} (hc : CustodyLaw s) :
    ((tabGet s.requests.grants (freeGrantPlace s)).map openAmount).getD 0 = 0 ∧
      ((tabGet s.requests.grants (freeGrantPlace s)).map openOne).getD 0 = 0 := by
  cases hg : tabGet s.requests.grants (freeGrantPlace s) with
  | none => exact ⟨rfl, rfl⟩
  | some g => simp [openAmount, openOne, hc.free_not_open hg]

/-- What the checks of a new hold and the choice of its amount give the grant: a listed card that covers the amount, and room
(R28, R29). -/
structure Grantable (place : Nat) (card : Card) (g : Nat) (s : State) : Prop where
  listed : (place, card) ∈ s.custody.cards
  room : grantCount s < 1024
  opens : openHolds s < 256
  cardRoom : card.openHolds < 4
  least : 1 ≤ g
  covered : g ≤ card.available

/-- What passes the checks and the choice of the amount is grantable. -/
theorem grantable_of_checks {s : State} {q n a p g : Nat} {part : Bool} {c : Card} {how : HoldAnswer}
    (hchecks : firstFail (holdChecks s q n a) = none) (hf : findCard s n = some (p, c))
    (ha : holdAmount c.available a part = some (how, g)) (hpos : 1 ≤ a) : Grantable p c g s := by
  have hbusy := (firstFail_none_iff _).1 hchecks _ (List.mem_cons_of_mem _ (List.mem_cons_of_mem _ List.mem_cons_self))
  simp only [hf, Option.all_some, Bool.and_eq_true, decide_eq_true_eq] at hbusy
  obtain ⟨⟨⟨⟨hroom, hopens⟩, hcard⟩, -⟩, -⟩ := hbusy
  have hg : 1 ≤ g ∧ g ≤ c.available := by
    unfold holdAmount at ha
    split at ha
    · obtain ⟨-, rfl⟩ := Prod.mk.inj (Option.some.inj ha)
      exact ⟨hpos, ‹_›⟩
    · split at ha
      · next h =>
        simp only [Bool.and_eq_true, decide_eq_true_eq] at h
        obtain ⟨-, rfl⟩ := Prod.mk.inj (Option.some.inj ha)
        exact ⟨h.2, Nat.le_refl _⟩
      · simp at ha
  exact ⟨(findCard_spec hf).1, hroom, hopens, hcard, hg.1, hg.2⟩

/-- A grant is lawful, and the liability stays (R30). -/
theorem grantHold_deal {money : Prop} {s : State} {place g : Nat} {card : Card} (h : Grantable place card g s) (q : Nat)
    (n : Option Nat) (k : Nat → Continuation) : Deal money s (grantHold q n place card g k s) := by
  intro hu
  unfold grantHold
  split
  · exact .refl s
  · next i hi =>
    have step : Recorded money s (some { i with tagCounter := freshTag s })
        { s.custody with
          cards := tabPut s.custody.cards place (cardGranted (openPeriod s) g card), liability := s.custody.liability }
        { s.requests with
          grants := tabPut s.requests.grants (freeGrantPlace s)
            ⟨q, n, card.serial, openPeriod s, .hold (freshTag s) g .isOpen⟩
          lives := tabPut s.requests.lives (freshTag s) (holdLifeMs s) } := by
      refine recorded_rebook h.listed (.inl (freeGrantPlace_lt h.room)) (fun _ => h.opens) (fun j hj => ?_) rfl
        (tabWf_tabPut _ _) (fun _ => rfl) fun hc => ?_
      · rw [hi] at hj
        obtain rfl := Option.some.inj hj
        exact ⟨_, rfl, Nat.le_refl _⟩
      · obtain ⟨hfree, hfreeOne⟩ := hc.free_counts
        exact
          { card := h.listed
            serial := rfl
            before := fun g' hg' ho => absurd ho (by simp [hc.free_not_open hg'])
            after := fun _ => ⟨h.least, hc.periods hu, rfl⟩
            held := by simp [hfree, cardGranted, openAmount, grantOpen, grantAmount]
            opens := by simp [hfreeOne, cardGranted, openOne, grantOpen]
            limit := h.cardRoom
            inCeiling := fun ht => by
              have := hc.inCeiling ht _ h.listed
              have := h.covered
              simp only [cardGranted] at *
              omega
            liability := by
              have := h.covered
              simp only [cardGranted]
              omega }
    exact step.deal.trans (acceptFrame_clerical _ _ _ _ _).deal hu

/-! ### Ends of holds -/

/-- An entry that may be settled: it stands OPEN at its place, as far as the table is in canonical form, which the custody law
gives. -/
structure OpenAt (place : Nat) (g : Grant) (s : State) : Prop where
  listed : ∃ q ∈ s.requests.grants, q.1 = place
  get : CustodyLaw s → tabGet s.requests.grants place = some g
  isOpen : grantOpen g = true

theorem openAt_of_mem {s : State} {p : Nat} {g : Grant} (h : (p, g) ∈ s.requests.grants) (ho : grantOpen g = true) :
    OpenAt p g s := ⟨⟨_, h, rfl⟩, fun hc => tabGet_of_mem hc.grantsForm h, ho⟩

theorem openAt_of_findHold {s : State} {n p : Nat} {g : Grant} (h : findHold s n = some (p, g)) (ho : grantOpen g = true) :
    OpenAt p g s := openAt_of_mem (findHold_spec h).1 ho

theorem openAt_of_findSettled {s : State} {q n m p : Nat} {x : Int} {g : Grant} (h : findSettled s q n m x = some (p, g))
    (ho : grantOpen g = true) : OpenAt p g s := openAt_of_findHold (findSettled_spec h).1 ho

theorem endHold_whole_deal {money : Prop} {s : State} {p : Nat} {g : Grant} {st : HoldState} (h : OpenAt p g s)
    (hst : st ≠ .isOpen) : Deal money s (endHold p g st (grantAmount g) s).1 :=
  endHold_deal (lost := 0) h.listed h.get h.isOpen hst rfl fun _ => rfl

theorem releaseHold_deal {money : Prop} {s : State} {p : Nat} {g : Grant} (h : OpenAt p g s) (k : Continuation) :
    Deal money s (releaseHold p g k s) :=
  (endHold_whole_deal h (by decide)).trans
    ((acceptFrame_clerical _ _ _ _ _).trans (reexamine_clerical _ _)).deal

theorem expireEntry_deal {money : Prop} {s : State} {p : Nat} {g : Grant} (h : OpenAt p g s) :
    Deal money s (expireEntry p g s) :=
  (endHold_whole_deal h (by decide)).trans (acceptFrame_clerical _ _ _ _ _).deal

theorem expireHold_deal {money : Prop} {s : State} {p : Nat} {g : Grant} (h : OpenAt p g s) :
    Deal money s (expireHold p g s) := (expireEntry_deal h).trans (reexamine_clerical _ _).deal

/-- A capture takes the captured amount off the liability (R6, R33). -/
theorem captureHold_deal {s : State} {p c : Nat} {g : Grant} (h : OpenAt p g s) (hle : c ≤ grantAmount g) (own : Bool)
    (d : Draft) (k : Continuation) : Deal True s (captureHold p g c own d k s) :=
  (endHold_deal h.listed h.get h.isOpen (by simp) (Nat.sub_add_cancel hle) (fun hn => absurd trivial hn)).trans
    ((((book_clerical _ _ _ _).trans (claim_clerical _ _)).trans (acceptFrame_clerical _ _ _ _ _)).trans
      (reexamine_clerical _ _)).deal

theorem clampCapture_le (g a : Nat) : clampCapture g a ≤ g := by
  unfold clampCapture
  split <;> omega

/-- An expiry held back leaves the entries alone (R39). -/
theorem holdBack_deal {money : Prop} (tag : Nat) (s : State) : Deal money s (holdBack tag s) :=
  (recorded_lives s _ _ _ (tabWf_tabPut tag 0)).deal

theorem undefer_deal {money : Prop} (tag : Nat) (s : State) : Deal money s (undefer tag s) :=
  (recorded_lives s _ _ _ id).deal

/-! ### Credits (R12, R16) -/

/-- What the checks of a credit give: a listed card, the ceiling, and room (R12, R15). -/
structure Creditable (place : Nat) (card : Card) (amount : Nat) (s : State) : Prop where
  listed : (place, card) ∈ s.custody.cards
  inCeiling : card.available + card.held + amount ≤ ceiling s
  room : grantCount s < 1024

theorem creditable_of_checks {s : State} {q n a p : Nat} {kind : CreditKind} {c : Card}
    (hchecks : firstFail (creditChecks s q n kind a) = none) (hf : findCard s n = some (p, c)) : Creditable p c a s := by
  have hall := (firstFail_none_iff _).1 hchecks
  have hceiling := hall _ (List.mem_cons_of_mem _ (List.mem_cons_of_mem _ List.mem_cons_self))
  have hbusy := hall _ (List.mem_cons_of_mem _ (List.mem_cons_of_mem _ (List.mem_cons_of_mem _ List.mem_cons_self)))
  simp only [hf, Option.all_some, Bool.and_eq_true, decide_eq_true_eq] at hceiling hbusy
  exact ⟨(findCard_spec hf).1, hceiling, hbusy.1.1⟩

/-- A credit raises the card and the liability alike (R6, R12, R16). -/
theorem applyCredit_deal {s : State} {place amount : Nat} {card : Card} (h : Creditable place card amount s) (q : Nat)
    (n : Option Nat) (kind : CreditKind) (d : Draft) (k : Continuation) :
    Deal True s (applyCredit q n place card kind amount d k s) := by
  have step : Recorded True s s.ident
      { s.custody with
        cards := tabPut s.custody.cards place (cardCredited (openPeriod s) amount card),
        liability := s.custody.liability + amount }
      { s.requests with
        grants := tabPut s.requests.grants (freeGrantPlace s) ⟨q, n, card.serial, openPeriod s, .credit kind amount⟩ } := by
    refine recorded_rebook h.listed (.inl (freeGrantPlace_lt h.room)) (fun ho => by simp [grantOpen] at ho)
      (fun j hj => ⟨j, hj, Nat.le_refl _⟩) rfl id (fun hn => absurd trivial hn) fun hc => ?_
    obtain ⟨hfree, hfreeOne⟩ := hc.free_counts
    exact
      { card := h.listed
        serial := rfl
        before := fun g hg ho => absurd ho (by simp [hc.free_not_open hg])
        after := fun ho => absurd ho Bool.false_ne_true
        held := by simp [hfree, cardCredited, openAmount, grantOpen]
        opens := by simp [hfreeOne, cardCredited, openOne, grantOpen]
        limit := (hc.held _ h.listed).2.2
        inCeiling := fun _ => by
          have := h.inCeiling
          simp only [cardCredited]
          omega
        liability := by
          simp only [cardCredited]
          omega }
  exact step.deal.trans
    (((book_clerical _ _ _ _).trans (claim_clerical _ _)).trans (acceptFrame_clerical _ _ _ _ _)).deal

/-! ### A card's state (R18, R19) -/

/-- A record with its state changed alone (R9). -/
theorem recorded_state {money : Prop} {s : State} {place : Nat} {card : Card} (h : (place, card) ∈ s.custody.cards)
    (x : CardState) :
    Recorded money s s.ident { s.custody with cards := tabPut s.custody.cards place { card with state := x } }
      s.requests where
  cards := tabWf_tabPut _ _
  locks := id
  grants := id
  lives := id
  cardPlaces := fun hp => tabPut_places _ hp (hp _ h)
  grantPlaces := id
  opens := id
  liability := fun _ => rfl
  books := fun hc => by
    obtain ⟨hheld, hopens, hlimit⟩ := hc.held _ h
    exact Rebalanced.books
      { card := h
        cards := rfl
        serial := rfl
        ident := fun j hj => ⟨j, hj, Nat.le_refl _⟩
        grantsForm := hc.grantsForm
        held := ⟨hheld, hopens⟩
        limit := hlimit
        others := fun _ _ => ⟨rfl, rfl⟩
        standing := fun _ hp _ => .inl hp
        inCeiling := fun ht => hc.inCeiling ht _ h
        liability := rfl } hc

theorem changeStatus_deal {money : Prop} {s : State} {place : Nat} {card : Card} (h : (place, card) ∈ s.custody.cards)
    (x : CardState) (d : Draft) (k : Continuation) : Deal money s (changeStatus place { card with state := x } d k s) :=
  (recorded_state h x).deal.trans ((claim_clerical _ _).trans (acceptFrame_clerical _ _ _ _ _)).deal

end Sys2Proof.Machine
end

section
namespace Sys2Proof.Machine

/-! ### ISSUE (R4, R11) -/

/-- No OPEN hold stands on a serial that no record has. -/
theorem CustodyLaw.sumOn_eq_zero {s : State} (hc : CustodyLaw s) {n : Nat} (h : ∀ q ∈ s.custody.cards, q.2.serial ≠ n)
    (w : Grant → Nat) (hw : ∀ g, w g ≠ 0 → grantOpen g = true) : sumOn w s.requests.grants n = 0 := by
  unfold sumOn tabSum
  rw [List.sum_eq_zero_iff]
  intro x hx
  obtain ⟨p, hp, rfl⟩ := List.mem_map.1 hx
  by_contra hne
  dsimp only at hne
  split at hne
  · next hs =>
    obtain ⟨-, -, q, hq, hqs⟩ := hc.standing p hp (hw _ hne)
    exact h q hq (hqs.trans hs)
  · exact hne rfl

theorem openAmount_ne_zero {g : Grant} (h : openAmount g ≠ 0) : grantOpen g = true := by
  unfold openAmount at h
  split at h
  · assumption
  · exact absurd rfl h

theorem openOne_ne_zero {g : Grant} (h : openOne g ≠ 0) : grantOpen g = true := by
  unfold openOne at h
  split at h
  · assumption
  · exact absurd rfl h

/-- What stands in the lowest free custody place is retired: it holds nothing. -/
theorem CustodyLaw.free_card {s : State} (hc : CustodyLaw s) {c : Card}
    (h : tabGet s.custody.cards (freeCardPlace s) = some c) : c.available = 0 ∧ c.held = 0 := by
  have hf := free_of_tabGet_tabFirstFree hc.cardsForm h
  simp only [cardRetired, Bool.and_eq_true, decide_eq_true_eq] at hf
  exact ⟨hf.1.1.1, hf.1.1.2⟩

/-- The records and the identity as an ISSUE leaves them (R11). -/
def issuedCard (i : Identity) (amount : Nat) (rel : Bool) (s : State) : Card :=
  ⟨i.serialCounter + 1, .active, amount, 0, 0, rel, openPeriod s⟩

/-- The custody law goes through a new record with the next serial (R4, R11). -/
theorem CustodyLaw.issue {s : State} (hc : CustodyLaw s) {i : Identity} (hi : s.ident = some i) {amount : Nat}
    (hceiling : amount ≤ ceiling s) (rel : Bool) :
    CustodyLaw (withRecords (some { i with serialCounter := i.serialCounter + 1 })
      { s.custody with
        cards := tabPut s.custody.cards (freeCardPlace s) (issuedCard i amount rel s),
        liability := s.custody.liability + amount } s.requests s) := by
  have memCards := fun p =>
    mem_tabPut_iff hc.cardsForm (k := freeCardPlace s) (v := issuedCard i amount rel s) (p := p)
  have serials : ∀ p ∈ s.custody.cards, p.2.serial ≤ i.serialCounter := fun p hp => by
    obtain ⟨j, hj, hle⟩ := hc.given p hp
    rw [hi] at hj
    exact Option.some.inj hj ▸ hle
  have fresh : ∀ q ∈ s.custody.cards, q.2.serial ≠ i.serialCounter + 1 := fun q hq => by
    have := serials q hq
    omega
  refine
    { cardsForm := tabWf_tabPut _ _ hc.cardsForm
      grantsForm := hc.grantsForm
      liability := ?_
      held := fun p hp => ?_
      inCeiling := fun ht p hp => ?_
      given := fun p hp => ⟨_, rfl, ?_⟩
      distinct := ?_
      standing := fun p hp ho => ?_
      periods := hc.periods }
  · have hput := tabSum_tabPut (fun c : Card => c.available + c.held) hc.cardsForm (freeCardPlace s)
      (issuedCard i amount rel s)
    have hold : ((tabGet s.custody.cards (freeCardPlace s)).map fun c : Card => c.available + c.held).getD 0 = 0 := by
      cases hg : tabGet s.custody.cards (freeCardPlace s) with
      | none => rfl
      | some c => simp [hc.free_card hg]
    rw [hold] at hput
    show s.custody.liability + amount = tabSum _ (tabPut _ _ _)
    rw [hc.liability]
    exact hput.symm
  · rcases (memCards p).1 hp with rfl | ⟨hp, -⟩
    · show 0 = heldOn s (i.serialCounter + 1) ∧ 0 = holdsOn s (i.serialCounter + 1) ∧ 0 ≤ 4
      rw [heldOn_eq_sumOn, holdsOn_eq_sumOn]
      exact ⟨(hc.sumOn_eq_zero fresh _ fun _ => openAmount_ne_zero).symm,
        (hc.sumOn_eq_zero fresh _ fun _ => openOne_ne_zero).symm, Nat.zero_le _⟩
    · exact hc.held p hp
  · rcases (memCards p).1 hp with rfl | ⟨hp, -⟩
    · exact hceiling
    · exact hc.inCeiling ht p hp
  · rcases (memCards p).1 hp with rfl | ⟨hp, -⟩
    · exact Nat.le_refl _
    · exact Nat.le_succ_of_le (serials p hp)
  · refine (pairwise_ne_iff (tabWf_tabPut _ _ hc.cardsForm) (fun c : Card => c.serial)).2 fun p hp q hq hs => ?_
    rcases (memCards p).1 hp with rfl | ⟨hp, -⟩ <;> rcases (memCards q).1 hq with rfl | ⟨hq, -⟩
    · rfl
    · exact absurd hs.symm (fresh q hq)
    · exact absurd hs (fresh p hp)
    · exact hc.place_unique hp hq hs
  · obtain ⟨h1, h2, q, hq, hqs⟩ := hc.standing p hp ho
    refine ⟨h1, h2, q, (memCards q).2 (.inr ⟨hq, fun he => ?_⟩), hqs⟩
    have hget := tabGet_of_mem hc.cardsForm hq
    rw [he] at hget
    have hheld := (hc.card_of_open hp ho hq hqs).1
    rw [(hc.free_card hget).2] at hheld
    omega

/-- ISSUE raises the liability by the amount of its new record (R6, R11). -/
theorem runIssue_deal {s : State} {slot amount : Nat} (hslot : slot < 8) (hceiling : amount ≤ ceiling s)
    (hroom : cardCount s < 16384) (rel : Bool) (ref : Option Nat) : Deal True s (runIssue slot amount rel ref s) := by
  unfold runIssue
  split
  · exact .refl s
  · next i hi =>
    have step : Recorded True s (some { i with serialCounter := i.serialCounter + 1 })
        { s.custody with
          cards := tabPut s.custody.cards (freeCardPlace s) (issuedCard i amount rel s),
          liability := s.custody.liability + amount } s.requests :=
      { cards := tabWf_tabPut _ _
        locks := id
        grants := id
        lives := id
        cardPlaces := fun h => tabPut_places _ h (freeCardPlace_lt hroom)
        grantPlaces := id
        opens := id
        liability := fun hn => absurd trivial hn
        books := fun hc => hc.issue hi hceiling rel }
    exact step.deal.trans ((((putSlot_clerical _ (.inl hslot)).trans (book_clerical _ _ _ _)).trans
      (claim_clerical _ _)).trans (acceptFrame_clerical _ _ _ _ _)).deal

/-! ### Request numbers (R67, R166) -/

theorem takeStep_deal {money : Prop} (s : State) : Deal money s (takeStep s) := by
  unfold takeStep
  split
  · next i hi => exact (recorded_mark hi _).deal.trans (acceptFrame_clerical _ _ _ _ _).deal
  · exact .refl s

theorem giveNumber_deal {money : Prop} (s : State) : Deal money s (giveNumber s).2 := by
  unfold giveNumber
  dsimp only
  split
  · exact (takeStep_deal s).trans (clerical_counter _ _).deal
  · exact (clerical_counter _ s).deal

/-- Giving a number leaves the entries where they are. -/
@[simp] theorem giveNumber_entries (s : State) : (giveNumber s).2.tracker.entries = s.tracker.entries := by
  unfold giveNumber
  dsimp only
  split <;> simp

theorem startVolatile_deal {money : Prop} {s : State} {p : Nat} (d : TrackRec)
    (place : p < 32 ∨ ∃ q ∈ s.tracker.entries, q.1 = p) (x : Option Nat) (b : Bool) :
    Deal money s (startVolatile p d x b s) :=
  (giveNumber_deal s).trans (((putTrack_clerical _ (by simpa using place)).trans (setLink_clerical _ _ _ _)).trans
    (offerOrWait_clerical _ _ _)).deal

theorem startStored_deal {money : Prop} {s : State} {p : Nat} (d : TrackRec)
    (place : p < 32 ∨ ∃ q ∈ s.tracker.entries, q.1 = p) (x : Option Nat) : Deal money s (startStored p d x s) :=
  (giveNumber_deal s).trans (((putTrack_clerical _ (by simpa using place)).trans (setLink_clerical _ _ _ _)).trans
    (acceptFrame_clerical _ _ _ _ _)).deal

end Sys2Proof.Machine
end

section
/-! The commands that are lawful, one lemma each. -/
namespace Sys2Proof.Machine

/-- A command ends in a next state that is lawfully reached. -/
def Lawfully (money : Prop) (s : State) (o : Host.Outcome State Fault Refusal) : Prop :=
  ∃ t, o = .next t ∧ Lawful money s t

section
variable {money : Prop} {s t : State}

theorem lawfully_answer (h : Lawful money s t) : Lawfully money s (answer t) := ⟨t, rfl, h⟩

theorem lawfully_same (s : State) : Lawfully money s (answer s) := lawfully_answer (.refl s)

/-! ### The port -/

theorem reply_lawful (b : List Byte) (s : State) : Lawful money s (reply b s) := Outer.lawful { Outer.refl s with }

theorem refuse_lawful (p : PortStatus) (s : State) : Lawful money s (refuse p s) := reply_lawful _ s

theorem withSession_lawful (x : Session) (s : State) : Lawful money s (withSession x s) :=
  Outer.lawful { Outer.refl s with }

theorem sampleProtect_lawful (b : Bool) (s : State) : Lawful money s (sampleProtect b s) :=
  Outer.lawful { Outer.refl s with }

theorem Lawful.accepted (h : Lawful money s t) (fields : List Byte) : Lawful money s (accepted fields t) :=
  h.trans (reply_lawful _ t)

theorem hostCommand_lawfully {f : State → State} (h : Lawful money s (f s)) : Lawfully money s (hostCommand s f) := by
  unfold hostCommand
  split
  · exact lawfully_answer (reply_lawful _ s)
  · exact lawfully_answer h

theorem checkedCommand_lawfully {cs : List (Bool × PortStatus)} {f : State → State}
    (h : firstFail cs = none → Lawful money s (f s)) : Lawfully money s (checkedCommand s cs f) := by
  refine hostCommand_lawfully ?_
  split
  · exact refuse_lawful _ s
  · exact h ‹_›

/-- The first check of a list that passes, and the rest of it. -/
theorem firstFail_cons {b : Bool} {p : PortStatus} {cs : List (Bool × PortStatus)} (h : firstFail ((b, p) :: cs) = none) :
    b = true ∧ firstFail cs = none := by
  cases b
  · simp [firstFail] at h
  · exact ⟨rfl, h⟩

theorem firstFail_append {cs ds : List (Bool × PortStatus)} (h : firstFail (cs ++ ds) = none) :
    firstFail cs = none ∧ firstFail ds = none := by
  rw [firstFail_none_iff] at h
  exact ⟨(firstFail_none_iff _).2 fun c hc => h c (List.mem_append_left _ hc),
    (firstFail_none_iff _).2 fun c hc => h c (List.mem_append_right _ hc)⟩

theorem isTrading_iff : isTrading s = true ↔ s.station = .trading := decide_eq_true_iff

theorem slotNamed_iff {n : Nat} : slotNamed n = true ↔ n < 8 := decide_eq_true_iff

theorem trackerRoom_iff : trackerRoom s = true ↔ trackCount s < 32 := decide_eq_true_iff

/-- What the checks of new work give: a TRADING station and a till slot (R65, R72). -/
theorem newWorkChecks_pass {slot : Nat} (h : firstFail (newWorkChecks s slot) = none) : Up s ∧ slot < 8 := by
  obtain ⟨h1, h⟩ := firstFail_cons h
  obtain ⟨h2, -⟩ := firstFail_cons h
  exact ⟨up_of_trading (isTrading_iff.1 h1), slotNamed_iff.1 h2⟩

/-- What the checks of foreign work give: a free tracker place (R72). -/
theorem homeChecks_pass {home : Nat} (h : firstFail (homeChecks s home) = none) :
    freeTrackPlace s < 32 := freeTrackPlace_lt (trackerRoom_iff.1 (firstFail_cons (firstFail_cons h).2).1)

/-! ### The station's commands -/

theorem execStatus_lawfully (b : Bool) : Lawfully money s (execStatus b s) :=
  hostCommand_lawfully (((sampleProtect_lawful b s).accepted _).trans (withSession_lawful _ _))

theorem execNoticesLostCleared_lawfully : Lawfully money s (execNoticesLostCleared s) := by
  refine lawfully_answer ?_
  split
  · exact Outer.lawful { Outer.refl s with }
  · exact .refl s

theorem raiseTarget_lawful (p : Nat) : Lawful money s (raiseTarget p s) := by
  by_cases h : s.station = .trading
  · exact (raiseTarget_clerical p s).lawful (.inr h)
  · rw [raiseTarget, if_neg fun hr => h hr.1]
    exact .refl s

theorem examineBegin_lawful : Lawful money s (examineBegin s) := by
  by_cases h : s.station = .trading
  · exact (examineBegin_clerical s).lawful (.inr h)
  · have : canBegin s = false := by simp [canBegin, h]
    rw [examineBegin, if_neg (by simp [this])]
    exact .refl s

theorem examineCompletion_lawful : Lawful money s (examineCompletion s) := by
  by_cases h : s.station = .trading
  · exact (examineCompletion_clerical s).lawful (.inr h)
  · unfold examineCompletion
    split
    · next v _ =>
      have : canComplete s v = false := by simp [canComplete, h]
      rw [if_neg (by simp [this])]
      exact .refl s
    · exact .refl s

theorem execClose_lawfully : Lawfully money s (execClose s) := by
  refine hostCommand_lawfully ?_
  split
  · exact refuse_lawful _ s
  · split
    · exact (raiseTarget_lawful _).trans (refuse_lawful _ _)
    · exact ((raiseTarget_lawful _).trans examineBegin_lawful).accepted _

theorem execRosterRead_lawfully : Lawfully money s (execRosterRead s) := hostCommand_lawfully ((Lawful.refl s).accepted _)

theorem execPositionRead_lawfully (g j : Nat) : Lawfully money s (execPositionRead g j s) :=
  checkedCommand_lawfully fun _ => (Lawful.refl s).accepted _

theorem execBadCommand_lawfully (op : Nat) : Lawfully money s (execBadCommand op s) :=
  hostCommand_lawfully (refuse_lawful _ s)

/-! ### Card commands -/

theorem execIssue_lawfully (slot amount : Nat) (rel : Bool) (ref : Option Nat) :
    Lawfully True s (execIssue slot amount rel ref s) :=
  checkedCommand_lawfully fun h => by
    obtain ⟨hnew, hrest⟩ := firstFail_append h
    obtain ⟨hu, hslot⟩ := newWorkChecks_pass hnew
    obtain ⟨hamount, hrest⟩ := firstFail_cons hrest
    obtain ⟨-, hrest⟩ := firstFail_cons hrest
    obtain ⟨hroom, -⟩ := firstFail_cons hrest
    simp only [Bool.and_eq_true, decide_eq_true_eq] at hamount
    exact (runIssue_deal hslot hamount.2 (decide_eq_true_iff.1 hroom) rel ref hu).accepted _

theorem decideOwnRedeem_deal {slot amount : Nat} (card : CardId) (part : Bool) (h : 1 ≤ amount) :
    Deal money s (decideOwnRedeem slot card amount part s) := by
  unfold decideOwnRedeem
  split
  · exact (setOutcome_clerical _ _ s).deal
  · exact (setOutcome_clerical _ _ s).deal
  · split
    · exact (setOutcome_clerical _ _ s).deal
    · exact grantHold_deal (grantable_of_checks ‹_› ‹_› ‹_› h) _ _ _

theorem execRedeem_lawfully (slot : Nat) (card : CardId) (amount : Nat) (part : Bool) (ref : Option Nat) :
    Lawfully money s (execRedeem slot card amount part ref s) :=
  checkedCommand_lawfully fun h => by
    obtain ⟨h, hown⟩ := firstFail_append h
    obtain ⟨hnew, hrest⟩ := firstFail_append h
    obtain ⟨hu, hslot⟩ := newWorkChecks_pass hnew
    obtain ⟨-, hrest⟩ := firstFail_cons hrest
    obtain ⟨hamount, -⟩ := firstFail_cons hrest
    simp only [amountInRange, Bool.and_eq_true, decide_eq_true_eq] at hamount
    refine Lawful.accepted ?_ _
    unfold runRedeem
    dsimp only
    split
    · exact (putSlot_clerical _ (.inl hslot)).deal.trans (decideOwnRedeem_deal card part hamount.1) hu
    · next ho =>
      rw [if_neg ho] at hown
      have hplace := homeChecks_pass (firstFail_append hown).1
      exact (putSlot_clerical _ (.inl hslot)).deal.trans (startVolatile_deal _ (.inl hplace) _ _) hu

end

end Sys2Proof.Machine
end

section
/-! The commands of the till that work on held slots, credits, card states and range locks, and SLOT_FREE. -/
namespace Sys2Proof.Machine

section
variable {money : Prop} {s t : State}

/-! ### COMPLETE and CANCEL -/

/-- What the checks of a HELD slot's commands give (R65, R72). -/
theorem heldChecks_pass {slot : Nat} (h : firstFail (heldChecks s slot) = none) : Up s ∧ slot < 8 := by
  obtain ⟨h1, h⟩ := firstFail_cons h
  obtain ⟨h2, -⟩ := firstFail_cons h
  exact ⟨up_of_trading (isTrading_iff.1 h1), slotNamed_iff.1 h2⟩

/-- The hold of a HELD slot is its home's business: `heldOwn` and `heldHome` read it. -/
theorem heldOwn_of_heldSlot {slot : Nat} {sl : Slot} {h : HoldRef} (hs : heldSlot s slot = some (sl, h)) :
    heldOwn s slot = isOwn s sl.card := by simp [heldOwn, hs]

theorem completeOwn_deal (slot : Nat) (sl : Slot) (h : HoldRef) (amount : Nat) (s : State) :
    Deal True s (completeOwn slot sl h amount s) := by
  unfold completeOwn
  split
  · exact (setOutcome_clerical _ _ s).deal
  · next place g hf =>
    split
    · next tag a hb =>
      refine captureHold_deal (openAt_of_findSettled hf (by simp [grantOpen, hb])) ?_ _ _ _
      simpa [grantAmount, hb] using clampCapture_le a amount
    · exact (outcomeAfter_clerical _ _ _ s).deal
    · exact (outcomeAfter_clerical _ _ _ s).deal

theorem execComplete_lawfully (slot amount : Nat) : Lawfully True s (execComplete slot amount s) :=
  checkedCommand_lawfully fun h => by
    obtain ⟨h, hown⟩ := firstFail_append h
    obtain ⟨hu, hslot⟩ := heldChecks_pass (firstFail_append h).1
    refine Lawful.accepted ?_ _
    unfold runComplete
    split
    · exact .refl s
    · next sl hr hs =>
      dsimp only
      split
      · exact (putSlot_clerical _ (.inl hslot)).deal.trans (completeOwn_deal _ _ _ _ _) hu
      · next ho =>
        rw [if_neg (by rwa [heldOwn_of_heldSlot hs])] at hown
        have hplace := homeChecks_pass (firstFail_append hown).1
        exact (putSlot_clerical _ (.inl hslot)).deal.trans (startStored_deal _ (.inl hplace) _) hu

theorem cancelOwn_deal (slot : Nat) (sl : Slot) (h : HoldRef) (s : State) : Deal money s (cancelOwn slot sl h s) := by
  unfold cancelOwn
  split
  · exact (setOutcome_clerical _ _ s).deal
  · next place g hf =>
    split
    · next ho => exact releaseHold_deal (openAt_of_findSettled hf ho) _
    · exact (outcomeAfter_clerical _ _ _ s).deal

theorem execCancel_lawfully (slot : Nat) : Lawfully money s (execCancel slot s) :=
  checkedCommand_lawfully fun h => by
    obtain ⟨h, hown⟩ := firstFail_append h
    obtain ⟨hu, hslot⟩ := heldChecks_pass h
    refine Lawful.accepted ?_ _
    unfold runCancel
    split
    · exact .refl s
    · next sl hr hs =>
      dsimp only
      split
      · exact (putSlot_clerical _ (.inl hslot)).deal.trans (cancelOwn_deal _ _ _ _) hu
      · next ho =>
        rw [if_neg (by rwa [heldOwn_of_heldSlot hs])] at hown
        have hplace := homeChecks_pass (firstFail_append hown).1
        exact (putSlot_clerical _ (.inl hslot)).deal.trans (startVolatile_deal _ (.inl hplace) _ _) hu

/-! ### TOPUP and REFUND -/

theorem decideOwnCredit_deal (kind : CreditKind) (slot : Nat) (card : CardId) (amount : Nat) (ref : Option Nat) (s : State) :
    Deal True s (decideOwnCredit kind slot card amount ref s) := by
  unfold decideOwnCredit
  split
  · exact (setOutcome_clerical _ _ s).deal
  · exact (setOutcome_clerical _ _ s).deal
  · exact applyCredit_deal (creditable_of_checks ‹_› ‹_›) _ _ _ _ _

theorem creditCommand_lawfully (kind : CreditKind) (slot : Nat) (card : CardId) (amount : Nat) (ref : Option Nat) :
    Lawfully True s (checkedCommand s (creditCommandChecks kind slot card amount s) fun s =>
      accepted [] (runCredit kind slot card amount ref s)) :=
  checkedCommand_lawfully fun h => by
    obtain ⟨h, hown⟩ := firstFail_append h
    obtain ⟨hu, hslot⟩ := newWorkChecks_pass (firstFail_append h).1
    refine Lawful.accepted ?_ _
    unfold runCredit
    dsimp only
    split
    · exact (putSlot_clerical _ (.inl hslot)).deal.trans (decideOwnCredit_deal _ _ _ _ _ _) hu
    · next ho =>
      rw [if_neg ho] at hown
      have hplace := homeChecks_pass (firstFail_append hown).1
      exact (putSlot_clerical _ (.inl hslot)).deal.trans (startStored_deal _ (.inl hplace) _) hu

/-! ### ENQUIRE, FREEZE, UNFREEZE -/

theorem execEnquire_lawfully (slot : Nat) (card : CardId) : Lawfully money s (execEnquire slot card s) :=
  checkedCommand_lawfully fun h => by
    obtain ⟨h, hown⟩ := firstFail_append h
    obtain ⟨hu, hslot⟩ := newWorkChecks_pass (firstFail_append h).1
    refine Lawful.accepted ?_ _
    unfold runEnquire
    dsimp only
    split
    · exact (putSlot_clerical _ (.inl hslot)).deal.trans (outcomeAfter_clerical _ _ _ _).deal hu
    · next ho =>
      rw [if_neg ho] at hown
      have hplace := homeChecks_pass (firstFail_append hown).1
      exact (putSlot_clerical _ (.inl hslot)).deal.trans (startVolatile_deal _ (.inl hplace) _ _) hu

/-- A freeze that changes a card changes its state alone (R18). -/
theorem freezeDecision_change {n p : Nat} {b : Bool} {c : Card} (h : freezeDecision s n b = .change p c) :
    ∃ d, findCard s n = some (p, d) ∧ d.state = .active ∧ c = { d with state := .frozen } := by
  unfold freezeDecision at h
  split at h
  · exact absurd h (by simp)
  · next q d hf =>
    split at h
    · exact absurd h (by simp)
    · next ha =>
      split at h
      · exact absurd h (by simp)
      · obtain ⟨rfl, rfl⟩ := FreezeDecision.change.inj h
        exact ⟨d, hf, ha, rfl⟩

theorem freezeDecision_change_deal {n p : Nat} {b : Bool} {c : Card} (h : freezeDecision s n b = .change p c) (d : Draft)
    (k : Continuation) : Deal money s (changeStatus p c d k s) := by
  obtain ⟨c', hf, -, rfl⟩ := freezeDecision_change h
  exact changeStatus_deal (findCard_spec hf).1 _ _ _

theorem decideOwnFreeze_deal (slot : Nat) (card : CardId) (s : State) : Deal money s (decideOwnFreeze slot card s) := by
  unfold decideOwnFreeze
  split
  · exact freezeDecision_change_deal ‹_› _ _
  · exact (outcomeAfter_clerical _ _ _ s).deal
  · exact (outcomeAfter_clerical _ _ _ s).deal

theorem execFreeze_lawfully (slot : Nat) (card : CardId) : Lawfully money s (execFreeze slot card s) :=
  checkedCommand_lawfully fun h => by
    obtain ⟨h, hown⟩ := firstFail_append h
    obtain ⟨hu, hslot⟩ := newWorkChecks_pass (firstFail_append h).1
    refine Lawful.accepted ?_ _
    unfold runFreeze
    dsimp only
    split
    · exact (putSlot_clerical _ (.inl hslot)).deal.trans (decideOwnFreeze_deal _ _ _) hu
    · next ho =>
      rw [if_neg ho] at hown
      have hplace := homeChecks_pass (firstFail_append hown).1
      exact (putSlot_clerical _ (.inl hslot)).deal.trans (startVolatile_deal _ (.inl hplace) _ _) hu

theorem decideUnfreeze_deal (slot : Nat) (card : CardId) (ref : Option Nat) (s : State) :
    Deal money s (decideUnfreeze slot card ref s) := by
  unfold decideUnfreeze
  split
  · exact (setOutcome_clerical _ _ s).deal
  · next hf =>
    split
    · exact (setOutcome_clerical _ _ s).deal
    · exact changeStatus_deal (findCard_spec hf).1 _ _ _

theorem execUnfreeze_lawfully (slot : Nat) (card : CardId) (ref : Option Nat) (b : Bool) :
    Lawfully money s (execUnfreeze slot card ref b s) := by
  refine hostCommand_lawfully ((sampleProtect_lawful b s).trans ?_)
  dsimp only
  split
  · exact refuse_lawful _ _
  · next h =>
    obtain ⟨hu, hslot⟩ := newWorkChecks_pass (firstFail_append h).1
    exact Lawful.accepted ((putSlot_clerical _ (.inl hslot)).deal.trans (decideUnfreeze_deal _ _ _ _) hu) _

/-! ### RANGE_LOCK, SLOT_READ -/

theorem runRangeLock_deal (n low high : Nat) (active : Bool) (s : State) : Deal money s (runRangeLock n low high active s) :=
  (recorded_locks s _ (tabWf_tabPutD _ n _)).deal.trans
    ((claim_clerical _ _).trans (acceptFrame_clerical _ _ _ _ _)).deal

theorem execRangeLock_lawfully (n low high : Nat) (active b : Bool) :
    Lawfully money s (execRangeLock n low high active b s) := by
  refine hostCommand_lawfully ((sampleProtect_lawful b s).trans ?_)
  dsimp only
  split
  · exact refuse_lawful _ _
  · next h =>
    exact Lawful.accepted (runRangeLock_deal _ _ _ _ _ (up_of_trading (isTrading_iff.1 (firstFail_cons h).1))) _

theorem execSlotRead_lawfully (n : Nat) : Lawfully money s (execSlotRead n s) :=
  checkedCommand_lawfully fun _ => (Lawful.refl s).accepted _

/-! ### SLOT_FREE -/

/-- The number and the slot of a pending frame: what the frame area's order reads. -/
def numbered (p : PendingFrame) : Nat × Nat := (p.frame.number, p.slot)

/-- Pending frames may be marked, or leave the area, as long as their numbers and slots stay in order. -/
theorem frames_lawful {fs : List PendingFrame} (hsub : (fs.map numbered).Sublist (s.control.frames.map numbered))
    (ws : List Wait) : Lawful money s { s with control := { s.control with frames := fs, waits := ws } } := by
  refine { Lawful.refl s with
    bounded := fun h => { h with }
    tables := fun h => { h with }
    area := fun h => ?_
    room := fun h => { h with }
    books := fun h => { h with } }
  have hlen : fs.length ≤ s.control.frames.length := by simpa using hsub.length_le
  have keeps {R : Nat × Nat → Nat × Nat → Prop} (hR : s.control.frames.Pairwise fun f g => R (numbered f) (numbered g)) :
      fs.Pairwise fun f g => R (numbered f) (numbered g) :=
    List.pairwise_map.1 ((List.pairwise_map.2 hR).sublist hsub)
  exact
    { room := hlen.trans h.room
      numbers := keeps (R := fun a b => a.1 < b.1) h.numbers
      below := fun p hp => by
        obtain ⟨q, hq, he⟩ := List.mem_map.1 (hsub.subset (List.mem_map_of_mem hp))
        have hn : q.frame.number = p.frame.number := congrArg Prod.fst he
        exact hn ▸ h.below q hq
      slots := keeps (R := fun a b => a.2 ≠ b.2) h.slots
      down := fun hd => by
        rw [h.down hd] at hlen
        exact List.eq_nil_of_length_eq_zero (Nat.le_zero.1 hlen) }

theorem forsake_lawful (n : Nat) (s : State) : Lawful money s (forsake n s) := by
  refine frames_lawful ?_ _
  have same : ∀ f : PendingFrame,
      numbered (if outcomeFor n f.frame.continuation then { f with slotFreed := true } else f) = numbered f := fun f => by
    split <;> rfl
  simp only [List.map_map, Function.comp_def, same]
  exact List.Sublist.refl _

theorem releaseFreed_deal (h : HoldRef) (n : Nat) (s : State) : Deal money s (releaseFreed h n s) := by
  unfold releaseFreed
  split
  · exact .refl s
  · next hf =>
    split
    · next ho =>
      split
      · exact releaseHold_deal (openAt_of_findSettled hf ho) _
      · exact (recorded_lives s _ _ _ id).deal
    · exact .refl s

theorem releaseDetached_deal (sl : Slot) (h : HoldRef) (s : State) : Deal money s (releaseDetached sl h s) := by
  unfold releaseDetached
  split
  · next hr =>
    exact startVolatile_deal _ (.inl (freeTrackPlace_lt (trackerRoom_iff.1 (Bool.and_eq_true_iff.1 hr).1))) _ _
  · exact .refl s

theorem linkedTrack_mem {sl : Slot} {p : Nat} {tr : Track} (h : linkedTrack s sl = some (p, tr)) :
    ∃ q ∈ s.tracker.entries, q.1 = p := by
  obtain ⟨k, -, hk⟩ := Option.bind_eq_some_iff.1 h
  exact findTrack_mem hk

theorem freedEffect_deal (sl : Slot) (s : State) : Deal money s (freedEffect sl s) := by
  unfold freedEffect
  split
  · split
    · next h => exact (putTrack_clerical _ (.inr (linkedTrack_mem h))).deal
    · exact .refl s
  · split
    · refine Deal.trans ?_ (reexamine_clerical _ _).deal
      split
      · exact releaseFreed_deal _ _ s
      · exact releaseDetached_deal _ _ s
    · exact .refl s
  · split
    · exact (dropTrack_clerical _ _ s).deal
    · exact .refl s
  all_goals exact .refl s

theorem execSlotFree_lawfully (n : Nat) : Lawfully money s (execSlotFree n s) :=
  checkedCommand_lawfully fun h => by
    have hu := up_of_trading (isTrading_iff.1 (firstFail_cons h).1)
    refine Lawful.accepted ?_ _
    unfold runSlotFree
    split
    · exact .refl s
    · exact (freeSlot_clerical n s).deal.trans (Deal.trans (fun _ => forsake_lawful n _) (freedEffect_deal _ _)) hu

end

end Sys2Proof.Machine
end

section
/-! The cursors, the notice unit, the archive mark, and the link's events. -/
namespace Sys2Proof.Machine

section
variable {money : Prop} {s t : State}

/-! ### Single changes lawful at every station state -/

theorem post_lawful (k : NoticeKind) (x : Subject) (c : Nat) (s : State) : Lawful money s (post k x c s) :=
  Outer.lawful { Outer.refl s with
    notices := postNotice_length _
    mask := fun h => (postNotice_mask _ _).trans_le h }

theorem putCursor_lawful (n : Nat) (c : Cursor) (s : State) : Lawful money s (putCursor n c s) :=
  Outer.lawful { Outer.refl s with cursors := tabWf_tabPutD _ n c }

theorem putRoster_lawful (j : Nat) (e : RosterEntry) (s : State) : Lawful money s (putRoster j e s) :=
  Outer.lawful { Outer.refl s with roster := tabWf_tabPutD _ j e }

theorem withPhase_lawful (p : TxPhase) (d : List Byte) (s : State) : Lawful money s (withPhase p d s) :=
  Outer.lawful { Outer.refl s with }

/-! ### Cursors (R146 to R153) -/

theorem cursors_mark_lawful (m : Nat) (s : State) : Lawful money s { s with cursors := { s.cursors with mark := m } } :=
  Outer.lawful { Outer.refl s with }

theorem execCursorSet_lawfully (c i n b d e m f : Nat) (notice : Bool) :
    Lawfully money s (execCursorSet c i n b d e m f notice s) := by
  refine hostCommand_lawfully ?_
  split
  · exact refuse_lawful _ s
  · split
    · exact refuse_lawful _ s
    · split
      · exact refuse_lawful _ s
      · unfold runCursorSet
        dsimp only
        split
        · exact Lawful.accepted ((putCursor_lawful _ _ s).trans (cursors_mark_lawful _ _)) _
        · exact Lawful.accepted (putCursor_lawful _ _ s) _

theorem cursorNotice_lawful (n : Nat) (c : Cursor) (k : NoticeKind) (s : State) : Lawful money s (cursorNotice n c k s) := by
  unfold cursorNotice
  split
  · exact post_lawful _ _ _ s
  · exact .refl s

theorem endCursor_lawful (n : Nat) (c : Cursor) (s : State) : Lawful money s (endCursor n c s) :=
  (putCursor_lawful _ _ s).trans (cursorNotice_lawful _ _ _ _)

theorem lookNext_lawful (n : Nat) (s : State) : Lawful money s (lookNext n s).2 := by
  unfold lookNext
  dsimp only
  split
  · unfold lookForward
    dsimp only
    split <;> exact putCursor_lawful _ _ s
  · unfold lookBackward
    split
    · exact putCursor_lawful _ _ s
    · exact endCursor_lawful _ _ s

theorem streamOn_lawful (st : CursorStream) (i : ReadItem) (s : State) : Lawful money s (streamOn st i s) :=
  Outer.lawful { Outer.refl s with }

theorem streamLook_lawful (st : CursorStream) (m : CursorMode) (s : State) : Lawful money s (streamLook st m s) := by
  have h := lookNext_lawful (money := money) st.cursor s
  unfold streamLook
  split <;> next hl => exact ((congrArg Prod.snd hl :) ▸ h).trans (streamOn_lawful _ _ _)

theorem nextRecord_lawful (st : CursorStream) (s : State) : Lawful money s (nextRecord st s) := by
  unfold nextRecord
  dsimp only
  split
  · exact streamOn_lawful _ _ s
  · split
    · exact streamLook_lawful _ _ s
    · split
      · exact streamOn_lawful _ _ s
      · exact streamLook_lawful _ _ s
    · split
      · split <;> exact streamOn_lawful _ _ s
      · exact streamLook_lawful _ _ s

theorem raiseMark_lawful (n : Nat) (e : JournalEntry) (s : State) : Lawful money s (raiseMark n e s) := by
  unfold raiseMark
  split
  · exact cursors_mark_lawful _ s
  · exact .refl s

theorem entryRead_lawful (st : CursorStream) (e : JournalEntry) (s : State) : Lawful money s (entryRead st e s) := by
  unfold entryRead
  dsimp only
  split
  · exact ((raiseMark_lawful _ _ s).trans (endCursor_lawful _ _ _)).trans (nextRecord_lawful _ _)
  · split
    · exact ((raiseMark_lawful _ _ s).trans ((putCursor_lawful _ _ _).trans (cursorNotice_lawful _ _ _ _))).trans
        (nextRecord_lawful _ _)
    · exact ((raiseMark_lawful _ _ s).trans (putCursor_lawful _ _ _)).trans (nextRecord_lawful _ _)

theorem execCursorEntryRead_lawfully : Lawfully money s (execCursorEntryRead s) := by
  refine lawfully_answer ?_
  split
  · split
    · exact entryRead_lawful _ _ s
    · exact nextRecord_lawful _ s
    all_goals exact .refl s
  · exact .refl s

theorem execCursorRecordChosen_lawfully : Lawfully money s (execCursorRecordChosen s) := by
  refine lawfully_answer ?_
  split
  · split
    case h_4 => exact .refl s
    all_goals exact nextRecord_lawful _ s
  · exact .refl s

theorem execCursorRead_lawfully (n : Nat) : Lawfully money s (execCursorRead n s) :=
  checkedCommand_lawfully fun _ => ((putCursor_lawful _ _ s).accepted _).trans (withSession_lawful _ _)

theorem execArchiveAck_lawfully (i : Nat) : Lawfully money s (execArchiveAck i s) :=
  checkedCommand_lawfully fun h => by
    have hu : Up s := by
      have := (firstFail_cons h).1
      simp only [Bool.or_eq_true, decide_eq_true_eq] at this
      exact this
    refine Lawful.accepted ?_ _
    split
    · exact .refl s
    · exact (runArchiveAck_clerical i s).lawful hu

/-! ### The notice unit (R178, R180) -/

theorem execTakeNotice_lawfully : Lawfully money s (execTakeNotice s) :=
  checkedCommand_lawfully fun _ => by
    unfold runTakeNotice
    split
    · exact ((Lawful.refl s).accepted _).trans (withSession_lawful _ _)
    · exact (Lawful.refl s).accepted _

theorem execSetMask_lawfully (m : Nat) : Lawfully money s (execSetMask m s) :=
  checkedCommand_lawfully fun h => by
    have hm := decide_eq_true_iff.1 (firstFail_cons (firstFail_cons h).2).1
    have masked : Outer s { s with notices := { s.notices with mask := m } } := { Outer.refl s with mask := fun _ => hm }
    exact masked.lawful.accepted _

theorem execNoticeRecordClocked_lawfully : Lawfully money s (execNoticeRecordClocked s) := by
  refine lawfully_answer ?_
  split
  · next seq _ =>
    have left : Outer s { s with notices := { s.notices with queue := s.notices.queue.filter fun n => n.seq ≠ seq } } :=
      { Outer.refl s with notices := fun h => (List.length_filter_le _ _).trans h }
    exact left.lawful.trans (withSession_lawful _ _)
  · exact .refl s

/-! ### The link controller (R47 to R51) -/

/-- The frames of the transmit queue change, their number does not rise. -/
theorem tx_lawful {fs : List TxFrame} (h : fs.length ≤ s.link.tx.length) :
    Lawful money s { s with link := { s.link with tx := fs } } :=
  Outer.lawful { Outer.refl s with tx := fun hr => h.trans hr }

theorem execAttemptBegin_lawfully : Lawfully money s (execAttemptBegin s) := by
  refine lawfully_answer ?_
  split
  · next f rest _ htx =>
    split
    · exact Lawful.trans (tx_lawful (by simp [htx])) (withPhase_lawful _ _ _)
    · exact .refl s
  · exact .refl s

theorem headGone_lawful (s : State) : Lawful money s (headGone s) := by
  unfold headGone
  split
  · next f rest htx =>
    have gone : Lawful money s (withPhase .quiet [] { s with link := { s.link with tx := rest } }) :=
      Lawful.trans (tx_lawful (by simp [htx])) (withPhase_lawful _ _ _)
    dsimp only
    split
    · next ht => exact gone.trans ((tellOwner_clerical _ _).lawful (.inr (isTrading_iff.1 ht)))
    · exact gone
  · exact withPhase_lawful _ _ s

theorem execAttemptIntact_lawfully : Lawfully money s (execAttemptIntact s) := by
  refine lawfully_answer ?_
  split
  · exact headGone_lawful s
  · exact withPhase_lawful _ _ s
  all_goals exact .refl s

theorem collide_lawful (draw : Nat) (s : State) : Lawful money s (collide draw s) := by
  unfold collide
  split
  · next f rest htx =>
    split
    · exact Lawful.trans (tx_lawful (by simp [htx])) (withPhase_lawful _ _ _)
    · exact headGone_lawful s
  · exact withPhase_lawful _ _ s

theorem execAttemptCollided_lawfully (draw : Nat) : Lawfully money s (execAttemptCollided draw s) := by
  refine lawfully_answer ?_
  split
  · exact collide_lawful _ s
  · exact withPhase_lawful _ _ s
  all_goals exact .refl s

theorem execBackoffEnd_lawfully : Lawfully money s (execBackoffEnd s) := by
  refine lawfully_answer ?_
  split
  · exact withPhase_lawful _ _ s
  all_goals exact .refl s

theorem offerPresence_lawful (s : State) : Lawful money s (offerPresence s) := by
  by_cases h : s.station = .trading
  · exact (offerPresence_clerical s).lawful (.inr h)
  · rw [offerPresence, if_neg h]
    exact .refl s

theorem execOwedFramePlaced_lawfully : Lawfully money s (execOwedFramePlaced s) := by
  refine lawfully_answer ?_
  split
  · next h =>
    refine Clerical.lawful ?_ (.inr (isTrading_iff.1 h))
    unfold placeNextOwed
    split
    · exact clerical_owed _ s
    · split
      · exact (clerical_owed _ s).trans (offerOwed_clerical _ _)
      · exact .refl s
  · exact .refl s

theorem rosterDown_lawful (j : Nat) (s : State) : Lawful money s (rosterDown j s) := by
  by_cases h : s.station = .trading
  · exact (rosterDown_clerical j s).lawful (.inr h)
  · unfold rosterDown
    split
    · rw [if_neg fun hr => h hr.1]
      exact .refl s
    · exact .refl s

theorem execSilenceTimeout_lawfully (j : Nat) : Lawfully money s (execSilenceTimeout j s) := by
  refine lawfully_answer ?_
  split
  · exact ((putRoster_lawful _ _ s).trans (post_lawful _ _ _ _)).trans (rosterDown_lawful _ _)
  · exact .refl s

/-! ### Hand-overs (R54 to R57) -/

/-- A hand-over is lawful when its owner's work is. -/
theorem handOver_lawfully {kind : Payload → Bool} {take : LinkFrame → State → State}
    (h : ∀ f t, Lawful money t (take f t)) : Lawfully money s (handOver kind take s) := by
  refine lawfully_answer ?_
  split
  · next f rest hrx =>
    split
    · have taken : Outer s { s with link := { s.link with rx := rest } } :=
        { Outer.refl s with rx := fun hr => (Nat.le_succ _).trans (by rwa [hrx] at hr) }
      exact taken.lawful.trans (h f _)
    · exact .refl s
  · exact .refl s

theorem traded_lawful {serve : LinkFrame → Int → State → State} (h : ∀ f x t, Deal money t (serve f x t)) (f : LinkFrame)
    (s : State) : Lawful money s (traded serve f s) := by
  unfold traded
  split
  · next ht => exact (raiseByStamp_clerical _ s).deal.trans (h _ _ _) (.inr (isTrading_iff.1 ht))
  · exact .refl s

theorem periodCheck_clerical (x : Int) (s : State) : Clerical s (periodCheck x s) := by
  unfold periodCheck
  split
  · exact examineBegin_clerical s
  · exact .refl s

theorem decideHold_deal (f : LinkFrame) {n a : Nat} (b : Bool) (ha : a ≠ 0) (s : State) : Deal money s (decideHold f n a b s) := by
  unfold decideHold
  split
  · exact (offerAnswer_clerical _ _ _ s).deal
  · exact (offerAnswer_clerical _ _ _ s).deal
  · split
    · exact (offerAnswer_clerical _ _ _ s).deal
    · exact grantHold_deal (grantable_of_checks ‹_› ‹_› ‹_› (Nat.pos_of_ne_zero ha)) _ _ _

theorem serveHoldReq_deal (f : LinkFrame) (x : Int) (s : State) : Deal money s (serveHoldReq f x s) := by
  unfold serveHoldReq
  split
  · split
    · exact .refl s
    · next ha =>
      refine (periodCheck_clerical x s).deal.trans ?_
      unfold admitHold
      split
      · exact (offerAnswer_clerical _ _ _ _).deal
      · split
        · exact (answerAfter_clerical _ _ _ _ _).deal
        · exact decideHold_deal _ _ ha _
  · exact .refl s

theorem serveCapture_deal (f : LinkFrame) {x : Int} {n m p a : Nat} {g : Grant}
    (hf : findSettled s f.src n m x = some (p, g)) : Deal True s (serveCapture f p g a s) := by
  unfold serveCapture
  split
  · next tag amount hb =>
    split
    · refine captureHold_deal (openAt_of_findSettled hf (by simp [grantOpen, hb])) ?_ _ _ _
      simpa [grantAmount, hb] using clampCapture_le amount a
    · exact .refl s
  · exact (answerAfter_clerical _ _ _ _ s).deal
  · exact (answerAfter_clerical _ _ _ _ s).deal

theorem serveRelease_deal (f : LinkFrame) {x : Int} {n m p : Nat} {g : Grant}
    (hf : findSettled s f.src n m x = some (p, g)) : Deal money s (serveRelease f p g s) := by
  unfold serveRelease
  split
  · next ho =>
    split
    · exact releaseHold_deal (openAt_of_findSettled hf ho) _
    · exact .refl s
  · exact (answerAfter_clerical _ _ _ _ s).deal

theorem serveSettleReq_deal (f : LinkFrame) (x : Int) (s : State) : Deal True s (serveSettleReq f x s) := by
  unfold serveSettleReq
  split
  · split
    · exact .refl s
    · split
      · exact (offerAnswer_clerical _ _ _ s).deal
      · exact serveCapture_deal f ‹_›
  · split
    · exact (offerAnswer_clerical _ _ _ s).deal
    · exact serveRelease_deal f ‹_›
  · exact .refl s

theorem serveCreditReq_deal (f : LinkFrame) (x : Int) (s : State) : Deal True s (serveCreditReq f x s) := by
  unfold serveCreditReq
  split
  · split
    · exact .refl s
    · refine (periodCheck_clerical x s).deal.trans ?_
      unfold admitCredit
      split
      · exact (offerAnswer_clerical _ _ _ _).deal
      · split
        · exact (answerAfter_clerical _ _ _ _ _).deal
        · unfold decideCredit
          split
          · exact (offerAnswer_clerical _ _ _ _).deal
          · exact (offerAnswer_clerical _ _ _ _).deal
          · exact applyCredit_deal (creditable_of_checks ‹_› ‹_›) _ _ _ _ _
  · exact .refl s

theorem serveStatusReq_deal (f : LinkFrame) (x : Int) (s : State) : Deal money s (serveStatusReq f x s) := by
  unfold serveStatusReq
  split
  · exact (answerAfter_clerical _ _ _ _ s).deal
  · split
    · exact (answerAfter_clerical _ _ _ _ s).deal
    · exact (offerAnswer_clerical _ _ _ s).deal
    · exact freezeDecision_change_deal ‹_› _ _
  · exact .refl s

/-- What a matching answer is taken for stands in its place. -/
theorem matchAnswer_mem {f : LinkFrame} {x : Int} {p : Nat} {tr : Track} (h : matchAnswer s f x = some (p, tr)) :
    ∃ q ∈ s.tracker.entries, q.1 = p := by
  unfold matchAnswer at h
  split at h
  · next hf =>
    split at h
    · obtain ⟨rfl, rfl⟩ := Prod.mk.inj (Option.some.inj h)
      exact findTrack_mem hf
    · simp at h
  · simp at h

theorem releaseAbandoned_deal {p : Nat} (tr : Track) (n : Nat) (place : ∃ q ∈ s.tracker.entries, q.1 = p) :
    Deal money s (releaseAbandoned p tr n s) := by
  unfold releaseAbandoned
  split
  · exact startVolatile_deal _ (.inr place) _ _
  · exact (dropTrack_clerical _ _ s).deal

theorem takeHoldAns_deal (f : LinkFrame) (x : Int) (s : State) : Deal money s (takeHoldAns f x s) := by
  unfold takeHoldAns
  split
  · split
    · exact (dropTrack_clerical _ _ s).deal
    · exact (takeDecline_clerical _ _ _ s).deal
  · next hm _ =>
    split
    · exact releaseAbandoned_deal _ _ (matchAnswer_mem hm)
    · exact (takeGrant_clerical _ _ _ _ _ s).deal
  · exact .refl s

/-! ### PRESENCE (R59, R61, R62) -/

theorem noteStation_lawful (j : Nat) (b : Bool) (p g : Nat) (s : State) : Lawful money s (noteStation j b p g s) := by
  unfold noteStation
  extract_lets e st s1
  have noted : Lawful money s s1 := putRoster_lawful _ _ s
  split
  · exact noted
  · exact noted.trans (post_lawful _ _ _ _)

theorem takePresence_lawful (f : LinkFrame) (s : State) : Lawful money s (takePresence f s) := by
  unfold takePresence
  split
  · dsimp only
    split
    · next ht =>
      split
      · exact (noteStation_lawful _ _ _ _ s).trans (rosterDown_lawful _ _)
      · exact Deal.trans (fun _ => noteStation_lawful _ _ _ _ s) ((((presenceRaises_clerical _ _ _).trans
          (resendInDoubt_clerical _ _)).trans (resendPosition_clerical _ _ _ _)).deal) (.inr (isTrading_iff.1 ht))
    · exact noteStation_lawful _ _ _ _ s
  · exact .refl s

end

end Sys2Proof.Machine
end

section
/-! The timers, the work that waits for a frame slot, the close, and the passing of a millisecond. -/
namespace Sys2Proof.Machine

section
variable {money : Prop} {s t : State}

/-! ### Hold lives and hold timers (R38, R39, R76) -/

/-- The OPEN hold whose life is counted stands at its place. -/
theorem openLife_openAt {n p life : Nat} {g : Grant} (h : openLife s n = some ((p, g), life)) : OpenAt p g s := by
  unfold openLife at h
  split at h
  · next hf _ =>
    split at h
    · next ho =>
      obtain ⟨rfl, -⟩ := Prod.mk.inj (Option.some.inj h)
      exact openAt_of_findHold hf ho
    · simp at h
  · simp at h

theorem execHoldExpiry_lawfully (n : Nat) : Lawfully money s (execHoldExpiry n s) := by
  refine lawfully_answer ?_
  split
  · next hl =>
    split
    · next ht =>
      have hu : Up s := .inr (isTrading_iff.1 ht.1)
      split
      · exact expireHold_deal (openLife_openAt hl) hu
      · exact holdBack_deal _ s hu
    · exact .refl s
  · exact .refl s

theorem execHeldBackExpiry_lawfully (n : Nat) : Lawfully money s (execHeldBackExpiry n s) := by
  refine lawfully_answer ?_
  split
  · next hl =>
    split
    · next ht => exact expireHold_deal (openLife_openAt hl) (.inr (isTrading_iff.1 ht.1))
    · exact .refl s
  · exact .refl s

theorem execHoldTimerExpiry_lawfully (n : Nat) : Lawfully money s (execHoldTimerExpiry n s) := by
  refine lawfully_answer ?_
  split
  · split
    · next ht => exact (setOutcome_clerical _ _ s).lawful (.inr (isTrading_iff.1 ht.1))
    · exact .refl s
  · exact .refl s

/-! ### The tracker (R68, R71, R83, R166) -/

theorem execAnswerWaitExpiry_lawfully (j n : Nat) : Lawfully money s (execAnswerWaitExpiry j n s) := by
  refine lawfully_answer ?_
  split
  · next hf =>
    split
    · next ht => exact (waitOver_clerical _ (.inr (findTrack_mem hf))).lawful (.inr (isTrading_iff.1 ht.1))
    · exact .refl s
  · exact .refl s

theorem execInDoubtMove_lawfully (j n : Nat) : Lawfully money s (execInDoubtMove j n s) := by
  refine lawfully_answer ?_
  split
  · next hf =>
    split
    · next ht => exact (moveInDoubt_clerical _ (.inr (findTrack_mem hf))).lawful (.inr (isTrading_iff.1 ht.1))
    · exact .refl s
  · exact .refl s

theorem execDeferredRelease_lawfully (n : Nat) : Lawfully money s (execDeferredRelease n s) := by
  refine lawfully_answer ?_
  split
  · next ht =>
    have hu : Up s := .inr (isTrading_iff.1 ht.1)
    split
    · next hf =>
      split
      · next ho => exact releaseHold_deal (openAt_of_findHold hf ho) _ hu
      · exact undefer_deal _ s hu
    · exact undefer_deal _ s hu
  · exact .refl s

theorem execCounterStep_lawfully : Lawfully money s (execCounterStep s) := by
  refine lawfully_answer ?_
  split
  · next ht => exact takeStep_deal s (.inr (isTrading_iff.1 ht.1))
  · exact .refl s

/-! ### The close deadline (R107) -/

/-- The entries of `l` still stand where they stood, as far as the table is in canonical form. -/
structure Standing (l : List (Nat × Grant)) (grants : Tab Grant) : Prop where
  listed : ∀ e ∈ l, ∃ q ∈ grants, q.1 = e.1
  apart : tabWf grants = true → l.Pairwise fun a b => a.1 ≠ b.1
  get : tabWf grants = true → ∀ e ∈ l, tabGet grants e.1 = some e.2

/-- A table in canonical form stands where it stands. -/
theorem standing_self (grants : Tab Grant) : Standing grants grants where
  listed := fun e he => ⟨e, he, rfl⟩
  apart := fun h => ((tabWf_iff _).1 h).imp Nat.ne_of_lt
  get := fun h _ he => tabGet_of_mem h he

/-- A write makes no table canonical that was not: the places it had are still listed in their order. -/
theorem tabWf_of_tabWf_tabPut {α : Type} {t : Tab α} {k : Nat} {v : α} (h : tabWf (tabPut t k v) = true) : tabWf t = true := by
  suffices hsub : (t.map (·.1)).Sublist ((tabPut t k v).map (·.1)) by
    rw [tabWf_iff] at h ⊢
    exact List.pairwise_map.1 ((List.pairwise_map.2 h).sublist hsub)
  induction t with
  | nil => exact List.nil_sublist _
  | cons p t ih =>
    obtain ⟨i, a⟩ := p
    unfold tabPut
    split
    · exact List.sublist_cons_self _ _
    · split
      · next he => simp [he]
      · simpa using (ih (by
          rw [tabWf_iff] at h ⊢
          unfold tabPut at h
          rw [if_neg ‹_›, if_neg ‹_›] at h
          exact (List.pairwise_cons.1 h).2))

/-- Writing the first entry's place leaves the rest standing. -/
theorem Standing.tail {e : Nat × Grant} {l : List (Nat × Grant)} {grants : Tab Grant} (h : Standing (e :: l) grants)
    (g : Grant) : Standing l (tabPut grants e.1 g) where
  listed := fun f hf => by
    obtain ⟨q, hq, he⟩ := h.listed f (List.mem_cons_of_mem _ hf)
    have := isSome_tabGet_of_mem hq
    have hs : (tabGet (tabPut grants e.1 g) f.1).isSome = true := by
      rw [tabGet_tabPut]
      split
      · rfl
      · rwa [← he]
    exact tabGet_isSome_iff.1 hs
  apart := fun hw => (List.pairwise_cons.1 (h.apart (tabWf_of_tabWf_tabPut hw))).2
  get := fun hw f hf => by
    have hw := tabWf_of_tabWf_tabPut hw
    rw [tabGet_tabPut, if_neg ((List.pairwise_cons.1 (h.apart hw)).1 f hf).symm]
    exact h.get hw f (List.mem_cons_of_mem _ hf)

theorem Standing.weaken {e : Nat × Grant} {l : List (Nat × Grant)} {grants : Tab Grant} (h : Standing (e :: l) grants) :
    Standing l grants where
  listed := fun f hf => h.listed f (List.mem_cons_of_mem _ hf)
  apart := fun hw => (List.pairwise_cons.1 (h.apart hw)).2
  get := fun hw f hf => h.get hw f (List.mem_cons_of_mem _ hf)

@[simp] theorem endHold_grants (p : Nat) (g : Grant) (st : HoldState) (back : Nat) (s : State) :
    (endHold p g st back s).1.requests.grants = tabPut s.requests.grants p (withHoldState g st) := by
  unfold endHold
  dsimp only
  split <;> rfl

/-- A forced expiry is lawful, and the entries after it still stand (R39, R107). -/
theorem forceExpiry_deal {e : Nat × Grant} {l : List (Nat × Grant)} (h : Standing (e :: l) s.requests.grants)
    (ho : grantOpen e.2 = true) :
    Deal money s (forceExpiry e.1 e.2 s) ∧ Standing l (forceExpiry e.1 e.2 s).requests.grants := by
  unfold forceExpiry
  split
  · refine ⟨expireEntry_deal ⟨h.listed e List.mem_cons_self, fun hc => h.get hc.grantsForm e List.mem_cons_self, ho⟩, ?_⟩
    rw [expireEntry, (acceptFrame_clerical _ _ _ _ _).requests, endHold_grants]
    exact h.tail _
  · exact ⟨holdBack_deal _ s, h.weaken⟩

theorem forceExpiries_deal (p : Nat) (s : State) : Deal money s (forceExpiries p s) := by
  suffices ∀ (l : List (Nat × Grant)) (t : State), Standing l t.requests.grants →
      Deal money t (l.foldl (fun s e =>
        if grantOpen e.2 ∧ e.2.period = p ∧ !grantFree (lastClosed s) e.2 then forceExpiry e.1 e.2 s else s) t) from
    this _ s (standing_self _)
  intro l
  induction l with
  | nil => exact fun t _ => .refl t
  | cons e l ih =>
    intro t ht
    rw [List.foldl_cons]
    split
    · next ho =>
      obtain ⟨hd, hs⟩ := forceExpiry_deal (money := money) ht ho.1
      exact hd.trans (ih _ hs)
    · exact ih _ ht.weaken

theorem execCloseDeadline_lawfully : Lawfully money s (execCloseDeadline s) := by
  refine lawfully_answer ?_
  split
  · next h =>
    have hu : Up s := .inr (isTrading_iff.1 (Bool.and_eq_true_iff.1 h).1)
    unfold passDeadline
    exact ((((deadlineSpent_clerical s).trans (silenceRows_clerical _)).trans (lapseSlots_clerical _ _)).trans
      (deadlineTracks_clerical _ _)).deal.trans ((forceExpiries_deal _ _).trans
        ((examineRows_clerical _).trans (examineCompletion_clerical _)).deal) hu
  · exact .refl s

/-! ### Erase begin and the passing of a millisecond -/

theorem placeControl_lawful (u : ControlUse) (s : State) : Lawful money s (placeControl u s) :=
  Outer.lawful { Outer.refl s with }

theorem journal_lawful (j : Journal) (s : State) : Lawful money s { s with journal := j } :=
  Outer.lawful { Outer.refl s with }

theorem beginErase_lawful (b : Nat) (s : State) : Lawful money s (beginErase b s) :=
  (journal_lawful _ s).trans (placeControl_lawful _ _)

theorem execEraseBegin_lawfully : Lawfully money s (execEraseBegin s) := by
  refine lawfully_answer ?_
  split
  · split
    · exact beginErase_lawful _ s
    · exact .refl s
  · exact .refl s

/-- A change of every content leaves the places as they are. -/
theorem tabMap_places {α β : Type} {f : α → β} {t : Tab α} {n : Nat} (h : ∀ p ∈ t, p.1 < n) : ∀ p ∈ tabMap f t, p.1 < n := by
  intro p hp
  obtain ⟨q, hq, rfl⟩ := List.mem_map.1 hp
  exact h q hq

theorem eraseOn_lawful (s : State) : Lawful money s (eraseOn s) := by
  unfold eraseOn
  split
  · split
    · exact Outer.lawful { Outer.refl s with }
    · exact .refl s
  · exact .refl s

theorem silencesOn_lawful (s : State) : Lawful money s (silencesOn s) :=
  Outer.lawful { Outer.refl s with roster := tabWf_tabMap _ }

theorem pending_lawful (q : List Instr) (s : State) : Lawful money s { s with pending := q } :=
  Outer.lawful { Outer.refl s with }

/-- The timers of a part that works go on: lives, slots, entries and the view keep their places (R38, R68, R76, R106). -/
theorem timersOn_deal (s : State) : Deal money s (timersOn s) := fun hu =>
  { Lawful.refl s with
    halted := fun hh => absurd hh hu.not_halted
    bounded := fun h => { h with }
    tables := fun h =>
      { h with
        lives := tabWf_tabMap _ h.lives
        slots := by dsimp only [timersOn]; exact tabWf_tabMap _ h.slots
        entries := by dsimp only [timersOn]; exact tabWf_tabMap _ h.entries }
    area := fun h => { h with }
    room := fun h => { h with 
        slots := by dsimp only [timersOn]; exact tabMap_places h.slots
        entries := by dsimp only [timersOn]; exact tabMap_places h.entries }
    books := fun h => h.congr rfl rfl rfl rfl rfl rfl (Nat.le_refl _) }

theorem tick_lawful (s : State) : Lawful money s (tick s) := by
  unfold tick
  split
  · exact .refl s
  · exact eraseOn_lawful s
  · exact eraseOn_lawful s
  · next ht =>
    exact (((silencesOn_lawful s).trans (timersOn_deal _ (.inr ht))).trans (eraseOn_lawful _)).trans (pending_lawful _ _)
  · exact (silencesOn_lawful s).trans (pending_lawful _ _)

end

end Sys2Proof.Machine
end

section
/-! The commands that are more than lawful: START, the clash of stations, the ends of programs and erases, reset, its release and
the end of recovery. -/
namespace Sys2Proof.Machine

/-- Commands that change the station state, the store or the last closed period. -/
def isEvent : Instr → Prop
  | .start .. | .frameReceived _ | .programComplete _ | .eraseComplete _ | .reset | .resetRelease | .recoveryEnd => True
  | _ => False

/-- Commands that may change the liability, but for a reset and the end of recovery (R6). -/
def movesMoney : Instr → Prop
  | .issue .. | .topup .. | .refund .. | .complete .. | .creditReq | .settleReq => True
  | _ => False

/-- Every command but those of `isEvent` is lawful. -/
theorem exec_lawfully (c : Instr) (s : State) (h : ¬ isEvent c) : Lawfully (movesMoney c) s (exec c s) := by
  cases c with
  | start | frameReceived | programComplete | eraseComplete | reset | resetRelease | recoveryEnd => exact absurd trivial h
  | status b => exact execStatus_lawfully b
  | close => exact execClose_lawfully
  | rosterRead => exact execRosterRead_lawfully
  | issue slot a rel ref => exact execIssue_lawfully slot a rel ref
  | redeem slot c a part ref => exact execRedeem_lawfully slot c a part ref
  | complete slot a => exact execComplete_lawfully slot a
  | cancel slot => exact execCancel_lawfully slot
  | topup slot c a ref => exact creditCommand_lawfully .topup slot c a ref
  | refund slot c a ref => exact creditCommand_lawfully .refund slot c a ref
  | enquire slot c => exact execEnquire_lawfully slot c
  | freeze slot c => exact execFreeze_lawfully slot c
  | unfreeze slot c ref b => exact execUnfreeze_lawfully slot c ref b
  | rangeLock n low high a b => exact execRangeLock_lawfully n low high a b
  | slotRead slot => exact execSlotRead_lawfully slot
  | slotFree slot => exact execSlotFree_lawfully slot
  | takeNotice => exact execTakeNotice_lawfully
  | setMask m => exact execSetMask_lawfully m
  | positionRead g j => exact execPositionRead_lawfully g j
  | cursorSet c i n b d e m f notice => exact execCursorSet_lawfully c i n b d e m f notice
  | cursorRead c => exact execCursorRead_lawfully c
  | archiveAck i => exact execArchiveAck_lawfully i
  | badCommand op => exact execBadCommand_lawfully op
  | cursorEntryRead => exact execCursorEntryRead_lawfully
  | noticeRecordClocked => exact execNoticeRecordClocked_lawfully
  | noticesLostCleared => exact execNoticesLostCleared_lawfully
  | presence => exact handOver_lawfully takePresence_lawful
  | holdReq => exact handOver_lawfully (traded_lawful serveHoldReq_deal)
  | settleReq => exact handOver_lawfully (traded_lawful serveSettleReq_deal)
  | creditReq => exact handOver_lawfully (traded_lawful serveCreditReq_deal)
  | statusReq => exact handOver_lawfully (traded_lawful serveStatusReq_deal)
  | holdAns => exact handOver_lawfully (traded_lawful takeHoldAns_deal)
  | settleAns => exact handOver_lawfully (traded_lawful fun f x t => (takeSettleAns_clerical f x t).deal)
  | creditAns => exact handOver_lawfully (traded_lawful fun f x t => (takeCreditAns_clerical f x t).deal)
  | statusAns => exact handOver_lawfully (traded_lawful fun f x t => (takeStatusAns_clerical f x t).deal)
  | position => exact handOver_lawfully (traded_lawful fun f x t => (takePosition_clerical f x t).deal)
  | attemptBegin => exact execAttemptBegin_lawfully
  | attemptIntact => exact execAttemptIntact_lawfully
  | attemptCollided d => exact execAttemptCollided_lawfully d
  | backoffEnd => exact execBackoffEnd_lawfully
  | presenceTimer => exact lawfully_answer (offerPresence_lawful s)
  | owedFramePlaced => exact execOwedFramePlaced_lawfully
  | silenceTimeout j => exact execSilenceTimeout_lawfully j
  | holdExpiry n => exact execHoldExpiry_lawfully n
  | heldBackExpiry n => exact execHeldBackExpiry_lawfully n
  | holdTimerExpiry n => exact execHoldTimerExpiry_lawfully n
  | answerWaitExpiry j n => exact execAnswerWaitExpiry_lawfully j n
  | inDoubtMove j n => exact execInDoubtMove_lawfully j n
  | deferredRelease n => exact execDeferredRelease_lawfully n
  | counterStep => exact execCounterStep_lawfully
  | closeBegin => exact lawfully_answer examineBegin_lawful
  | closeDeadline => exact execCloseDeadline_lawfully
  | closeCompletion => exact lawfully_answer examineCompletion_lawful
  | eraseBegin => exact execEraseBegin_lawfully
  | cursorRecordChosen => exact execCursorRecordChosen_lawfully

/-! ### What the events keep -/

/-- The areas keep their form, the working tables their room, and the custody law stands: what every step but the end of recovery
does (R1, R2, R6, R23, R64, R66). -/
structure Sound (s t : State) : Prop where
  form : TablesLaw s → Bounded s → FrameLaw s → Bounded t ∧ TablesLaw t ∧ FrameLaw t
  room : RoomLaw s → lastClosed s ≤ lastClosed t → RoomLaw t
  books : CustodyLaw s → lastClosed t = lastClosed s → CustodyLaw t

/-- HALTED is not left and its records stay, the store stays unless `stored`, and the liability stays unless `money` (R6, R88,
R158, R171). -/
structure Kept (money stored : Prop) (s t : State) : Prop where
  halted : s.station = .halted → t.station = .halted ∧ t.fault = s.fault ∧ t.leftStored = s.leftStored ∧ sameRecords s t
  store : ¬ stored → t.control.store = s.control.store
  liability : ¬ money → t.custody.liability = s.custody.liability

section
variable {money stored : Prop} {s t u : State}

theorem Lawful.sound (h : Lawful money s t) : Sound s t where
  form := fun ht hb hf => ⟨h.bounded hb, h.tables ht, h.area hf⟩
  room := fun hr _ => h.room hr
  books := fun hc _ => h.books hc

theorem Lawful.kept (h : Lawful money s t) : Kept money stored s t where
  halted := fun hh => ⟨h.station.trans hh, h.halted hh⟩
  store := fun _ => h.store
  liability := h.liability

/-- A lawful change after an event. -/
theorem Sound.andThen (h : Sound s t) (k : Lawful money t u) : Sound s u where
  form := fun ht hb hf => by
    obtain ⟨hb, ht, hf⟩ := h.form ht hb hf
    exact ⟨k.bounded hb, k.tables ht, k.area hf⟩
  room := fun hr hle => k.room (h.room hr (k.lastClosed ▸ hle))
  books := fun hc he => k.books (h.books hc (k.lastClosed ▸ he))

/-- An event after a lawful change. -/
theorem Lawful.andThen (h : Lawful money s t) (k : Sound t u) : Sound s u where
  form := fun ht hb hf => k.form (h.tables ht) (h.bounded hb) (h.area hf)
  room := fun hr hle => k.room (h.room hr) (h.lastClosed.symm ▸ hle)
  books := fun hc he => k.books (h.books hc) (he.trans h.lastClosed.symm)

theorem Kept.trans (h : Kept money stored s t) (k : Kept money stored t u) : Kept money stored s u where
  halted := fun hh => by
    obtain ⟨h0, h1, h2, h3, h4, h5, h6, h7, h8, h9⟩ := h.halted hh
    obtain ⟨k0, k1, k2, k3, k4, k5, k6, k7, k8, k9⟩ := k.halted h0
    exact ⟨k0, k1.trans h1, k2.trans h2, k3.trans h3, k4.trans h4, k5.trans h5, k6.trans h6, k7.trans h7, k8.trans h8,
      k9.trans h9⟩
  store := fun hn => (k.store hn).trans (h.store hn)
  liability := fun hn => (k.liability hn).trans (h.liability hn)

/-- A part outside TRADING and IDLE asks less of the books. -/
theorem CustodyLaw.down (hc : CustodyLaw s) (station : ¬ Up t) (custody : t.custody = s.custody)
    (grants : t.requests.grants = s.requests.grants) (ident : t.ident = s.ident)
    (closed : Machine.lastClosed t = Machine.lastClosed s) : CustodyLaw t where
  cardsForm := by rw [custody]; exact hc.cardsForm
  grantsForm := by rw [grants]; exact hc.grantsForm
  liability := by rw [custody]; exact hc.liability
  held := by
    unfold heldOn holdsOn
    rw [custody, grants]
    exact hc.held
  inCeiling := fun ht => absurd (.inr ht) station
  given := by rw [custody, ident]; exact hc.given
  distinct := by rw [custody]; exact hc.distinct
  standing := by rw [custody, grants, closed]; exact hc.standing
  periods := fun ht => absurd ht station

/-! ### HALTED (R63, R88, R113, R171) -/

theorem haltLink_tx (s : State) (h : s.link.tx.length ≤ 16) : (haltLink s).tx.length ≤ 16 := by
  unfold haltLink
  split
  · exact (by decide : 1 ≤ 16)
  · exact h

@[simp] theorem haltLink_rx (s : State) : (haltLink s).rx = s.link.rx := by
  unfold haltLink
  split <;> rfl

@[simp] theorem haltLink_roster (s : State) : (haltLink s).roster = s.link.roster := by
  unfold haltLink
  split <;> rfl

/-- The part enters HALTED: frames not stored are dropped, the records stand (R88, R164, R171). -/
theorem enterHalted_sound (code : FaultCode) (b : Bool) (s : State) : Sound s (enterHalted code b s) where
  form := fun ht hb hf =>
    ⟨{ tx := haltLink_tx s hb.tx
       rx := (congrArg List.length (haltLink_rx s)).trans_le hb.rx
       notices := postNotice_length _ hb.notices
       mask := (postNotice_mask _ _).trans_le hb.mask },
     { ht with roster := (congrArg tabWf (haltLink_roster s)).trans ht.roster },
     { room := (List.length_filter_le _ _).trans hf.room
       numbers := hf.numbers.sublist List.filter_sublist
       below := fun f hm => hf.below f (List.mem_filter.1 hm).1
       slots := hf.slots.sublist List.filter_sublist
       down := fun hd => absurd hd (by simp [enterHalted, post]) }⟩
  room := fun hr _ => { hr with }
  books := fun hc _ => hc.down (by simp [Up, enterHalted, post]) rfl rfl rfl rfl

theorem enterHalted_kept (code : FaultCode) (b : Bool) {s : State} (h : s.station ≠ .halted) :
    Kept money stored s (enterHalted code b s) where
  halted := fun hh => absurd hh h
  store := fun _ => rfl
  liability := fun _ => rfl

/-! ### FRAME_RECEIVED (R52, R53) -/

theorem receiveFrame_lawful (f : LinkFrame) (s : State) : Lawful money s (receiveFrame f s) := by
  unfold receiveFrame
  dsimp only
  split
  · next h =>
    have room : s.link.rx.length < 16 := h.2
    refine (putRoster_lawful _ _ s).trans (Outer.lawful { Outer.refl (hear f.src s) with rx := fun _ => ?_ })
    rw [List.length_append, List.length_singleton]
    exact room
  · exact putRoster_lawful _ _ s

theorem execFrameReceived_sound (bytes : List Byte) (h : execFrameReceived bytes s = .next t) :
    Sound s t ∧ Kept money stored s t := by
  have same : Sound s s ∧ Kept money stored s s := ⟨(Lawful.refl (money := money) s).sound, (Lawful.refl s).kept⟩
  obtain rfl := Host.Outcome.next.inj h
  split
  · split
    · exact same
    · split
      · unfold stationClash
        split
        · next ht =>
          refine ⟨enterHalted_sound _ _ s, enterHalted_kept _ _ ?_⟩
          rw [isTrading_iff.1 ht]
          decide
        · exact same
      · exact ⟨(receiveFrame_lawful (money := money) _ s).sound, (receiveFrame_lawful _ s).kept⟩
  · exact same

end

end Sys2Proof.Machine
end

section
/-! START as an event: the station goes from IDLE to TRADING (R169, R170). -/
namespace Sys2Proof.Machine

section
variable {money stored : Prop} {s t u : State}

/-- What the checks of START give (R169). -/
theorem startChecks_pass {a : StartArgs} (h : firstFail (startChecks a s) = none) :
    s.station = .idle ∧ (s.ident.isSome = true → ∀ p ∈ s.custody.cards, p.2.available + p.2.held ≤ a.ceiling) := by
  obtain ⟨hidle, h⟩ := firstFail_cons h
  obtain ⟨-, h⟩ := firstFail_cons h
  obtain ⟨-, h⟩ := firstFail_cons h
  obtain ⟨hceiling, -⟩ := firstFail_cons h
  refine ⟨decide_eq_true_iff.1 hidle, fun hi p hp => ?_⟩
  rw [Bool.or_eq_true, Option.isNone_iff_eq_none] at hceiling
  rcases hceiling with hn | hc
  · simp [hn] at hi
  · simp only [tabAny, Bool.not_eq_true', List.any_eq_false, decide_eq_true_eq] at hc
    exact Nat.le_of_not_lt (hc p hp)

/-- Making the identity record is lawful: with none there are no card records (R170). -/
theorem writeIdentity_deal (a : StartArgs) (s : State) : Deal money s (writeIdentity a s) := by
  unfold writeIdentity
  split
  · exact .refl s
  · next hi =>
    have step : Recorded money s (some ⟨a.station, a.mall, 0, 0, 0⟩) s.custody s.requests :=
      { Recorded.refl s with
        books := fun hc =>
          { hc with
            given := fun p hp => by
              obtain ⟨j, hj, -⟩ := hc.given p hp
              rw [hi] at hj
              exact absurd hj (by simp)
            periods := hc.periods } }
    exact step.deal.trans (acceptFrame_clerical _ _ _ _ _).deal

@[simp] theorem writeIdentity_frame (a : StartArgs) (s : State) :
    (writeIdentity a s).custody = s.custody ∧ (writeIdentity a s).requests = s.requests ∧
      (writeIdentity a s).station = s.station ∧ (writeIdentity a s).tracker = s.tracker ∧
      (writeIdentity a s).positions = s.positions ∧ (writeIdentity a s).link = s.link ∧
      (writeIdentity a s).slots = s.slots := by
  unfold writeIdentity
  split
  · simp
  · next h =>
    have hc := acceptFrame_clerical .identityWrite [.identity ⟨a.station, a.mall, 0, 0, 0⟩] [] .none
      { s with ident := some ⟨a.station, a.mall, 0, 0, 0⟩ }
    exact ⟨hc.custody, hc.requests, hc.station, by simp, by simp, by simp, by simp⟩

theorem resetLives_deal (s : State) : Deal money s (resetLives s) := by
  refine (recorded_lives s _ s.requests.deferred s.requests.lapsing fun _ => ?_).deal
  suffices ∀ (l : List (Nat × Grant)) (t : Tab Nat), tabWf t = true → tabWf (l.foldl (fun t p =>
      match grantTag p.2 with
      | some tag => if grantOpen p.2 && !grantFree (lastClosed s) p.2 then tabPut t tag (holdLifeMs s) else t
      | none => t) t) = true from this _ [] rfl
  intro l
  induction l with
  | nil => exact fun t ht => ht
  | cons p l ih =>
    refine fun t ht => ih _ ?_
    dsimp only
    split
    · split
      · exact tabWf_tabPut _ _ ht
      · exact ht
    · exact ht

/-- What START does once the station trades is lawful (R170). -/
theorem runStart_deal (owed : List Continuation) (s : State) :
    Deal money s (examineBegin (resumeClose (resetLives (offerKept owed (placeOwed owed (offerPresence s)))))) :=
  (((offerPresence_clerical s).trans (placeOwed_clerical owed _)).trans (offerKept_clerical owed _)).deal.trans
    ((resetLives_deal _).trans ((resumeClose_clerical _).trans (examineBegin_clerical _)).deal)

theorem runStart_sound {a : StartArgs} (h : firstFail (startChecks a s) = none) :
    Sound s (runStart a s) ∧ Kept money stored s (runStart a s) := by
  obtain ⟨hidle, hceiling⟩ := startChecks_pass h
  have hid : Lawful False s (writeIdentity a s) := writeIdentity_deal a s (.inl hidle)
  obtain ⟨hcustody, -⟩ := writeIdentity_frame a s
  have covered (hc : CustodyLaw s) : ∀ p ∈ s.custody.cards, p.2.available + p.2.held ≤ a.ceiling := fun p hp => by
    obtain ⟨i, hi, -⟩ := hc.given p hp
    exact hceiling (by rw [hi]; rfl) p hp
  have trades : Sound s { writeIdentity a s with station := .trading, conf := some (startConf a) } :=
    { form := fun ht hb hf =>
        ⟨{ hid.bounded hb with }, { hid.tables ht with }, { hid.area hf with down := fun hd => absurd hd (by simp) }⟩
      room := fun hr _ => { hid.room hr with }
      books := fun hc _ =>
        { hid.books hc with
          inCeiling := fun _ p hp => covered hc p (hcustody ▸ hp)
          periods := fun _ => (hid.books hc).periods (.inl (hid.station.trans hidle)) } }
  have rest : Lawful False _ (runStart a s) :=
    runStart_deal s.link.owed { writeIdentity a s with station := .trading, conf := some (startConf a) } (.inr rfl)
  exact ⟨trades.andThen rest,
    { halted := fun hh => by rw [hidle] at hh; exact absurd hh (by decide)
      store := fun _ => rest.store.trans hid.store
      liability := fun _ => (rest.liability id).trans (hid.liability id) }⟩

theorem execStart_sound {j m r f c h l : Nat} (hx : execStart j m r f c h l s = .next t) :
    Sound s t ∧ Kept money stored s t := by
  have small {u : State} (hl : Lawful False s u) : Sound s u ∧ Kept money stored s u :=
    ⟨hl.sound, (hl.weaken (money := money)).kept⟩
  unfold execStart checkedCommand hostCommand at hx
  dsimp only at hx
  split at hx
  · obtain rfl := Host.Outcome.next.inj hx
    exact small (reply_lawful _ s)
  · obtain rfl := Host.Outcome.next.inj hx
    split
    · exact small (refuse_lawful _ s)
    · next hck =>
      obtain ⟨hs, hk⟩ := runStart_sound (money := money) (stored := stored) hck
      exact ⟨hs.andThen (reply_lawful (money := money) _ _), hk.trans (reply_lawful _ _).kept⟩

end

end Sys2Proof.Machine
end

section
/-! The ends of programs and erases, reset, its release and the end of recovery as events. -/
namespace Sys2Proof.Machine

section
variable {money stored : Prop} {s t u : State}

/-- A lawful change keeps what an event must. -/
theorem Lawful.both (h : Lawful False s t) : Sound s t ∧ Kept money stored s t := ⟨h.sound, (h.weaken (money := money)).kept⟩

/-- An event, then a lawful change. -/
theorem andThen_both (h : Sound s t ∧ Kept money stored s t) (k : Lawful False t u) : Sound s u ∧ Kept money stored s u :=
  ⟨h.1.andThen k, h.2.trans (k.weaken (money := money)).kept⟩

/-- A lawful change, then an event. -/
theorem both_andThen (h : Lawful False s t) (k : Sound t u ∧ Kept money stored t u) : Sound s u ∧ Kept money stored s u :=
  ⟨h.andThen k.1, (h.weaken (money := money)).kept.trans k.2⟩

/-! ### A frame is stored (R158, R162 to R164) -/

/-- Another store, in canonical form, and another program queue. -/
theorem store_both {st : Store} (q : List Program) (h : s.control.store.wf = true → st.wf = true) :
    Sound s { s with control := { s.control with queue := q, store := st } } ∧
      Kept money True s { s with control := { s.control with queue := q, store := st } } :=
  ⟨{ form := fun ht hb hf => ⟨{ hb with }, { ht with store := h ht.store }, { hf with }⟩
     room := fun hr _ => { hr with }
     books := fun hc _ => { hc with } },
   { halted := fun hh => ⟨hh, rfl, rfl, rfl, rfl, rfl, rfl, rfl, rfl, rfl⟩
     store := fun hn => absurd trivial hn
     liability := fun _ => rfl }⟩

theorem programEnds_both (p : Program) (rest : List Program) (r : ProgramResult) (s : State) :
    Sound s (programEnds p rest r s) ∧ Kept money True s (programEnds p rest r s) := by
  refine store_both rest fun h => ?_
  cases r with
  | completed => exact programWrite_wf p h
  | failedUnchanged => exact h
  | failedTorn => exact programTear_wf p h

theorem markStored_lawful (n : Nat) (s : State) : Lawful money s (markStored n s) := by
  refine frames_lawful ?_ s.control.waits
  have same : ∀ f : PendingFrame, numbered (if f.frame.number = n then { f with stored := true } else f) = numbered f :=
    fun f => by split <;> rfl
  simp only [List.map_map, Function.comp_def, same]
  exact List.Sublist.refl _

theorem frameDone_lawful (n : Nat) (s : State) : Lawful money s (frameDone n s) :=
  frames_lawful (List.filter_sublist.map _) s.control.waits

theorem retire_lawful (s : State) : Lawful money s (retire s) := journal_lawful _ s

/-- A higher last closed period leaves fewer OPEN holds that count (R20). -/
theorem openHolds_mono (hr : t.requests = s.requests) (hle : lastClosed s ≤ lastClosed t) : openHolds t ≤ openHolds s := by
  unfold openHolds
  rw [hr]
  refine List.countP_mono_left fun p _ hp => ?_
  simp only [grantFree, Bool.and_eq_true, Bool.not_eq_true', decide_eq_false_iff_not, Nat.not_le] at hp ⊢
  exact ⟨hp.1, Nat.lt_of_le_of_lt hle hp.2⟩

/-- Another generation record of the same open period, and another view (R111). -/
theorem closed_both (hu : Up s) {g : GenRec} (v : Option CloseView) (hg : g.openPeriod = s.positions.gen.openPeriod) :
    Sound s { s with positions := { s.positions with gen := g, view := v } } ∧
      Kept money stored s { s with positions := { s.positions with gen := g, view := v } } :=
  ⟨{ form := fun ht hb hf => ⟨{ hb with }, { ht with }, { hf with }⟩
     room := fun hr hle => by
      have fewer := openHolds_mono (s := s) (t := { s with positions := { s.positions with gen := g, view := v } }) rfl hle
      exact { hr with opens := fewer.trans hr.opens }
     books := fun hc he => hc.congr rfl rfl rfl rfl rfl he (Nat.le_of_eq hg.symm) },
   { halted := fun hh => absurd hh hu.not_halted
     store := fun _ => rfl
     liability := fun _ => rfl }⟩

theorem closeEndStored_both (f : Frame) (hu : Up s) :
    Sound s (closeEndStored f s) ∧ Kept money stored s (closeEndStored f s) := by
  unfold closeEndStored
  split
  · next g _ =>
    exact andThen_both (closed_both (g := { s.positions.gen with closing := false, lastClosed := g.lastClosed }) hu none rfl)
      (retire_lawful _)
  · exact Lawful.both (.refl s)

theorem storedEffect_both (f : Frame) (hu : Up s) : Sound s (storedEffect f s) ∧ Kept money stored s (storedEffect f s) := by
  unfold storedEffect
  split
  · exact closeEndStored_both f hu
  · unfold archiveStored
    split
    · exact ((journal_lawful _ s).trans (retire_lawful _)).both
    · exact Lawful.both (.refl s)
  · exact Lawful.both (.refl s)

theorem releaseUnshown_deal (h : HoldRef) (n : Nat) (s : State) : Deal money s (releaseUnshown h n s) := by
  unfold releaseUnshown
  split
  · exact .refl s
  · next hf =>
    split
    · exact .refl s
    · next ho =>
      simp only [Bool.or_eq_true, Bool.not_eq_true', not_or, Bool.not_eq_false] at ho
      split
      · exact releaseHold_deal (openAt_of_findSettled hf ho.1) _
      · exact (recorded_lives s _ _ _ id).deal

theorem announce_deal (b : Bool) (c : Continuation) (s : State) : Deal money s (announce b c s) := by
  unfold announce
  split
  · exact .refl s
  · exact (offerAnswer_clerical _ _ _ s).deal
  · exact (offerRequestOf_clerical _ _ s).deal
  · unfold announceOutcome
    split
    · exact releaseUnshown_deal _ _ s
    · exact .refl s
    · exact (enterHeld_clerical _ _ _ s).deal
    · exact (setOutcome_clerical _ _ s).deal
  · exact (post_clerical _ _ _ s).deal

@[simp] theorem storedEffect_station (f : Frame) (s : State) : (storedEffect f s).station = s.station := by
  unfold storedEffect closeEndStored archiveStored
  split
  · split <;> rfl
  · split <;> rfl
  · rfl

theorem frameStored_both (p : PendingFrame) (hu : Up s) :
    Sound s (frameStored p s) ∧ Kept money stored s (frameStored p s) := by
  have marked := markStored_lawful (money := False) p.frame.number s
  have effect := storedEffect_both (money := money) (stored := stored) p.frame (marked.up hu)
  have up : Up (storedEffect p.frame (markStored p.frame.number s)) := by
    unfold Up
    rw [storedEffect_station, marked.station]
    exact hu
  refine andThen_both (both_andThen marked effect) (Deal.trans (announce_deal p.slotFreed p.frame.continuation _)
    (Clerical.deal ?_) up)
  unfold frameStored
  dsimp only
  have offered (t : State) : Clerical t (if offersPresence p.frame.format then offerPresence t else t) := by
    split
    · exact offerPresence_clerical t
    · exact .refl t
  split
  · exact ((offered _).trans (releaseWaits_clerical _ _)).trans (examineBegin_clerical _)
  · exact (offered _).trans (releaseWaits_clerical _ _)

theorem startErase_lawful (s : State) : Lawful money s (startErase s) := by
  unfold startErase
  split
  · exact journal_lawful _ s
  · exact .refl s

theorem enterHalted_both (code : FaultCode) (b : Bool) (hu : Up s) :
    Sound s (enterHalted code b s) ∧ Kept money stored s (enterHalted code b s) :=
  ⟨enterHalted_sound code b s, enterHalted_kept code b hu.not_halted⟩

theorem controlStored_both (u : ControlUse) (hu : Up s) :
    Sound s (controlStored u s) ∧ Kept money stored s (controlStored u s) := by
  unfold controlStored
  split
  · exact (startErase_lawful s).both
  · split
    · exact enterHalted_both _ _ hu
    · exact Lawful.both (.refl s)
  · exact Lawful.both (.refl s)

theorem programDone_both (p : Program) (hu : Up s) :
    Sound s (programDone p s) ∧ Kept money stored s (programDone p s) := by
  unfold programDone
  split
  · split
    · exact frameStored_both _ hu
    · exact Lawful.both (.refl s)
  · exact (frameDone_lawful _ s).both
  · exact controlStored_both _ hu
  all_goals exact Lawful.both (.refl s)

/-! ### Recovery under way (R172, R173) -/

theorem recovery_lawful (r : Option Recovery) (s : State) : Lawful money s { s with recovery := r } :=
  Outer.lawful { Outer.refl s with }

theorem queueProgram_lawful (p : Program) (s : State) : Lawful money s (queueProgram p s) :=
  Outer.lawful { Outer.refl s with }

/-- Lawful work done for each element of a list in turn. -/
theorem Lawful.foldl {α : Type} {f : State → α → State} (l : List α) (h : ∀ a t, Lawful money t (f t a)) (s : State) :
    Lawful money s (l.foldl f s) := by
  induction l generalizing s with
  | nil => exact .refl s
  | cons a l ih => exact (h a s).trans (ih _)

theorem completeEntry_lawful (e : JournalEntry) (s : State) : Lawful money s (completeEntry e s) := by
  unfold completeEntry
  split
  · exact .refl s
  · exact (journal_lawful _ s).trans (queueProgram_lawful _ _)

theorem completeTarget_lawful (x : Target) (s : State) : Lawful money s (completeTarget x s) := by
  unfold completeTarget
  split
  · exact Lawful.foldl _ (fun e t => completeEntry_lawful e t) s
  · exact (queueProgram_lawful _ s).trans (journal_lawful _ _)
  · exact queueProgram_lawful _ s

theorem completeFrame_lawful (x : Nat × Frame) (s : State) : Lawful money s (completeFrame x s) :=
  (Lawful.foldl _ (fun (w : WriteBack) t => completeTarget_lawful w.target t) s).trans (queueProgram_lawful _ _)

theorem clearTorn_lawful (s : State) : Lawful money s (clearTorn s) :=
  Lawful.foldl _ (fun n t => queueProgram_lawful (.clearFrame n) t) s

theorem scanJournal_lawful (s : State) : Lawful money s (scanJournal s) := journal_lawful _ s

theorem recoveryStops_lawful (code : FaultCode) (s : State) : Lawful money s (recoveryStops code s) :=
  Outer.lawful { Outer.refl s with }

theorem scanAndComplete_lawful (s : State) : Lawful money s (scanAndComplete s) := by
  have scanned := (recovery_lawful (money := money) (s.recovery.map fun r => { r with phase := .completing }) s).trans
    (scanJournal_lawful _)
  unfold scanAndComplete
  dsimp only
  split
  · exact scanned.trans (recoveryStops_lawful _ _)
  · split
    · exact (scanned.trans (clearTorn_lawful _)).trans (recovery_lawful _ _)
    · exact (scanned.trans (clearTorn_lawful _)).trans (Lawful.foldl _ (fun x t => completeFrame_lawful x t) _)

theorem recoveryFails_lawful (s : State) : Lawful money s (recoveryFails s) :=
  ((journal_lawful _ s).trans (scanJournal_lawful _)).trans (recoveryStops_lawful _ _)

theorem recoveryProgramDone_lawful (p : Program) (s : State) : Lawful money s (recoveryProgramDone p s) := by
  unfold recoveryProgramDone
  split
  · exact recovery_lawful _ s
  · exact startErase_lawful s
  · exact scanAndComplete_lawful s
  all_goals exact .refl s

theorem Sound.trans (h : Sound s t) (hs : lastClosed t = lastClosed s) (k : Sound t u) : Sound s u where
  form := fun ht hb hf => by
    obtain ⟨hb, ht, hf⟩ := h.form ht hb hf
    exact k.form ht hb hf
  room := fun hr hle => k.room (h.room hr (Nat.le_of_eq hs.symm)) (hs ▸ hle)
  books := fun hc he => k.books (h.books hc hs) (he.trans hs.symm)

theorem endProgram_both (p : Program) (rest : List Program) (r : ProgramResult) (s : State) :
    Sound s (endProgram p rest r s) ∧ Kept money True s (endProgram p rest r s) := by
  obtain ⟨sound, kept⟩ := programEnds_both (money := money) p rest r s
  have next {u : State} (k : Sound (programEnds p rest r s) u ∧ Kept money True (programEnds p rest r s) u) :
      Sound s u ∧ Kept money True s u := ⟨sound.trans rfl k.1, kept.trans k.2⟩
  have working (hu : Up s) : Sound s (if r = .completed then programDone p (programEnds p rest r s)
        else enterHalted .programFailed false (programEnds p rest r s)) ∧
      Kept money True s (if r = .completed then programDone p (programEnds p rest r s)
        else enterHalted .programFailed false (programEnds p rest r s)) := by
    split
    · exact next (programDone_both p hu)
    · exact next (enterHalted_both _ _ hu)
  unfold endProgram
  dsimp only
  split
  · next hst => exact working (.inl hst)
  · next hst => exact working (.inr hst)
  · split
    · exact next (recoveryProgramDone_lawful p _).both
    · exact next (recoveryFails_lawful _).both
  · exact ⟨sound, kept⟩
  · exact Lawful.both (.refl s)

theorem execProgramComplete_both {r : ProgramResult} (h : execProgramComplete r s = .next t) :
    Sound s t ∧ Kept money True s t := by
  obtain rfl := Host.Outcome.next.inj h
  split
  · exact endProgram_both _ _ _ s
  · exact Lawful.both (.refl s)

/-! ### An erase ends (R135, R139, R141) -/

theorem endErase_both (ok : Bool) (b : Nat) (s : State) :
    Sound s (endErase ok b s) ∧ Kept money True s (endErase ok b s) := by
  have erased := store_both (money := money) (s := s) (st := eraseSlots ok b s.control.store) s.control.queue
    (eraseSlots_wf ok b)
  have placed := andThen_both (andThen_both erased (journal_lawful
    { s.journal with blocks := s.journal.blocks.modify b (erasedBlock ok), erase := none } _))
    (placeControl_lawful .eraseEnd _)
  unfold endErase
  dsimp only
  split
  · exact andThen_both placed (post_lawful _ _ _ _)
  · exact placed

theorem clearReserve_lawful (n : Nat) (s : State) : Lawful money s (clearReserve n s) := by
  unfold clearReserve
  split
  · exact (post_lawful _ _ _ s).trans examineBegin_lawful
  · exact .refl s

theorem execEraseComplete_both {ok : Bool} (h : execEraseComplete ok s = .next t) :
    Sound s t ∧ Kept money True s t := by
  obtain rfl := Host.Outcome.next.inj h
  split
  · next b _ =>
    have ended := endErase_both (money := money) ok b s
    split
    · exact andThen_both ended (clearReserve_lawful _ _)
    · exact andThen_both ended (clearReserve_lawful _ _)
    · exact ended
    all_goals exact Lawful.both (.refl s)
  · exact Lawful.both (.refl s)

/-! ### Reset and its release (R168, R172) -/

theorem cutOff_wf {c : Control} (h : c.store.wf = true) : (cutOff c).wf = true := by
  unfold cutOff
  split
  · exact programTear_wf _ h
  · exact h

theorem execReset_sound (h : execReset s = .next t) : Sound s t := by
  obtain rfl := Host.Outcome.next.inj h
  have none {α : Type} {P : α → Prop} : ∀ p ∈ ([] : List α), P p := fun _ hp => absurd hp List.not_mem_nil
  exact
    { form := fun ht _ _ =>
        ⟨⟨Nat.zero_le _, Nat.zero_le _, Nat.zero_le _, Nat.le_refl 7⟩,
          ⟨cutOff_wf ht.store, rfl, rfl, rfl, rfl, rfl, rfl, rfl, rfl, rfl, rfl⟩,
          ⟨Nat.zero_le _, .nil, none, .nil, fun _ => rfl⟩⟩
      room := fun _ _ => ⟨none, none, (Nat.zero_le 256 :), none, none⟩
      books := fun _ _ =>
        ⟨rfl, rfl, rfl, none, fun _ => none, none, .nil, none, fun h => h.elim nofun nofun⟩ }

theorem execResetRelease_both (h : execResetRelease s = .next t) : Sound s t ∧ Kept money stored s t := by
  obtain rfl := Host.Outcome.next.inj h
  split
  · next hh =>
    have released (j : Journal) (r : Option Recovery) :
        Sound s { s with station := .recovering, journal := j, recovery := r } ∧
          Kept money stored s { s with station := .recovering, journal := j, recovery := r } :=
      ⟨{ form := fun ht hb hf => ⟨{ hb with }, { ht with }, { hf with down := fun _ => hf.down (.inl hh) }⟩
         room := fun hr _ => { hr with }
         books := fun hc _ => hc.down (by simp [Up]) rfl rfl rfl rfl },
       { halted := fun hr => absurd (hh.symm.trans hr) (by decide)
         store := fun _ => rfl
         liability := fun _ => rfl }⟩
    unfold beginRecovery
    dsimp only
    split
    · exact andThen_both (released _ _) (beginErase_lawful _ _)
    · exact andThen_both (released _ _) (scanAndComplete_lawful _)
  · exact Lawful.both (.refl s)

/-! ### The end of recovery (R174) -/

theorem tabWf_wholeTab {α : Type} {t : Tab (Cell α)} (h : tabWf t = true) : tabWf (wholeTab t) = true :=
  tabWf_filterMap _ (fun p q hq => by
    split at hq
    · obtain rfl := Option.some.inj hq
      rfl
    · simp at hq) h

/-- The rows of a generation slot lie in the position area in their order (R157). -/
theorem tabWf_restoredRows (x : Side) {t : Tab Row} (h : tabWf t = true) : tabWf (restoredRows x t) = true := by
  rw [tabWf_iff] at h ⊢
  unfold restoredRows
  rw [List.pairwise_map, List.pairwise_filter]
  refine h.imp fun hlt hp hq => ?_
  cases x with
  | a => exact hlt
  | b =>
    simp only [decide_eq_true_eq] at hp hq ⊢
    omega

theorem recoveryDone_spec {r : Recovery} (h : recoveryDone s = some r) :
    s.recovery = some r ∧ s.station = .recovering ∧ r.phase = .completing ∧ s.control.queue = [] ∧ s.journal.erase = none := by
  unfold recoveryDone at h
  split at h
  · next hr =>
    split at h
    · next hs =>
      obtain rfl := Option.some.inj h
      exact ⟨hr, hs.1, hs.2.1, List.isEmpty_iff.1 hs.2.2.1, hs.2.2.2⟩
    · simp at h
  · simp at h

/-- What the end of recovery keeps: areas in form, and the store. -/
structure Rebuilt (s t : State) : Prop where
  form : TablesLaw s → Bounded s → FrameLaw s → Bounded t ∧ TablesLaw t ∧ FrameLaw t
  store : t.control.store = s.control.store

theorem Rebuilt.andThen (h : Rebuilt s t) (k : Sound t u ∧ Kept True False t u) : Rebuilt s u where
  form := fun ht hb hf => by
    obtain ⟨hb, ht, hf⟩ := h.form ht hb hf
    exact k.1.form ht hb hf
  store := (k.2.store id).trans h.store

theorem buildWorking_rebuilt (hs : s.station = .recovering) : Rebuilt s (buildWorking s) where
  form := fun ht hb hf => by
    have hw := ht.store
    simp only [Store.wf, Bool.and_eq_true] at hw
    obtain ⟨⟨⟨⟨⟨⟨hcards, hlocks⟩, hgrants⟩, htrackers⟩, hrows⟩, -⟩, -⟩ := hw
    have hnone := hf.down (.inr hs)
    exact ⟨{ hb with },
      { store := ht.store
        cards := tabWf_wholeTab hcards
        locks := tabWf_wholeTab hlocks
        grants := tabWf_wholeTab hgrants
        lives := rfl
        entries := tabWf_tabMap _ (tabWf_wholeTab htrackers)
        slots := ht.slots
        rowsA := tabWf_restoredRows .a (tabWf_wholeTab hrows)
        rowsB := tabWf_restoredRows .b (tabWf_wholeTab hrows)
        roster := ht.roster
        cursors := ht.cursors },
      { hf with below := fun f hm => absurd (hnone ▸ hm : f ∈ []) List.not_mem_nil }⟩
  store := rfl

theorem handleOwed_lawful (c : Continuation) (s : State) : Lawful money s (handleOwed c s) := by
  unfold handleOwed
  split
  · exact post_lawful _ _ _ s
  · exact post_lawful _ _ _ s
  · exact Outer.lawful { Outer.refl s with }
  · exact Outer.lawful { Outer.refl s with }
  · exact .refl s

/-- The station leaves recovery; no frame is pending. -/
theorem idle_rebuilt (r : Option Recovery) (hs : s.station = .recovering) :
    Rebuilt s { s with station := .idle, recovery := r } where
  form := fun ht hb hf => ⟨{ hb with }, { ht with }, { hf with down := fun _ => hf.down (.inr hs) }⟩
  store := rfl

theorem Rebuilt.trans (h : Rebuilt s t) (k : Rebuilt t u) : Rebuilt s u where
  form := fun ht hb hf => by
    obtain ⟨hb, ht, hf⟩ := h.form ht hb hf
    exact k.form ht hb hf
  store := k.store.trans h.store

theorem Lawful.rebuilt (h : Lawful money s t) : Rebuilt s t := ⟨fun ht hb hf => ⟨h.bounded hb, h.tables ht, h.area hf⟩, h.store⟩

theorem endRecovery_rebuilt (owed : List Continuation) (hs : s.station = .recovering) : Rebuilt s (endRecovery owed s) := by
  have handled : Lawful True s (owed.foldl (fun s c => handleOwed c s) s) :=
    Lawful.foldl _ (fun c t => handleOwed_lawful c t) s
  unfold endRecovery
  dsimp only
  split
  · next posts =>
    have posted := handled.trans (post_lawful .journalReserve .none
      (freeCount (owed.foldl (fun s c => handleOwed c s) s).journal) _)
    exact posted.rebuilt.trans (idle_rebuilt _ (posted.station.trans hs))
  · exact handled.rebuilt.trans (idle_rebuilt _ (handled.station.trans hs))

theorem execRecoveryEnd_rebuilt (h : execRecoveryEnd s = .next t) : Rebuilt s t := by
  obtain rfl := Host.Outcome.next.inj h
  split
  · next r hr =>
    obtain ⟨-, hs, -⟩ := recoveryDone_spec hr
    have built := buildWorking_rebuilt hs
    dsimp only
    split
    · next code _ =>
      have halted : Rebuilt (buildWorking s) (enterHalted code false (buildWorking s)) :=
        ⟨(enterHalted_sound code false _).form, rfl⟩
      refine (built.trans halted).trans ⟨fun ht hb hf => ⟨{ hb with }, { ht with }, { hf with }⟩, rfl⟩
    · exact built.trans (endRecovery_rebuilt _ hs)
  · exact (Lawful.refl (money := True) s).rebuilt

theorem execRecoveryEnd_kept (h : execRecoveryEnd s = .next t) : Kept True stored s t where
  halted := fun hh => by
    obtain rfl := Host.Outcome.next.inj h
    split
    · next hr =>
      obtain ⟨-, hs, -⟩ := recoveryDone_spec hr
      exact absurd (hs.symm.trans hh) (by decide)
    · exact ⟨hh, rfl, rfl, rfl, rfl, rfl, rfl, rfl, rfl, rfl⟩
  store := fun _ => (execRecoveryEnd_rebuilt h).store
  liability := fun hn => absurd trivial hn

end

end Sys2Proof.Machine
end

section
/-! The invariants of every step: O55, O57, O58. -/
namespace Sys2Proof.Machine

section
variable {s t : State}

/-- Every command but a reset, or the end of recovery, keeps what `Sound` says. -/
theorem exec_sound (c : Instr) (hx : exec c s = .next t) (hc : c ≠ .recoveryEnd) : Sound s t := by
  by_cases he : isEvent c
  · cases c with
    | start => exact (execStart_sound (money := False) (stored := False) hx).1
    | frameReceived b => exact (execFrameReceived_sound (money := False) (stored := False) b hx).1
    | programComplete => exact (execProgramComplete_both (money := False) hx).1
    | eraseComplete => exact (execEraseComplete_both (money := False) hx).1
    | reset => exact execReset_sound hx
    | resetRelease => exact (execResetRelease_both (money := False) (stored := False) hx).1
    | recoveryEnd => exact absurd rfl hc
    | _ => exact he.elim
  · obtain ⟨u, hu, hl⟩ := exec_lawfully c s he
    obtain rfl := Host.Outcome.next.inj (hx.symm.trans hu)
    exact hl.sound

/-- The commands that change the store but for a reset (R158). -/
def changesStore : Instr → Prop
  | .programComplete _ | .eraseComplete _ => True
  | _ => False

/-- Every command but a reset keeps HALTED, the store and the liability as R6, R158 and R171 say. -/
theorem exec_kept (c : Instr) (hx : exec c s = .next t) (hc : c ≠ .reset) :
    Kept (movesMoney c ∨ c = .recoveryEnd) (changesStore c) s t := by
  by_cases he : isEvent c
  · cases c with
    | start => exact (execStart_sound hx).2
    | frameReceived b => exact (execFrameReceived_sound b hx).2
    | programComplete => exact (execProgramComplete_both hx).2
    | eraseComplete => exact (execEraseComplete_both hx).2
    | reset => exact absurd rfl hc
    | resetRelease => exact (execResetRelease_both hx).2
    | recoveryEnd =>
      have kept := execRecoveryEnd_kept (stored := False) hx
      exact { kept with liability := fun hn => absurd (.inr rfl) hn }
    | _ => exact he.elim
  · obtain ⟨u, hu, hl⟩ := exec_lawfully c s he
    obtain rfl := Host.Outcome.next.inj (hx.symm.trans hu)
    have kept := hl.kept (stored := changesStore c)
    exact { kept with liability := fun hn => kept.liability fun hm => hn (.inl hm) }

/-- A step is a command on the queue's rest, or a millisecond. -/
theorem step_cases (h : step s = .next t) :
    (∃ c rest, s.pending = c :: rest ∧ exec c { s with pending := rest } = .next t) ∨ s.pending = [] ∧ t = tick s := by
  unfold step at h
  split at h
  · next c rest hp => exact .inl ⟨c, rest, hp, h⟩
  · next hp => exact .inr ⟨hp, (Host.Outcome.next.inj h).symm⟩

/-- Every step but the end of recovery keeps what `Sound` says. -/
theorem step_sound (h : step s = .next t) (hc : s.pending.head? ≠ some .recoveryEnd) : Sound s t := by
  rcases step_cases h with ⟨c, rest, hp, hx⟩ | ⟨-, rfl⟩
  · rw [hp] at hc
    exact (pending_lawful (money := False) rest s).andThen (exec_sound c hx fun he => hc (congrArg some he))
  · exact (tick_lawful (money := False) s).sound

/-- Every step keeps the areas in room and form. -/
theorem step_form (h : step s = .next t) (ht : TablesLaw s) (hb : Bounded s) (hf : FrameLaw s) :
    Bounded t ∧ TablesLaw t ∧ FrameLaw t := by
  rcases step_cases h with ⟨c, rest, -, hx⟩ | ⟨-, rfl⟩
  · have before := (pending_lawful (money := False) rest s).rebuilt.form ht hb hf
    obtain ⟨hb, ht, hf⟩ := before
    by_cases hc : c = .recoveryEnd
    · subst hc
      exact (execRecoveryEnd_rebuilt hx).form ht hb hf
    · exact (exec_sound c hx hc).form ht hb hf
  · exact (tick_lawful (money := False) s).sound.form ht hb hf

end

end Sys2Proof.Machine

namespace Sys2Proof
open Sys2Proof.Machine

/-- Settles O55, by the lawful changes of every command and a case for each event. -/
theorem areasKeepRoomAndForm : Obligations.AreasKeepRoomAndForm := by
  intro s t h ht
  exact ⟨fun hb hf => step_form h ht hb hf, fun hr hc hle => (step_sound h hc).room hr hle⟩

/-- Settles O57, by the balance of each operation on the records. -/
theorem custodyStaysInBalance : Obligations.CustodyStaysInBalance := by
  intro s t hc h hp he
  exact (step_sound h hp).books hc he

/-- Settles O58, by what the lawful changes and the events keep. -/
theorem onlySomeCommandsReachTheRecords : Obligations.OnlySomeCommandsReachTheRecords := by
  intro c s t h
  refine ⟨fun hh hc => (exec_kept c h hc).halted hh, fun hp he hc => (exec_kept c h hc).store ?_,
    fun hissue hcredit hcomplete hreq hsettle hc hend => (exec_kept c h hc).liability ?_⟩
  · cases c with
    | programComplete r => exact absurd rfl (hp r)
    | eraseComplete b => exact absurd rfl (he b)
    | _ => exact id
  · rintro (hm | hm)
    · cases c with
      | issue slot a rel ref => exact hissue slot a rel ref rfl
      | topup slot card a ref => exact hcredit .topup slot card a ref rfl
      | refund slot card a ref => exact hcredit .refund slot card a ref rfl
      | complete slot a => exact hcomplete slot a rfl
      | creditReq => exact hreq rfl
      | settleReq => exact hsettle rfl
      | _ => exact hm.elim
    · exact hend hm

end Sys2Proof
end

section
/-! What the shared operations give, as equations: refusals, a claim of one journal slot, a frame accepted. -/
namespace Sys2Proof.Machine

section
variable {s t : State}

/-! ### Port commands (R184, R185) -/

theorem refuse_eq (p : PortStatus) (s : State) : refuse p s = { s with port := { s.port with reply := statusByte p, session := .none } } :=
  rfl

theorem accepted_eq (fields : List Byte) (s : State) : accepted fields s = { s with port := acceptedPort fields s } := rfl

theorem not_held_of_trading (h : s.station = .trading) : s.station ≠ .held := by rw [h]; decide

/-! ### A claim of one journal slot (R129, R131, R135) -/

theorem claim_one (d : Draft) (s : State) :
    claim [d] s = ([(writePoint s.journal, ⟨s.journal.next, d.kind, d.period, d.body⟩)],
      { s with journal := claimedJournal s, notices := claimedNotices s }) := by
  have run : claimRun [d] s.journal =
      ([(writePoint s.journal, ⟨s.journal.next, d.kind, d.period, d.body⟩)], claimedJournal s) := rfl
  unfold claim claimedNotices
  rw [run]
  by_cases h : reserveSlots < freeCount s.journal ∧ freeCount (claimedJournal s) ≤ reserveSlots
  · simp only [if_pos h]; rfl
  · simp only [if_neg h]

/-! ### A frame accepted (R159, R161) -/

/-- Only a control record's program reads the journal's bookkeeping. -/
theorem targetPrograms_congr {ts : List Target} (h : hasControl ts = false) (ps : List Nat) (j k : Journal) :
    ts.flatMap (targetPrograms ps j) = ts.flatMap (targetPrograms ps k) := by
  refine List.flatMap_congr fun t ht => ?_
  cases t with
  | control c =>
    have : hasControl ts = true := List.any_eq_true.2 ⟨.control c, ht, rfl⟩
    exact absurd (h.symm.trans this) Bool.false_ne_true
  | _ => rfl

/-- A frame without a control record, accepted by a state whose store controller is still that of `s`. -/
theorem acceptFrame_eq {fm : FrameFormat} {ts : List Target} {ps : List Nat} {c : Continuation} (hc : t.control = s.control)
    (hfree : frameFree s = true) (hno : hasControl ts = false) :
    acceptFrame fm ts ps c t = { t with control := withFrame fm ts ps c s } := by
  have hfree' : frameFree t = true := by unfold frameFree; rw [hc]; exact hfree
  unfold acceptFrame withFrame builtFrame
  rw [if_pos hfree', hc, hno, targetPrograms_congr hno ps t.journal s.journal]
  rfl

/-! ### A booking into the open generation (R91, R92) -/

/-- A row written by a state whose positions are still those of `s`. -/
theorem putRow_eq (hp : t.positions = s.positions) (sd : Side) (j : Nat) (r : Row) :
    putRow sd j r t = { t with positions := (putRow sd j r s).positions } := by
  cases sd <;> simp [putRow, hp]

theorem putRow_positions (hp : t.positions = s.positions) (sd : Side) (j : Nat) (r : Row) :
    (putRow sd j r t).positions = (putRow sd j r s).positions := by rw [putRow_eq hp]

/-- A row written by a state whose positions are those of `s`. -/
theorem rowBecomes_of {u : State} {sd : Side} {j : Nat} {r : Row} (hp : u.positions = s.positions)
    (h : t.positions = (putRow sd j r u).positions) : rowBecomes sd j r s t := h.trans (putRow_positions hp sd j r)

/-- A booking into the open period changes the open generation's row. -/
theorem book_open (hp : t.positions = s.positions) (j : Nat) (ch : Row → Row) :
    book (openPeriod s) j ch t =
      ({ t with positions := (putRow s.positions.gen.openSide j (ch (openRow s j)) s).positions },
        [.row s.positions.gen.openSide j (ch (openRow s j))]) := by
  have hrow : readRow t s.positions.gen.openSide (openPeriod s) j = openRow s j := by
    unfold openRow readRow rowsOf
    rw [hp]
  have hgen : generationOf t (openPeriod s) = some s.positions.gen.openSide := by
    unfold generationOf openPeriod
    rw [hp, if_pos rfl]
  unfold book
  rw [hgen]
  dsimp only
  rw [hrow, putRow_eq hp]

end

end Sys2Proof.Machine

namespace Sys2Proof
open Sys2Proof.Machine

/-- Settles O10, from the arithmetic of the check value. -/
theorem checkValueDecidesValidity : Obligations.CheckValueDecidesValidity := by
  intro c
  have hmax : maxSerial = 99999999 := rfl
  have hx : c.ss * 10 ^ 10 + c.serial * 100 = (c.ss * 10 ^ 8 + c.serial) * 100 := by ring
  simp only [cardValid, Bool.and_eq_true, decide_eq_true_eq]
  rw [hmax, hx]
  generalize (c.ss * 10 ^ 8 + c.serial) * 100 = x
  constructor
  · rintro ⟨⟨⟨⟨⟨⟨h1, h2⟩, h3⟩, h4⟩, h5⟩, h6⟩, h7⟩
    exact ⟨h1, h2, h3, h4, by omega⟩
  · rintro ⟨h1, h2, h3, h4, h5⟩
    refine ⟨⟨⟨⟨⟨⟨h1, h2⟩, h3⟩, h4⟩, ?_⟩, ?_⟩, ?_⟩ <;> omega

/-- Settles O54: every area of the reset state is empty. -/
theorem resetMeetsEveryLaw : Obligations.ResetMeetsEveryLaw := by
  have none {α : Type} {P : α → Prop} : ∀ p ∈ ([] : List α), P p := fun _ hp => absurd hp List.not_mem_nil
  refine ⟨⟨Nat.zero_le _, Nat.zero_le _, Nat.zero_le _, Nat.le_refl 7⟩,
    ⟨rfl, rfl, rfl, rfl, rfl, rfl, rfl, rfl, rfl, rfl, rfl⟩,
    ⟨none, none, (Nat.zero_le 256 :), none, none⟩,
    ⟨Nat.zero_le _, .nil, none, .nil, fun _ => rfl⟩,
    ⟨fun _ => ⟨rfl, rfl, rfl, rfl, rfl⟩, nofun⟩,
    ⟨⟨nofun, nofun⟩, fun _ => rfl, nofun⟩,
    ⟨nofun, nofun, nofun, by decide⟩,
    ⟨rfl, rfl, rfl, none, nofun, none, .nil, none, fun h => h.elim nofun nofun⟩,
    rfl, rfl, rfl, rfl, rfl⟩

end Sys2Proof
end

section
/-! ISSUE: the order of its checks (R10) and its effects (R11). -/
namespace Sys2Proof.Machine

section
variable {s t : State}

theorem refuse_port (p : PortStatus) (s : State) :
    Host.Outcome.next (refuse p s) = refusedWith (statusCode p) s := by cases p <;> rfl

/-- A command is refused with the status of the first check that fails (R185). -/
theorem checkedCommand_refusedWith {cs : List (Bool × PortStatus)} {f : State → State} {p : PortStatus}
    (h : s.station ≠ .held) (hc : firstFail cs = some p) : checkedCommand s cs f = refusedWith (statusCode p) s :=
  (checkedCommand_refused f h hc).trans (refuse_port p s)

/-- The first check that fails stands behind checks that pass. -/
theorem firstFail_of_pass {α : Type} {b : Bool} {q : α} {cs : List (Bool × α)} {o : Option α} (h : b = true)
    (hc : firstFail cs = o) : firstFail ((b, q) :: cs) = o := by subst h; exact hc

theorem firstFail_trading (h : s.station = .trading) {q : PortStatus} {cs : List (Bool × PortStatus)} :
    firstFail ((isTrading s, q) :: cs) = firstFail cs := firstFail_of_pass (isTrading_iff.2 h) rfl

theorem firstFail_of_fail {α : Type} {b : Bool} {q : α} {cs : List (Bool × α)} (h : b = false) :
    firstFail ((b, q) :: cs) = some q := by subst h; rfl

theorem insideReserve_iff : insideReserve s = true ↔ freeCount s.journal ≤ 512 := decide_eq_true_iff

theorem insideReserve_eq_false_iff : insideReserve s = false ↔ 512 < freeCount s.journal := by
  rw [← Bool.not_eq_true, insideReserve_iff, Nat.not_le]

theorem frameFree_eq_false_iff : frameFree s = false ↔ 16 ≤ s.control.frames.length := by
  rw [← Bool.not_eq_true, frameFree_iff, Nat.not_lt]

theorem ownStation_eq {i : Identity} (hi : s.ident = some i) : ownStation s = i.station := by simp [ownStation, hi]

theorem exec_issue (slot amount : Nat) (rel : Bool) (ref : Option Nat) (s : State) :
    exec (.issue slot amount rel ref) s =
      checkedCommand s (issueChecks slot amount s) fun s => accepted [] (runIssue slot amount rel ref s) := rfl

end

end Sys2Proof.Machine

namespace Sys2Proof
open Sys2Proof.Machine

/-- Settles O12: the checks are passed one by one. -/
theorem issueChecksInOrder : Obligations.IssueChecksInOrder := by
  intro s i slot amount rel ref hheld hi
  have refused (p : PortStatus) (h : firstFail (issueChecks slot amount s) = some p) :
      exec (.issue slot amount rel ref) s = refusedWith (statusCode p) s :=
    (exec_issue _ _ _ _ s).trans (checkedCommand_refusedWith hheld h)
  have serial : (s.ident.map (·.serialCounter)).getD 0 = i.serialCounter := by rw [hi]; rfl
  refine ⟨fun h => refused .notTrading (firstFail_of_fail (decide_eq_false h)), fun trading =>
    ⟨fun h => refused .badArgument ?_, fun named => ⟨fun h => refused .slotState ?_, fun free =>
      ⟨fun h => refused .badAmount ?_, fun amounts => ⟨fun h => refused .serialsExhausted ?_, fun serials =>
        ⟨fun h => refused .tableFull ?_, fun room => ⟨fun h => refused .limit ?_, fun limit =>
          ⟨fun h => refused .journalFull ?_, fun reserve frames => refused .storeBusy ?_⟩⟩⟩⟩⟩⟩⟩⟩
  all_goals refine firstFail_of_pass (decide_eq_true trading) ?_
  · exact firstFail_of_fail (decide_eq_false (Nat.not_lt.2 h))
  all_goals refine firstFail_of_pass (decide_eq_true named) ?_
  · exact firstFail_of_fail (by simpa [slotIsFree, Option.isSome_iff_ne_none] using h)
  all_goals refine firstFail_of_pass (by simp [slotIsFree, free]) ?_
  · refine firstFail_of_fail ?_
    rw [Bool.and_eq_false_iff, decide_eq_false_iff_not, decide_eq_false_iff_not]
    omega
  all_goals refine firstFail_of_pass (by simpa using amounts) ?_
  all_goals rw [serial]
  · exact firstFail_of_fail (decide_eq_false (Nat.not_lt.2 h))
  all_goals refine firstFail_of_pass (decide_eq_true serials) ?_
  · exact firstFail_of_fail (decide_eq_false (Nat.not_lt.2 h))
  all_goals refine firstFail_of_pass (decide_eq_true room) ?_
  all_goals rw [ownStation_eq hi]
  · exact firstFail_of_fail (decide_eq_false (Nat.not_le.2 h))
  all_goals refine firstFail_of_pass (decide_eq_true limit) ?_
  · exact firstFail_of_fail (by rw [insideReserve_iff.2 h]; rfl)
  · exact firstFail_of_pass (by rw [insideReserve_eq_false_iff.2 reserve]; rfl)
      (firstFail_of_fail (frameFree_eq_false_iff.2 (Nat.le_of_eq frames.symm)))

/-- Settles O11: the effects are carried out one after the other. -/
theorem issueCreatesACard : Obligations.IssueCreatesACard := by
  intro s i slot amount rel ref trading hi named free least covered serials room limit reserve frames
  have own : ownStation s = i.station := ownStation_eq hi
  have checks : firstFail (issueChecks slot amount s) = none := by
    simp [issueChecks, newWorkChecks, firstFail, isTrading, trading, slotNamed, slotCount, named, slotIsFree, free, least,
      covered, hi, maxSerial, serials, cardPlaces, room, own, figureLimit, limit, reserve, frames]
  rw [exec_issue, checkedCommand_run _ (not_held_of_trading trading) checks]
  refine ⟨_, rfl, ?_⟩
  unfold runIssue
  rw [hi]
  dsimp only
  rw [book_open (s := s), claim_one, acceptFrame_eq (s := s)]
  · exact ⟨rfl, rfl, rfl, rfl, rfl, rfl, ⟨rfl, rfl⟩, rfl, rfl, by rw [← hi]; rfl⟩
  · rfl
  · exact frames
  · rfl
  · rfl

end Sys2Proof
end

section
/-! What the operations of the home and of the slots give, as equations. -/
namespace Sys2Proof.Machine

section
variable {s t : State}

/-- Of two writes to one place the second stands. -/
theorem tabPut_tabPut {α : Type} (t : Tab α) (k : Nat) (v w : α) : tabPut (tabPut t k v) k w = tabPut t k w := by
  induction t with
  | nil => simp [tabPut]
  | cons p t ih =>
    obtain ⟨i, a⟩ := p
    rcases Nat.lt_trichotomy k i with h | rfl | h
    · simp [tabPut, h]
    · simp [tabPut]
    · have h1 : ¬ k < i := Nat.not_lt.2 (Nat.le_of_lt h)
      have h2 : ¬ k = i := Nat.ne_of_gt h
      simp only [tabPut, if_neg h1, if_neg h2, ih]

/-! ### Slots (R64, R65) -/

/-- New work whose slot is not on a hold shows its outcome at once. -/
theorem setOutcome_putSlot (n : Nat) {sl : Slot} (o : OutcomeRec) (h : onHold sl = false) (s : State) :
    setOutcome n o (putSlot n sl s) =
      { s with
        slots := tabPut s.slots n (slotOutcome sl o)
        notices := postNotice ⟨.slotOutcome, .number n, outcomeCode o.code⟩ s.notices } := by
  have hget : getSlot (putSlot n sl s) n = some sl := tabGet_tabPut_self _ _ _
  unfold setOutcome slotLeft
  rw [hget]
  dsimp only
  rw [if_neg (by simp [h])]
  simp only [writeOutcome, postSlot, post, putSlot, tabPut_tabPut, slotOutcome]

theorem outcomeAfter_of_ne {ns : List Nat} (h : ns ≠ []) (n : Nat) (o : OutcomeRec) (s : State) :
    outcomeAfter ns n o s = addWait ns (.slotOutcome n o) s := by
  cases ns with
  | nil => exact absurd rfl h
  | cons => rfl

theorem answerAfter_of_ne {ns : List Nat} (h : ns ≠ []) (d n : Nat) (p : Payload) (s : State) :
    answerAfter ns d n p s = addWait ns (.answer d n p) s := by
  cases ns with
  | nil => exact absurd rfl h
  | cons => rfl

/-! ### The home (R12, R16, R18, R19) -/

/-- A card's state changes alone, with its entry and its frame. -/
theorem changeStatus_eq (hfree : frameFree s = true) (p : Nat) (c : Card) (d : Draft) (k : Continuation) :
    changeStatus p c d k s =
      { s with
        custody := { s.custody with cards := tabPut s.custody.cards p c }
        journal := claimedJournal s
        notices := claimedNotices s
        control := withFrame .statusChange [.card p c, .journal [⟨s.journal.next, d.kind, d.period, d.body⟩]]
          [writePoint s.journal] k s } := by
  unfold changeStatus
  rw [claim_one]
  dsimp only
  rw [acceptFrame_eq (s := s)]
  · rfl
  · rfl
  · exact hfree
  · rfl

/-- A credit that is applied: card, liability, entry, row, journal entry and frame. -/
theorem applyCredit_eq (hfree : frameFree s = true) (q : Nat) (n : Option Nat) (p : Nat) (c : Card) (kind : CreditKind)
    (a : Nat) (d : Draft) (k : Continuation) :
    applyCredit q n p c kind a d k s =
      { s with
        custody := ⟨tabPut s.custody.cards p (cardCredited (openPeriod s) a c), s.custody.locks, s.custody.liability + a⟩
        requests := { s.requests with
          grants := tabPut s.requests.grants (freeGrantPlace s) ⟨q, n, c.serial, openPeriod s, .credit kind a⟩ }
        positions := (putRow s.positions.gen.openSide q
          (creditBooking (q = ownStation s) kind a (openRow s q)) s).positions
        journal := claimedJournal s
        notices := claimedNotices s
        control := withFrame .creditApply
          [.card p (cardCredited (openPeriod s) a c),
            .grant (freeGrantPlace s) ⟨q, n, c.serial, openPeriod s, .credit kind a⟩,
            .row s.positions.gen.openSide q (creditBooking (q = ownStation s) kind a (openRow s q)),
            .journal [⟨s.journal.next, d.kind, d.period, d.body⟩]]
          [writePoint s.journal] k s } := by
  unfold applyCredit
  dsimp only
  rw [book_open (s := s), claim_one]
  dsimp only
  rw [acceptFrame_eq (s := s)]
  · rfl
  · rfl
  · exact hfree
  · rfl
  · rfl

/-! ### Frames handed over (R54 to R57) -/

theorem offerAnswer_eq (h : s.station = .trading) (d n : Nat) (p : Payload) :
    offerAnswer d n p s = { s with link := { s.link with
      tx := if s.link.tx.length < 16 then s.link.tx ++ [⟨d, stampOf (openPeriod s), n, p, 0⟩] else s.link.tx } } := by
  unfold offerAnswer
  by_cases hr : s.link.tx.length < 16
  · rw [if_pos ⟨h, txRoom_iff.2 hr⟩, if_pos hr]
    rfl
  · rw [if_neg fun hc => hr (txRoom_iff.1 hc.2), if_neg hr]

/-- The frame at the head of the receive queue goes to its owner. -/
theorem handOver_eq {kind : Payload → Bool} {take : LinkFrame → State → State} {f : LinkFrame} {rest : List LinkFrame}
    (hl : s.station = .trading) (hrx : s.link.rx = f :: rest) (hk : kind f.payload = true) :
    handOver kind take s = .next (take f { s with link := { s.link with rx := rest } }) := by
  have : (listening s && kind f.payload) = true := by simp [listening, hl, hk]
  unfold handOver
  rw [hrx]
  dsimp only
  rw [if_pos this]
  rfl

/-- A stamp that raises nothing leaves the state as it is. -/
theorem raiseByStamp_eq {f : LinkFrame} (h : raisesNothing f s = true) : raiseByStamp (extendStamp (openPeriod s) f.stamp) s = s := by
  simp only [raisesNothing, Bool.or_eq_true, decide_eq_true_eq] at h
  unfold raiseByStamp
  split
  · unfold raiseTarget
    rw [if_neg]
    omega
  · rfl

/-- A frame whose stamp raises nothing is served on the state as it is. -/
theorem traded_eq {serve : LinkFrame → Int → State → State} {f : LinkFrame} (ht : s.station = .trading)
    (h : raisesNothing f s = true) : traded serve f s = serve f (extendStamp (openPeriod s) f.stamp) s := by
  unfold traded
  rw [if_pos (isTrading_iff.2 ht)]
  dsimp only
  rw [raiseByStamp_eq h]

/-- A frame taken from the receive queue. -/
def taken (rest : List LinkFrame) (s : State) : State := { s with link := { s.link with rx := rest } }

/-- The hand-over of a frame of the kind asked for, whose stamp raises nothing. -/
theorem served_eq {kind : Payload → Bool} {serve : LinkFrame → Int → State → State} {f : LinkFrame} {rest : List LinkFrame}
    (ht : s.station = .trading) (hrx : s.link.rx = f :: rest) (h : raisesNothing f s = true) (hk : kind f.payload = true) :
    handOver kind (traded serve) s = .next (serve f (extendStamp (openPeriod s) f.stamp) (taken rest s)) := by
  rw [handOver_eq ht hrx hk, traded_eq (s := { s with link := { s.link with rx := rest } }) ht h]
  rfl

/-- An answer offered on the state without the frame. -/
theorem answersAtOnce_of {c : Instr} {f : LinkFrame} {rest : List LinkFrame} {p : Payload} (ht : s.station = .trading)
    (h : exec c s = .next (offerAnswer f.src f.reqNo p (taken rest s))) : answersAtOnce c f rest p s := by
  unfold answersAtOnce
  rw [h, offerAnswer_eq (s := taken rest s) ht]
  rfl

/-- An answer held back on the state without the frame. -/
theorem answersLater_of {c : Instr} {f : LinkFrame} {rest : List LinkFrame} {p : Payload} {ns : List Nat} (hne : ns ≠ [])
    (h : exec c s = .next (answerAfter ns f.src f.reqNo p (taken rest s))) : answersLater c f rest p ns s := by
  unfold answersLater
  rw [h, answerAfter_of_ne hne]
  rfl

end

end Sys2Proof.Machine
end

section
/-! PROTECT_N and RANGE_LOCK (R8, R19), and STATUS_REQ (R17, R18). -/
namespace Sys2Proof.Machine

section
variable {s t : State}

/-- UNFREEZE reads PROTECT_N first; then its checks are made (R19). -/
theorem exec_unfreeze_refused {slot : Nat} {card : CardId} {ref : Option Nat} {b : Bool} {p : PortStatus}
    (h : s.station ≠ .held) (hc : firstFail (unfreezeChecks slot card b (sampleProtect b s)) = some p) :
    exec (.unfreeze slot card ref b) s = refusedWith (statusCode p) (sampleProtect b s) := by
  show execUnfreeze slot card ref b s = _
  unfold execUnfreeze
  rw [hostCommand_taken _ h]
  dsimp only
  rw [hc]
  exact refuse_port p _

theorem exec_unfreeze_run {slot : Nat} {card : CardId} {ref : Option Nat} {b : Bool}
    (h : s.station ≠ .held) (hc : firstFail (unfreezeChecks slot card b (sampleProtect b s)) = none) :
    exec (.unfreeze slot card ref b) s = .next (accepted [] (runUnfreeze slot card ref (sampleProtect b s))) := by
  show execUnfreeze slot card ref b s = _
  unfold execUnfreeze
  rw [hostCommand_taken _ h]
  dsimp only
  rw [hc]

/-- RANGE_LOCK reads PROTECT_N first; then its checks are made (R8). -/
theorem exec_rangeLock_refused {n low high : Nat} {act b : Bool} {p : PortStatus} (h : s.station ≠ .held)
    (hc : firstFail (rangeLockChecks n low high act b (sampleProtect b s)) = some p) :
    exec (.rangeLock n low high act b) s = refusedWith (statusCode p) (sampleProtect b s) := by
  show execRangeLock n low high act b s = _
  unfold execRangeLock
  rw [hostCommand_taken _ h]
  dsimp only
  rw [hc]
  exact refuse_port p _

theorem exec_rangeLock_run {n low high : Nat} {act b : Bool} (h : s.station ≠ .held)
    (hc : firstFail (rangeLockChecks n low high act b (sampleProtect b s)) = none) :
    exec (.rangeLock n low high act b) s = .next (accepted [] (runRangeLock n low high act (sampleProtect b s))) := by
  show execRangeLock n low high act b s = _
  unfold execRangeLock
  rw [hostCommand_taken _ h]
  dsimp only
  rw [hc]

/-- The lock as R8 gives it, set whole or only cleared. -/
theorem newLock_eq (l : RangeLock) (low high : Nat) (act : Bool) :
    newLock l low high act = if act then ⟨low, high, true⟩ else ⟨l.low, l.high, false⟩ := by
  cases act <;> rfl

/-- What a RANGE_LOCK does, as one change of the state. -/
theorem runRangeLock_eq (hfree : frameFree s = true) (n low high : Nat) (act : Bool) :
    runRangeLock n low high act s =
      { s with
        custody := { s.custody with
          locks := tabPutD RangeLock.blank s.custody.locks n (newLock (getLock s n) low high act) }
        journal := claimedJournal s
        notices := claimedNotices s
        control := withFrame .rangeSet
          [.lock n (newLock (getLock s n) low high act),
            .journal [entryOf s .rangeLock (openPeriod s)
              { card := some (ownCard s (newLock (getLock s n) low high act).low),
                amount := some (newLock (getLock s n) low high act).high, outcome := some (.lock act n) }]]
          [writePoint s.journal] .none s } := by
  unfold runRangeLock
  dsimp only
  rw [claim_one]
  dsimp only
  rw [acceptFrame_eq (s := s)]
  · rfl
  · rfl
  · exact hfree
  · rfl

end

end Sys2Proof.Machine

namespace Sys2Proof
open Sys2Proof.Machine

/-- Settles O18: the refusals by the checks in order, the lock by the effects one after the other. -/
theorem protectLineAndRangeLocks : Obligations.ProtectLineAndRangeLocks := by
  refine ⟨fun s slot card ref n lo hi act trading => ?_, fun s n lo hi act trading least most serials reserve frames => ?_⟩
  · have held := not_held_of_trading trading
    have unfreeze (p : PortStatus) (named : slot < 8) (free : getSlot s slot = none) (valid : cardValid card = true)
        (h : firstFail [(isOwn s card, .notHome), (false, .isProtected), (!insideReserve s, .journalFull),
          (frameFree s, .storeBusy)] = some p) :
        exec (.unfreeze slot card ref false) s = refusedWith (statusCode p) (sampleProtect false s) :=
      exec_unfreeze_refused held <| (firstFail_trading trading).trans <| firstFail_of_pass (decide_eq_true named) <|
        firstFail_of_pass (by simp [slotIsFree, getSlot, sampleProtect] at free ⊢; exact free) <|
          firstFail_of_pass valid h
    refine ⟨fun named free valid own => unfreeze .isProtected named free valid ?_,
      fun named free valid other => unfreeze .notHome named free valid ?_, fun least most =>
        exec_rangeLock_refused (p := .isProtected) held ?_, fun out => exec_rangeLock_refused (p := .badArgument) held ?_⟩
    · exact firstFail_of_pass (decide_eq_true own) rfl
    · exact firstFail_of_fail (decide_eq_false other)
    · exact (firstFail_trading trading).trans <| firstFail_of_pass (by simp [least, most]) rfl
    · refine (firstFail_trading trading).trans <| firstFail_of_fail ?_
      rw [Bool.and_eq_false_iff, decide_eq_false_iff_not, decide_eq_false_iff_not]
      omega
  · have checks : firstFail (rangeLockChecks n lo hi act true (sampleProtect true s)) = none := by
      refine (firstFail_trading trading).trans <| firstFail_of_pass (by simp [least, most]) <| firstFail_of_pass rfl <|
        firstFail_of_pass ?_ <| firstFail_of_pass ?_ <| firstFail_of_pass frames rfl
      · cases act with
        | false => rfl
        | true =>
          obtain ⟨h1, h2, h3⟩ := serials rfl
          have hmax : maxSerial = 99999999 := rfl
          simp only [Bool.not_true, Bool.false_or, Bool.and_eq_true, decide_eq_true_eq]
          omega
      · have : insideReserve (sampleProtect true s) = false := insideReserve_eq_false_iff.2 reserve
        rw [this]
        rfl
    rw [exec_rangeLock_run (not_held_of_trading trading) checks, runRangeLock_eq (s := sampleProtect true s) frames,
      newLock_eq]
    refine ⟨_, rfl, rfl, ⟨rfl, rfl⟩, ?_, rfl, rfl⟩
    cases act <;> rfl

end Sys2Proof
end

section
/-! STATUS_REQ (R17, R18). -/
namespace Sys2Proof.Machine

section
variable {s : State} {f : LinkFrame} {rest : List LinkFrame}

theorem exec_statusReq (ht : s.station = .trading) (hrx : s.link.rx = f :: rest) (h : raisesNothing f s = true) {a : StatusAction}
    {n : Nat} (hp : f.payload = .statusReq a n) :
    exec .statusReq s = .next (serveStatusReq f (extendStamp (openPeriod s) f.stamp) (taken rest s)) :=
  served_eq ht hrx h (by rw [hp]; rfl)

theorem serveStatusReq_enquire {x : Int} {n : Nat} (hp : f.payload = .statusReq .enquire n) :
    serveStatusReq f x s = reportCard f n s := by unfold serveStatusReq; rw [hp]

theorem serveStatusReq_report {x : Int} {n : Nat} (hp : f.payload = .statusReq .freeze n)
    (hd : freezeDecision s n true = .report) : serveStatusReq f x s = reportCard f n s := by
  unfold serveStatusReq
  rw [hp]
  dsimp only
  rw [hd]

theorem serveStatusReq_busy {x : Int} {n : Nat} (hp : f.payload = .statusReq .freeze n)
    (hd : freezeDecision s n true = .busy) :
    serveStatusReq f x s = offerAnswer f.src f.reqNo (.statusAns .busy 0 0) s := by
  unfold serveStatusReq
  rw [hp]
  dsimp only
  rw [hd]

theorem serveStatusReq_change {x : Int} {n p : Nat} {c : Card} (hp : f.payload = .statusReq .freeze n)
    (hd : freezeDecision s n true = .change p c) :
    serveStatusReq f x s = changeStatus p c (freezeDraft s n f.src)
      (.answer f.src f.reqNo (statusAnswer (frozenView s n, c.available, c.held))) s := by
  unfold serveStatusReq
  rw [hp]
  dsimp only
  rw [hd]

/-- A card that is FROZEN, or unknown, is reported (R18). -/
theorem freezeDecision_report {n : Nat} {b : Bool} (h : (findCard s n).all (fun p => p.2.state = .frozen) = true) :
    freezeDecision s n b = .report := by
  unfold freezeDecision
  cases hf : findCard s n with
  | none => rfl
  | some p =>
    rw [hf, Option.all_some, decide_eq_true_iff] at h
    simp only [h]

/-- An ACTIVE card is frozen, unless a peer asks inside the reserve or with the frame area full (R18). -/
theorem freezeDecision_active {n p : Nat} {c : Card} {b : Bool} (hf : findCard s n = some (p, c)) (ha : c.state = .active) :
    freezeDecision s n b =
      if b && (insideReserve s || !frameFree s) then .busy else .change p { c with state := .frozen } := by
  unfold freezeDecision
  rw [hf]
  simp only [ha]

end

end Sys2Proof.Machine

namespace Sys2Proof
open Sys2Proof.Machine

/-- Settles O41: the report, and the freeze by the home's decision. -/
theorem statusRequestReportsOrFreezes : Obligations.StatusRequestReportsOrFreezes := by
  intro s f rest n trading hrx hraises
  refine ⟨fun asks => ?_, fun place c hp hf ha => ⟨fun full => ?_, fun reserve frames => ?_⟩⟩
  · have reported : exec .statusReq s = .next (reportCard f n (taken rest s)) := by
      rcases asks with hp | ⟨hp, hfrozen⟩
      · rw [exec_statusReq trading hrx hraises hp, serveStatusReq_enquire hp]
      · have report : freezeDecision (taken rest s) n true = .report := freezeDecision_report hfrozen
        rw [exec_statusReq trading hrx hraises hp, serveStatusReq_report hp report]
    refine ⟨fun hnone => answersAtOnce_of trading ?_, fun hsome => answersLater_of hsome reported⟩
    have none : cardFrames (taken rest s) n = [] := hnone
    rw [reported, reportCard, none]
    rfl
  · have busy : freezeDecision (taken rest s) n true = .busy := by
      rw [freezeDecision_active (s := taken rest s) hf ha, if_pos]
      rw [Bool.true_and, Bool.or_eq_true, Bool.not_eq_true']
      exact full.imp insideReserve_iff.2 frameFree_eq_false_iff.2
    apply answersAtOnce_of trading
    rw [exec_statusReq trading hrx hraises hp, serveStatusReq_busy hp busy]
  · have change : freezeDecision (taken rest s) n true = .change place { c with state := .frozen } := by
      rw [freezeDecision_active (s := taken rest s) hf ha, if_neg]
      have h1 : insideReserve (taken rest s) = false := insideReserve_eq_false_iff.2 reserve
      have h2 : frameFree (taken rest s) = true := frames
      simp [h1, h2]
    rw [exec_statusReq trading hrx hraises hp, serveStatusReq_change hp change,
      changeStatus_eq (s := taken rest s) frames]
    exact ⟨_, rfl, rfl, rfl, rfl, ⟨rfl, rfl⟩, rfl, rfl, rfl⟩

end Sys2Proof
end

section
/-! The checks of a credit in order (R12, R15), and CREDIT_REQ (R13 to R16). -/
namespace Sys2Proof.Machine

section
variable {s : State} {q n a p : Nat} {kind : CreditKind} {c : Card}

/-! ### The checks of a credit -/

theorem creditChecks_unknown (hf : findCard s n = none) : firstFail (creditChecks s q n kind a) = some .unknownCard :=
  firstFail_of_fail (by rw [hf]; rfl)

theorem creditChecks_frozen (hf : findCard s n = some (p, c)) (hk : kind = .topup) (hz : cardFrozen s c = true) :
    firstFail (creditChecks s q n kind a) = some .frozen :=
  firstFail_of_pass (by rw [hf]; rfl) (firstFail_of_fail (by simp [hf, hk, hz]))

/-- A known card that may be credited leaves three checks. -/
theorem creditChecks_known (hf : findCard s n = some (p, c)) (hk : kind = .refund ∨ cardFrozen s c = false) :
    firstFail (creditChecks s q n kind a) =
      firstFail [(decide (c.available + c.held + a ≤ ceiling s), .overCeiling),
        (grantCount s < grantPlaces && !insideReserve s && frameFree s, .busy),
        (decide (creditFigure s q kind + a ≤ figureLimit), .limit)] := by
  refine firstFail_of_pass (by rw [hf]; rfl) (firstFail_of_pass ?_ ?_)
  · rcases hk with rfl | hz
    · rfl
    · simp [hf, hz]
  · rw [hf]
    rfl

theorem creditChecks_over (hf : findCard s n = some (p, c)) (hk : kind = .refund ∨ cardFrozen s c = false)
    (h : ceiling s < c.available + c.held + a) : firstFail (creditChecks s q n kind a) = some .overCeiling :=
  (creditChecks_known hf hk).trans (firstFail_of_fail (decide_eq_false (Nat.not_le.2 h)))

theorem creditChecks_busy (hf : findCard s n = some (p, c)) (hk : kind = .refund ∨ cardFrozen s c = false)
    (hle : c.available + c.held + a ≤ ceiling s)
    (h : 1024 ≤ grantCount s ∨ freeCount s.journal ≤ 512 ∨ 16 ≤ s.control.frames.length) :
    firstFail (creditChecks s q n kind a) = some .busy := by
  refine (creditChecks_known hf hk).trans (firstFail_of_pass (decide_eq_true hle) (firstFail_of_fail ?_))
  rcases h with h | h | h
  · rw [decide_eq_false (Nat.not_lt.2 h : ¬ grantCount s < grantPlaces)]
    rfl
  · simp [insideReserve_iff.2 h]
  · simp [frameFree_eq_false_iff.2 h]

theorem creditChecks_room (hf : findCard s n = some (p, c)) (hk : kind = .refund ∨ cardFrozen s c = false)
    (hle : c.available + c.held + a ≤ ceiling s) (hroom : grantCount s < 1024) (reserve : 512 < freeCount s.journal)
    (frames : frameFree s = true) :
    firstFail (creditChecks s q n kind a) = firstFail [(decide (creditFigure s q kind + a ≤ figureLimit), .limit)] := by
  refine (creditChecks_known hf hk).trans (firstFail_of_pass (decide_eq_true hle) (firstFail_of_pass ?_ rfl))
  have hroom : grantCount s < grantPlaces := hroom
  rw [decide_eq_true hroom, insideReserve_eq_false_iff.2 reserve, frames]
  rfl

theorem creditChecks_limit (hf : findCard s n = some (p, c)) (hk : kind = .refund ∨ cardFrozen s c = false)
    (hle : c.available + c.held + a ≤ ceiling s) (hroom : grantCount s < 1024) (reserve : 512 < freeCount s.journal)
    (frames : frameFree s = true) (h : 999999999999 < creditFigure s q kind + a) :
    firstFail (creditChecks s q n kind a) = some .limit :=
  (creditChecks_room hf hk hle hroom reserve frames).trans (firstFail_of_fail (decide_eq_false (Nat.not_le.2 h)))

theorem creditChecks_pass (hf : findCard s n = some (p, c)) (hk : kind = .refund ∨ cardFrozen s c = false)
    (hle : c.available + c.held + a ≤ ceiling s) (hroom : grantCount s < 1024) (reserve : 512 < freeCount s.journal)
    (frames : frameFree s = true) (h : creditFigure s q kind + a ≤ 999999999999) :
    firstFail (creditChecks s q n kind a) = none :=
  (creditChecks_room hf hk hle hroom reserve frames).trans (firstFail_of_pass (decide_eq_true h) rfl)

/-- A TOPUP that must not find the card frozen, said of both kinds. -/
theorem refund_or (h : kind = .topup → cardFrozen s c = false) : kind = .refund ∨ cardFrozen s c = false := by
  cases kind with
  | topup => exact .inr (h rfl)
  | refund => exact .inl rfl

/-! ### CREDIT_REQ -/

variable {f : LinkFrame} {rest : List LinkFrame} {x : Int}

theorem exec_creditReq (ht : s.station = .trading) (hrx : s.link.rx = f :: rest) (h : raisesNothing f s = true)
    (hp : f.payload = .creditReq kind n a) :
    exec .creditReq s = .next (serveCreditReq f (extendStamp (openPeriod s) f.stamp) (taken rest s)) :=
  served_eq ht hrx h (by rw [hp]; rfl)

theorem serveCreditReq_zero (hp : f.payload = .creditReq kind n 0) : serveCreditReq f x s = s := by
  unfold serveCreditReq
  rw [hp]
  rfl

theorem serveCreditReq_admit (hp : f.payload = .creditReq kind n a) (ha : 1 ≤ a) (hx : periodCheck x s = s) :
    serveCreditReq f x s = admitCredit f x kind n a s := by
  unfold serveCreditReq
  rw [hp]
  dsimp only
  rw [if_neg (Nat.ne_of_gt ha), hx]

theorem admitCredit_period (h : x ≠ openPeriod s) : admitCredit f x kind n a s = declineCredit f .period s := by
  unfold admitCredit
  rw [if_pos]
  simp [periodEqual, h]

theorem admitCredit_again {gp : Nat} {gr : Grant} (h : x = openPeriod s)
    (hr : findCreditRepeat s f.src f.reqNo n kind a = some (gp, gr)) :
    admitCredit f x kind n a s = answerAfter (unstored (creditFrameOf gp) s) f.src f.reqNo appliedAnswer s := by
  unfold admitCredit
  rw [if_neg (by simp [periodEqual, h]), hr]

theorem admitCredit_new (h : x = openPeriod s) (hr : findCreditRepeat s f.src f.reqNo n kind a = none) :
    admitCredit f x kind n a s = decideCredit f kind n a s := by
  unfold admitCredit
  rw [if_neg (by simp [periodEqual, h]), hr]

theorem decideCredit_declined {r : Reason} (h : firstFail (creditChecks s f.src n kind a) = some r) :
    decideCredit f kind n a s = declineCredit f r s := by
  unfold decideCredit
  rw [h]

theorem decideCredit_applied (h : firstFail (creditChecks s f.src n kind a) = none) (hf : findCard s n = some (p, c)) :
    decideCredit f kind n a s =
      applyCredit f.src (some f.reqNo) p c kind a
        ⟨.creditHome, openPeriod s,
          .plain { card := some (ownCard s n), amount := some a, counterpart := some f.src,
                   reqNo := some f.reqNo, outcome := some (.credit kind) }⟩
        (.answer f.src f.reqNo appliedAnswer) s := by
  unfold decideCredit
  rw [h, hf]

theorem canBegin_of_no (h : noCloseCanBegin s) : canBegin s = false := by
  unfold canBegin
  rcases h with h | h | h | h
  · simp [h]
  · rw [decide_eq_false (Nat.not_lt.2 h : ¬ openPeriod s < maxPeriod)]
    simp
  · simp [insideReserve_iff.2 h]
  · simp [frameFree_eq_false_iff.2 h]

theorem examineBegin_of_not (h : canBegin s = false) : examineBegin s = s := by rw [examineBegin, h]; rfl

/-- The period check changes nothing for a stamp that is not later, or when no close can begin (R13, R26). -/
theorem periodCheck_eq (h : x ≤ openPeriod s ∨ noCloseCanBegin s) : periodCheck x s = s := by
  unfold periodCheck
  split
  · next hlt => exact examineBegin_of_not (canBegin_of_no (h.resolve_left (by omega)))
  · rfl

/-- A stamp of the open period raises nothing. -/
theorem raisesNothing_of_eq (h : extendStamp (openPeriod s) f.stamp = openPeriod s) : raisesNothing f s = true := by
  simp [raisesNothing, h]

end

end Sys2Proof.Machine

namespace Sys2Proof
open Sys2Proof.Machine

/-- Settles O40: the frame is admitted by its period and as a repeat or not, then decided by the checks. -/
theorem creditRequestIsDecided : Obligations.CreditRequestIsDecided := by
  refine ⟨fun s f rest kind n a p c trading hrx hp now least other hrep hf hfrozen covered room reserve frames limit => ?_,
    fun s f rest kind n a trading hrx hp hraises => ?_⟩
  · have checks : firstFail (creditChecks (taken rest s) f.src n kind a) = none :=
      creditChecks_pass (s := taken rest s) hf (refund_or hfrozen) covered room reserve frames limit
    have other : decide (f.src = ownStation (taken rest s)) = false := decide_eq_false other
    have admitted := serveCreditReq_admit (s := taken rest s) hp least (periodCheck_eq (.inl (Int.le_of_eq now)))
    rw [exec_creditReq trading hrx (raisesNothing_of_eq now) hp, admitted, admitCredit_new (s := taken rest s) now hrep,
      decideCredit_applied (s := taken rest s) checks hf, applyCredit_eq (s := taken rest s) frames, other]
    exact ⟨_, rfl, rfl, rfl, rfl, rfl, rfl, rfl, rfl, 
      rowBecomes_of (s := s) (u := taken rest s) rfl rfl, ⟨rfl, rfl⟩, rfl, rfl, rfl⟩
  · have served := exec_creditReq trading hrx hraises hp
    have declined {r : Reason} (h : serveCreditReq f (extendStamp (openPeriod s) f.stamp) (taken rest s) =
        declineCredit f r (taken rest s)) : answersAtOnce .creditReq f rest (.creditAns .declined (some r)) s :=
      answersAtOnce_of trading (by rw [served, h]; rfl)
    refine ⟨fun hz => ?_, fun least hper => declined ?_, fun least now => ?_⟩
    · subst hz
      exact served.trans (by rw [serveCreditReq_zero hp]; rfl)
    · have hcheck : periodCheck (extendStamp (openPeriod s) f.stamp) (taken rest s) = taken rest s :=
        periodCheck_eq (hper.imp Int.le_of_lt And.right)
      rw [serveCreditReq_admit hp least hcheck, admitCredit_period]
      show _ ≠ (openPeriod s : Int)
      omega
    · have admitted := serveCreditReq_admit (s := taken rest s) hp least (periodCheck_eq (.inl (Int.le_of_eq now)))
      refine ⟨fun gp gr hrep => ?_, fun hrep => ?_⟩
      · have again := admitted.trans (admitCredit_again (s := taken rest s) now hrep)
        refine ⟨fun hnone => answersAtOnce_of trading ?_, fun hsome => answersLater_of hsome (served.trans ?_)⟩
        · have hnone : unstored (creditFrameOf gp) (taken rest s) = [] := hnone
          rw [served, again, hnone]
          rfl
        · rw [again]
          rfl
      · have decided := admitted.trans (admitCredit_new (s := taken rest s) now hrep)
        have fails {r : Reason} (h : firstFail (creditChecks (taken rest s) f.src n kind a) = some r) :=
          declined (decided.trans (decideCredit_declined h))
        exact ⟨fun hf => fails (creditChecks_unknown (s := taken rest s) hf), fun p c hf =>
          ⟨fun hk hz => fails (creditChecks_frozen (s := taken rest s) hf hk hz), fun hk =>
            ⟨fun h => fails (creditChecks_over (s := taken rest s) hf hk h), fun hle =>
              ⟨fun h => fails (creditChecks_busy (s := taken rest s) hf hk hle h), fun room reserve frames h =>
                fails (creditChecks_limit (s := taken rest s) hf hk hle room reserve frames h)⟩⟩⟩⟩

end Sys2Proof
end

section
/-! TOPUP and REFUND of an own card (R9, R12). -/
namespace Sys2Proof.Machine

section
variable {s : State} {kind : CreditKind} {slot amount place : Nat} {card : CardId} {ref : Option Nat} {i : Identity}

theorem exec_creditCommand (kind : CreditKind) (slot : Nat) (card : CardId) (amount : Nat) (ref : Option Nat) (s : State) :
    exec (creditCommand kind slot card amount ref) s =
      checkedCommand s (creditCommandChecks kind slot card amount s) fun s =>
        accepted [] (runCredit kind slot card amount ref s) := by cases kind <;> rfl

/-- The slot of an own credit under way (R65). -/
def creditSlot (kind : CreditKind) (card : CardId) (amount : Nat) (ref : Option Nat) : Slot :=
  newSlot .crediting (creditOp kind) card amount ref

/-- New work in a FREE till slot of a TRADING station passes its checks (R65). -/
theorem newWorkChecks_eq (ht : s.station = .trading) (hn : slot < 8) (hfree : getSlot s slot = none)
    (cs : List (Bool × PortStatus)) : firstFail (newWorkChecks s slot ++ cs) = firstFail cs :=
  (firstFail_trading ht).trans <| firstFail_of_pass (decide_eq_true hn) <|
    firstFail_of_pass (by rw [slotIsFree, hfree]; rfl) rfl

/-- An own credit that passes the port's checks is the home's to decide (R12). -/
theorem exec_ownCredit (ht : s.station = .trading) (hi : s.ident = some i) (hn : slot < 8) (hfree : getSlot s slot = none)
    (hv : cardValid card = true) (hown : card.ss = i.station) (hleast : 1 ≤ amount) (hmost : amount ≤ 9999999)
    (reserve : 512 < freeCount s.journal) (frames : frameFree s = true) :
    exec (creditCommand kind slot card amount ref) s =
      .next (accepted [] (decideOwnCredit kind slot card amount ref (putSlot slot (creditSlot kind card amount ref) s))) := by
  have own : isOwn s card = true := decide_eq_true (by rw [ownStation_eq hi, hown])
  have range : amountInRange amount = true := by
    have hmost : amount ≤ maxAmount := hmost
    unfold amountInRange
    rw [decide_eq_true hleast, decide_eq_true hmost]
    rfl
  have checks : firstFail (creditCommandChecks kind slot card amount s) = none := by
    unfold creditCommandChecks
    rw [List.append_assoc, newWorkChecks_eq ht hn hfree, if_pos own]
    exact firstFail_of_pass hv <| firstFail_of_pass range <|
      firstFail_of_pass (by rw [insideReserve_eq_false_iff.2 reserve]; rfl) (firstFail_of_pass frames rfl)
  rw [exec_creditCommand, checkedCommand_run _ (not_held_of_trading ht) checks]
  unfold runCredit
  dsimp only
  rw [if_pos own]
  rfl

theorem decideOwnCredit_declined {r : Reason}
    (h : firstFail (creditChecks s (ownStation s) card.serial kind amount) = some r) :
    decideOwnCredit kind slot card amount ref s = setOutcome slot (ownDeclined s card r) s := by
  unfold decideOwnCredit
  rw [h]

theorem decideOwnCredit_applied {c : Card}
    (h : firstFail (creditChecks s (ownStation s) card.serial kind amount) = none)
    (hf : findCard s card.serial = some (place, c)) :
    decideOwnCredit kind slot card amount ref s =
      applyCredit (ownStation s) none place c kind amount
        ⟨ownCreditKind kind, openPeriod s, .plain { card := some card, amount := some amount, tillRef := ref }⟩
        (.slotOutcome slot none none
          { outcomeOf .credited card with amount := amount, availableAfter := some (c.available + amount) }) s := by
  unfold decideOwnCredit
  rw [h, hf]

/-- A command that leaves its slot's work DECLINED at once (R12, R31, R65). -/
theorem declinesSlot_of {c : Instr} {sl : Slot} {r : Reason} (hh : onHold sl = false)
    (h : exec c s = .next (accepted [] (setOutcome slot (ownDeclined (putSlot slot sl s) sl.card r) (putSlot slot sl s)))) :
    declinesSlot c slot sl r s := by
  rw [setOutcome_putSlot slot _ hh] at h
  exact ⟨_, h, rfl, rfl, rfl, rfl⟩

end

end Sys2Proof.Machine

namespace Sys2Proof
open Sys2Proof.Machine

/-- Settles O16: the port's checks passed, the home applies the credit or declines it with the first reason. -/
theorem ownCreditIsDecided : Obligations.OwnCreditIsDecided := by
  refine ⟨fun s i kind slot a card ref p c trading hi named free valid hown least most reserve frames hf hfrozen covered room
    limit => ?_, fun s i kind slot a card ref trading hi named free valid hown least most reserve frames => ?_⟩
  · have own : ownStation (putSlot slot (creditSlot kind card a ref) s) = i.station := ownStation_eq hi
    have checks : firstFail (creditChecks (putSlot slot (creditSlot kind card a ref) s)
        (ownStation (putSlot slot (creditSlot kind card a ref) s)) card.serial kind a) = none := by
      rw [own]
      exact creditChecks_pass (s := putSlot slot (creditSlot kind card a ref) s) hf (refund_or hfrozen) covered room reserve
        frames limit
    rw [exec_ownCredit trading hi named free valid hown least most reserve frames, decideOwnCredit_applied checks hf,
      applyCredit_eq (s := putSlot slot (creditSlot kind card a ref) s) frames, own, decide_eq_true rfl]
    exact ⟨_, rfl, rfl, rfl, rfl, rfl, rfl, rfl, rfl,
      rowBecomes_of (s := s) (u := putSlot slot (creditSlot kind card a ref) s) rfl rfl, rfl, ⟨rfl, rfl⟩, rfl, rfl, rfl⟩
  · have declined {r : Reason} (h : firstFail (creditChecks (putSlot slot (creditSlot kind card a ref) s) i.station
        card.serial kind a) = some r) :
        declinesSlot (creditCommand kind slot card a ref) slot (creditSlot kind card a ref) r s := by
      have own : ownStation (putSlot slot (creditSlot kind card a ref) s) = i.station := ownStation_eq hi
      refine declinesSlot_of rfl ?_
      rw [exec_ownCredit trading hi named free valid hown least most reserve frames,
        decideOwnCredit_declined (own.symm ▸ h)]
      rfl
    exact ⟨fun hf => declined (creditChecks_unknown hf), fun p c hf => ⟨fun hk hz => declined (creditChecks_frozen hf hk hz),
      fun hk => ⟨fun h => declined (creditChecks_over hf hk h), fun hle =>
        ⟨fun h => declined (creditChecks_busy hf hk hle (.inl h)), fun room h =>
          declined (creditChecks_limit hf hk hle room reserve frames h)⟩⟩⟩⟩

end Sys2Proof
end

section
/-! ENQUIRE, FREEZE and UNFREEZE of an own card (R17, R18, R19). -/
namespace Sys2Proof.Machine

section
variable {s : State} {slot : Nat} {card : CardId} {ref : Option Nat} {place : Nat} {c : Card}

/-- A command whose outcome its slot shows at once (R17, R65). -/
theorem showsOutcome_of {x : Instr} {sl : Slot} {o : OutcomeRec} (hh : onHold sl = false)
    (h : exec x s = .next (accepted [] (setOutcome slot o (putSlot slot sl s)))) :
    ∃ t, exec x s = .next t ∧ slotBecomes slot (some (slotOutcome sl o)) s t ∧ postsSlot slot o.code s t ∧
      t.port = acceptedPort [] s ∧ { t with slots := s.slots, notices := s.notices, port := s.port } = s := by
  rw [setOutcome_putSlot slot _ hh] at h
  exact ⟨_, h, rfl, rfl, rfl, rfl⟩

/-- A command whose outcome waits for frames (R17, R164). -/
theorem waitsForOutcome_of {x : Instr} {sl : Slot} {o : OutcomeRec} {ns : List Nat} (hne : ns ≠ [])
    (h : exec x s = .next (accepted [] (outcomeAfter ns slot o (putSlot slot sl s)))) :
    waitsForOutcome x slot sl ns o s := by
  unfold waitsForOutcome
  rw [h, outcomeAfter_of_ne hne]
  rfl

theorem cardView_none {n : Nat} (hf : findCard s n = none) : cardView s n = (.unknown, 0, 0) := by
  unfold cardView
  rw [hf]

theorem cardView_some {n : Nat} (hf : findCard s n = some (place, c)) :
    cardView s n = (if cardLocked s n then .locked else if c.state = .frozen then .frozen else .active,
      c.available, c.held) := by
  unfold cardView
  rw [hf]
  dsimp only
  cases hc : c.state <;> simp

/-- A slot of an enquiry or of a change of a card's state (R17, R65). -/
def statusSlot (op : Operation) (card : CardId) (ref : Option Nat) : Slot := newSlot .enquiring op card 0 ref

theorem isOwn_of (h : card.ss = ownStation s) : isOwn s card = true := decide_eq_true h

theorem exec_ownEnquire (ht : s.station = .trading) (hn : slot < 8) (hfree : getSlot s slot = none)
    (hv : cardValid card = true) (hown : card.ss = ownStation s) :
    exec (.enquire slot card) s = .next (accepted [] (outcomeAfter (cardFrames s card.serial) slot (ownStatus s card)
      (putSlot slot (statusSlot .enquire card none) s))) := by
  have checks : firstFail (enquireChecks slot card s) = none := by
    unfold enquireChecks
    rw [List.append_assoc, newWorkChecks_eq ht hn hfree, if_pos (isOwn_of hown)]
    exact firstFail_of_pass hv rfl
  show execEnquire slot card s = _
  unfold execEnquire
  rw [checkedCommand_run _ (not_held_of_trading ht) checks]
  unfold runEnquire
  dsimp only
  rw [if_pos (isOwn_of hown)]
  rfl

theorem exec_ownFreeze (ht : s.station = .trading) (hn : slot < 8) (hfree : getSlot s slot = none)
    (hv : cardValid card = true) (hown : card.ss = ownStation s) (reserve : 512 < freeCount s.journal)
    (frames : frameFree s = true) :
    exec (.freeze slot card) s =
      .next (accepted [] (decideOwnFreeze slot card (putSlot slot (statusSlot .freeze card none) s))) := by
  have checks : firstFail (freezeChecks slot card s) = none := by
    unfold freezeChecks
    rw [List.append_assoc, newWorkChecks_eq ht hn hfree, if_pos (isOwn_of hown)]
    exact firstFail_of_pass hv <| firstFail_of_pass (by rw [insideReserve_eq_false_iff.2 reserve]; rfl)
      (firstFail_of_pass frames rfl)
  show execFreeze slot card s = _
  unfold execFreeze
  rw [checkedCommand_run _ (not_held_of_trading ht) checks]
  unfold runFreeze
  dsimp only
  rw [if_pos (isOwn_of hown)]
  rfl

theorem exec_ownUnfreeze (ht : s.station = .trading) (hn : slot < 8) (hfree : getSlot s slot = none)
    (hv : cardValid card = true) (hown : card.ss = ownStation s) (reserve : 512 < freeCount s.journal)
    (frames : frameFree s = true) :
    exec (.unfreeze slot card ref true) s =
      .next (accepted [] (decideUnfreeze slot card ref (putSlot slot (statusSlot .unfreeze card ref)
        (sampleProtect true s)))) := by
  have checks : firstFail (unfreezeChecks slot card true (sampleProtect true s)) = none := by
    unfold unfreezeChecks
    rw [newWorkChecks_eq (s := sampleProtect true s) ht hn hfree]
    have reserve : insideReserve (sampleProtect true s) = false := insideReserve_eq_false_iff.2 reserve
    exact firstFail_of_pass hv <| firstFail_of_pass (isOwn_of (s := sampleProtect true s) hown) <|
      firstFail_of_pass rfl <| firstFail_of_pass (by rw [reserve]; rfl) (firstFail_of_pass frames rfl)
  rw [exec_unfreeze_run (not_held_of_trading ht) checks]
  rfl

theorem decideOwnFreeze_report (hd : freezeDecision s card.serial false = .report) :
    decideOwnFreeze slot card s = outcomeAfter (cardFrames s card.serial) slot (ownStatus s card) s := by
  unfold decideOwnFreeze
  rw [hd]

theorem decideOwnFreeze_change (hd : freezeDecision s card.serial false = .change place c) :
    decideOwnFreeze slot card s = changeStatus place c (freezeDraft s card.serial (ownStation s))
      (.slotOutcome slot none none (statusOutcome card (frozenView s card.serial) c.available c.held)) s := by
  unfold decideOwnFreeze
  rw [hd]

theorem decideUnfreeze_unknown (hf : findCard s card.serial = none) :
    decideUnfreeze slot card ref s = setOutcome slot (ownDeclined s card .unknownCard) s := by
  unfold decideUnfreeze
  rw [hf]

theorem decideUnfreeze_active (hf : findCard s card.serial = some (place, c)) (ha : c.state = .active) :
    decideUnfreeze slot card ref s = setOutcome slot (unfrozenOutcome s card) s := by
  unfold decideUnfreeze
  rw [hf]
  simp only [ha]

theorem decideUnfreeze_frozen (hf : findCard s card.serial = some (place, c)) (hz : c.state = .frozen) :
    decideUnfreeze slot card ref s =
      changeStatus place { c with state := .active }
        ⟨.unfreeze, openPeriod s, .plain { card := some card, tillRef := ref }⟩
        (.slotOutcome slot none none (unfrozenOutcome s card)) s := by
  unfold decideUnfreeze
  rw [hf]
  simp only [hz]

/-- The UNFROZEN outcome of a card with a record (R19). -/
theorem unfrozenOutcome_eq (hf : findCard s card.serial = some (place, c)) :
    unfrozenOutcome s card =
      ⟨.unfrozen, 0, card, some c.available, if cardLocked s card.serial then some .locked else none, none, 0⟩ := by
  simp [unfrozenOutcome, ownOutcome, outcomeOf, availableOf, hf]

end

end Sys2Proof.Machine

namespace Sys2Proof
open Sys2Proof.Machine

/-- Settles O17: each command's checks passed, then the home's report or change. -/
theorem ownCardStatusCommands : Obligations.OwnCardStatusCommands := by
  intro s slot card ref trading named free valid hown
  have enquired := exec_ownEnquire trading named free valid hown
  refine ⟨cardView_none, fun p c => cardView_some, fun hnone => ?_, fun hsome => waitsForOutcome_of hsome enquired,
    fun reserve frames => ⟨fun p c hf ha => ?_, fun hfrozen => ?_, fun hf => ?_, fun p c hf ha => ?_, fun p c hf hz => ?_⟩⟩
  · rw [hnone] at enquired
    exact showsOutcome_of rfl enquired
  · have change : freezeDecision (putSlot slot (statusSlot .freeze card none) s) card.serial false =
        .change p { c with state := .frozen } := freezeDecision_active (s := putSlot slot _ s) hf ha
    rw [exec_ownFreeze trading named free valid hown reserve frames, decideOwnFreeze_change change,
      changeStatus_eq (s := putSlot slot (statusSlot .freeze card none) s) frames, hown]
    exact ⟨_, rfl, rfl, rfl, rfl, rfl, ⟨rfl, rfl⟩, rfl, rfl, rfl⟩
  · have report : freezeDecision (putSlot slot (statusSlot .freeze card none) s) card.serial false = .report :=
      freezeDecision_report hfrozen
    have reported := exec_ownFreeze trading named free valid hown reserve frames
    rw [decideOwnFreeze_report report] at reported
    refine ⟨fun hnone => ?_, fun hsome => waitsForOutcome_of hsome reported⟩
    have none : cardFrames (putSlot slot (statusSlot .freeze card Option.none) s) card.serial = [] := hnone
    rw [none] at reported
    exact showsOutcome_of rfl reported
  · refine declinesSlot_of rfl ?_
    have declined := exec_ownUnfreeze (s := sampleProtect true s) (ref := ref) trading named free valid hown reserve frames
    have hf : findCard (putSlot slot (statusSlot .unfreeze card ref) (sampleProtect true (sampleProtect true s))) card.serial =
      none := hf
    rw [decideUnfreeze_unknown hf] at declined
    exact declined
  · have hf : findCard (putSlot slot (statusSlot .unfreeze card ref) (sampleProtect true s)) card.serial = some (p, c) := hf
    have unfrozen := exec_ownUnfreeze (ref := ref) trading named free valid hown reserve frames
    rw [decideUnfreeze_active hf ha, unfrozenOutcome_eq hf, setOutcome_putSlot slot _ rfl] at unfrozen
    exact ⟨_, unfrozen, rfl, rfl, rfl, rfl⟩
  · have hf : findCard (putSlot slot (statusSlot .unfreeze card ref) (sampleProtect true s)) card.serial = some (p, c) := hf
    rw [exec_ownUnfreeze (ref := ref) trading named free valid hown reserve frames, decideUnfreeze_frozen hf hz,
      unfrozenOutcome_eq hf, changeStatus_eq (s := putSlot slot (statusSlot .unfreeze card ref) (sampleProtect true s)) frames]
    exact ⟨_, rfl, rfl, rfl, rfl, rfl, ⟨rfl, rfl⟩, rfl, rfl, rfl⟩

end Sys2Proof
end

section
/-! The receive queue is not read by the work that a close begins with: a frame taken first or after makes no difference (R54,
R57, R97). -/
namespace Sys2Proof.Machine

section
variable {s : State} {rest : List LinkFrame}

/-- A choice that does not read the receive queue, made between two results that do not. -/
theorem ite_taken {C : Prop} [Decidable C] {a b a' b' : State} (ha : a' = taken rest a) (hb : b' = taken rest b) :
    (if C then a' else b') = taken rest (if C then a else b) := by
  split
  · exact ha
  · exact hb

theorem offerPresence_taken (rest : List LinkFrame) (s : State) : offerPresence (taken rest s) = taken rest (offerPresence s) :=
  ite_taken (ite_taken rfl (ite_taken rfl rfl)) rfl

theorem acceptFrame_taken (fm : FrameFormat) (ts : List Target) (ps : List Nat) (c : Continuation) (rest : List LinkFrame)
    (s : State) : acceptFrame fm ts ps c (taken rest s) = taken rest (acceptFrame fm ts ps c s) := ite_taken rfl rfl

theorem claim_taken_fst (ds : List Draft) (rest : List LinkFrame) (s : State) : (claim ds (taken rest s)).1 = (claim ds s).1 := rfl

theorem claim_taken_snd (ds : List Draft) (rest : List LinkFrame) (s : State) :
    (claim ds (taken rest s)).2 = taken rest (claim ds s).2 := ite_taken rfl rfl

theorem setCloseRow_taken (j : Nat) (c : CloseRow) (rest : List LinkFrame) (s : State) :
    setCloseRow j c (taken rest s) = taken rest (setCloseRow j c s) := by
  have hv : (taken rest s).positions.view = s.positions.view := rfl
  unfold setCloseRow
  rw [hv]
  cases s.positions.view <;> rfl

theorem callSend_taken (j : Nat) (rest : List LinkFrame) (s : State) : callSend j (taken rest s) = taken rest (callSend j s) := by
  have hf : sendFrames j (taken rest s) = sendFrames j s := rfl
  refine ite_taken rfl ?_
  rw [hf]
  cases sendFrames j s with
  | nil => exact ite_taken rfl rfl
  | cons => rfl

theorem callSendPresent_taken (j : Nat) (rest : List LinkFrame) (s : State) :
    callSendPresent j (taken rest s) = taken rest (callSendPresent j s) := ite_taken (callSend_taken j rest s) rfl

theorem postAfter_taken (ns : List Nat) (n : NoticeRec) (rest : List LinkFrame) (s : State) :
    postAfter ns n (taken rest s) = taken rest (postAfter ns n s) := by cases ns <;> rfl

theorem leavePending_taken (j : Nat) (rest : List LinkFrame) (s : State) :
    leavePending j (taken rest s) = taken rest (leavePending j s) := by
  have hr : closingRow (taken rest s) j = closingRow s j := rfl
  have hns : unstored (writesRow (closingSide (taken rest s)) j) (taken rest s) = unstored (writesRow (closingSide s) j) s := rfl
  have hd : disputedNotice (taken rest s) j = disputedNotice s j := rfl
  unfold leavePending
  simp only [hr, hns, hd, setCloseRow_taken, postAfter_taken, callSendPresent_taken]
  split
  · exact ite_taken rfl rfl
  · exact ite_taken rfl rfl

theorem examineRow_taken (j : Nat) (rest : List LinkFrame) (s : State) :
    examineRow j (taken rest s) = taken rest (examineRow j s) := by
  have hv : (taken rest s).positions.view = s.positions.view := rfl
  unfold examineRow
  rw [hv]
  cases s.positions.view with
  | none => rfl
  | some v =>
    refine ite_taken rfl (ite_taken (ite_taken rfl rfl) (ite_taken rfl (ite_taken ?_ rfl)))
    split
    · exact leavePending_taken j rest s
    · exact setCloseRow_taken _ _ rest s

/-- What each step of a fold does not read, the fold does not. -/
theorem foldl_taken {α : Type} {f : State → α → State} (h : ∀ a t, f (taken rest t) a = taken rest (f t a)) (l : List α)
    (s : State) : l.foldl f (taken rest s) = taken rest (l.foldl f s) := by
  induction l generalizing s with
  | nil => rfl
  | cons a l ih => rw [List.foldl_cons, List.foldl_cons, h, ih]

theorem examineRows_taken (rest : List LinkFrame) (s : State) : examineRows (taken rest s) = taken rest (examineRows s) :=
  foldl_taken (fun j t => examineRow_taken j rest t) _ s

theorem runCompletion_taken (v : CloseView) (rest : List LinkFrame) (s : State) :
    runCompletion (taken rest s) v = taken rest (runCompletion s v) := by
  have hr : statementRun (taken rest s) v = statementRun s v := rfl
  unfold runCompletion
  simp only [hr, claim_taken_fst, claim_taken_snd, acceptFrame_taken]
  rfl

theorem examineCompletion_taken (rest : List LinkFrame) (s : State) :
    examineCompletion (taken rest s) = taken rest (examineCompletion s) := by
  have hv : (taken rest s).positions.view = s.positions.view := rfl
  unfold examineCompletion
  rw [hv]
  cases s.positions.view with
  | none => rfl
  | some v => exact ite_taken (runCompletion_taken v rest s) rfl

/-- The state of the part as a close begins, before any row is examined (R97). -/
def closeBegun (s : State) : State :=
  { s with positions := { s.positions with
      gen := { s.positions.gen with
        openSide := otherSide s.positions.gen.openSide, openPeriod := openPeriod s + 1, closing := true }
      view := some ⟨[], false, fullDeadline s, false⟩ } }

theorem beginClose_eq (s : State) :
    beginClose s = examineCompletion (examineRows (acceptFrame .closeBegin [.generation (closeBegun s).positions.gen] []
      (.notice ⟨.closeBegun, .number (openPeriod s), 0⟩) (closeBegun s))) := rfl

theorem beginClose_taken (rest : List LinkFrame) (s : State) : beginClose (taken rest s) = taken rest (beginClose s) := by
  have hb : closeBegun (taken rest s) = taken rest (closeBegun s) := rfl
  rw [beginClose_eq, hb, acceptFrame_taken, examineRows_taken, examineCompletion_taken]
  rfl

theorem examineBegin_taken (rest : List LinkFrame) (s : State) : examineBegin (taken rest s) = taken rest (examineBegin s) :=
  ite_taken (beginClose_taken rest s) rfl

end

/-! ### What a close changes of the positions -/

/-- Of the positions only the close view differs. -/
def OnlyView (s t : State) : Prop := ∃ v, t.positions = { s.positions with view := v }

section
variable {s t u : State}

theorem OnlyView.refl (s : State) : OnlyView s s := ⟨s.positions.view, rfl⟩

theorem onlyView_of_eq (h : t.positions = s.positions) : OnlyView s t := ⟨s.positions.view, h⟩

theorem OnlyView.trans (h : OnlyView s t) (k : OnlyView t u) : OnlyView s u := by
  obtain ⟨v, hv⟩ := h
  obtain ⟨w, hw⟩ := k
  exact ⟨w, by rw [hw, hv]⟩

theorem OnlyView.gen (h : OnlyView s t) : t.positions.gen = s.positions.gen := by
  obtain ⟨v, hv⟩ := h
  rw [hv]

theorem OnlyView.target (h : OnlyView s t) : t.positions.target = s.positions.target := by
  obtain ⟨v, hv⟩ := h
  rw [hv]

theorem setCloseRow_onlyView (j : Nat) (c : CloseRow) (s : State) : OnlyView s (setCloseRow j c s) := by
  unfold setCloseRow
  split
  · exact ⟨_, rfl⟩
  · exact .refl s

theorem callSendPresent_onlyView (j : Nat) (s : State) : OnlyView s (callSendPresent j s) := by
  unfold callSendPresent
  split
  · exact onlyView_of_eq (by simp)
  · exact .refl s

theorem postAfter_onlyView (ns : List Nat) (n : NoticeRec) (s : State) : OnlyView s (postAfter ns n s) :=
  onlyView_of_eq (by simp)

theorem leavePending_onlyView (j : Nat) (s : State) : OnlyView s (leavePending j s) := by
  unfold leavePending
  dsimp only
  split
  · split
    · exact (setCloseRow_onlyView _ _ s).trans (callSendPresent_onlyView _ _)
    · exact ((setCloseRow_onlyView _ _ s).trans (postAfter_onlyView _ _ _)).trans (callSendPresent_onlyView _ _)
  · split
    · exact setCloseRow_onlyView _ _ s
    · exact (setCloseRow_onlyView _ _ s).trans (callSendPresent_onlyView _ _)

theorem examineRow_onlyView (j : Nat) (s : State) : OnlyView s (examineRow j s) := by
  unfold examineRow
  split
  · exact .refl s
  · split
    · exact .refl s
    · split
      · split
        · exact ⟨_, rfl⟩
        · exact .refl s
      · dsimp only
        split
        · exact .refl s
        · split
          · split
            · exact leavePending_onlyView j s
            · exact setCloseRow_onlyView _ _ s
          · exact .refl s

theorem examineRows_onlyView (s : State) : OnlyView s (examineRows s) := by
  unfold examineRows
  generalize (List.range 63).map (· + 1) = l
  induction l generalizing s with
  | nil => exact .refl s
  | cons j l ih => exact (examineRow_onlyView j s).trans (ih _)

theorem examineCompletion_onlyView (s : State) : OnlyView s (examineCompletion s) := by
  unfold examineCompletion
  split
  · split
    · next v _ _ =>
      refine ⟨some { v with deadline := none, completed := true }, ?_⟩
      simp [runCompletion, setView]
    · exact .refl s
  · exact .refl s

/-- A close that begins keeps what `closeBegun` gives it (R97). -/
theorem beginClose_onlyView (s : State) : OnlyView (closeBegun s) (beginClose s) := by
  rw [beginClose_eq]
  exact ((onlyView_of_eq (by simp)).trans (examineRows_onlyView _)).trans (examineCompletion_onlyView _)

theorem beginClose_gen (s : State) :
    (beginClose s).positions.gen = { s.positions.gen with
      openSide := otherSide s.positions.gen.openSide, openPeriod := openPeriod s + 1, closing := true } :=
  (beginClose_onlyView s).gen

theorem examineBegin_target (s : State) : (examineBegin s).positions.target = s.positions.target := by
  unfold examineBegin
  split
  · exact (beginClose_onlyView s).target
  · rfl

/-- A close under way lets no close begin (R96). -/
theorem canBegin_of_closing (h : s.positions.gen.closing = true) : canBegin s = false := by simp [canBegin, h]

/-- Close begin examined twice is examined once: a close that begins is under way (R96, R97). -/
theorem examineBegin_examineBegin (s : State) : examineBegin (examineBegin s) = examineBegin s := by
  by_cases h : canBegin s = true
  · have hb : examineBegin s = beginClose s := if_pos h
    have hno : canBegin (beginClose s) = false := canBegin_of_closing (by rw [beginClose_gen])
    rw [hb]
    exact if_neg (by rw [hno]; exact Bool.false_ne_true)
  · have hs : examineBegin s = s := if_neg h
    rw [hs, hs]

/-- The open period, after close begin was examined, is the one before or the next (R97). -/
theorem examineBegin_openPeriod (s : State) :
    openPeriod (examineBegin s) = openPeriod s ∨ openPeriod (examineBegin s) = openPeriod s + 1 := by
  unfold examineBegin
  split
  · exact .inr (by rw [openPeriod, beginClose_gen])
  · exact .inl rfl

end

end Sys2Proof.Machine
end

section
/-! Stamps: their extension (R56), and a frame whose stamp raises the target before it is served (R57, R94). -/
namespace Sys2Proof.Machine

section
variable {s t : State} {f : LinkFrame} {rest : List LinkFrame}

/-- The close target is another, and nothing else. -/
def targeted (n : Nat) (s : State) : State := { s with positions := { s.positions with target := n } }

/-- Every frame but a PRESENCE is handed over with its stamp read (R55 to R57). -/
theorem exec_handOverOf {p : Payload} (h : isPresence p = false) :
    ∃ kind serve, kind p = true ∧ ∀ s, exec (handOverOf p) s = handOver kind (traded serve) s := by
  cases p with
  | presence => exact absurd h (by simp [isPresence])
  | holdReq => exact ⟨isHoldReq, serveHoldReq, rfl, fun _ => rfl⟩
  | holdAns => exact ⟨isHoldAns, takeHoldAns, rfl, fun _ => rfl⟩
  | settleReq => exact ⟨isSettleReq, serveSettleReq, rfl, fun _ => rfl⟩
  | settleAns => exact ⟨isSettleAns, takeSettleAns, rfl, fun _ => rfl⟩
  | creditReq => exact ⟨isCreditReq, serveCreditReq, rfl, fun _ => rfl⟩
  | creditAns => exact ⟨isCreditAns, takeCreditAns, rfl, fun _ => rfl⟩
  | statusReq => exact ⟨isStatusReq, serveStatusReq, rfl, fun _ => rfl⟩
  | statusAns => exact ⟨isStatusAns, takeStatusAns, rfl, fun _ => rfl⟩
  | position => exact ⟨isPosition, takePosition, rfl, fun _ => rfl⟩

/-- A stamp later than the open period reads the same in the next period. -/
theorem extendStamp_next {o st : Nat} (h : (o : Int) < extendStamp o st) : extendStamp (o + 1) st = extendStamp o st := by
  unfold extendStamp at h ⊢
  omega

/-- A later stamp reads the same after close begin was examined. -/
theorem extendStamp_examineBegin {st : Nat} (h : (openPeriod s : Int) < extendStamp (openPeriod s) st) :
    extendStamp (openPeriod (examineBegin s)) st = extendStamp (openPeriod s) st := by
  rcases examineBegin_openPeriod s with ho | ho
  · rw [ho]
  · rw [ho, extendStamp_next h]

/-- A frame served where close begin was examined: its stamp reads as before and raises nothing more. -/
theorem served_examineBegin {kind : Payload → Bool} {serve : LinkFrame → Int → State → State} (ht : s.station = .trading)
    (hrx : s.link.rx = f :: rest) (hk : kind f.payload = true)
    (later : (openPeriod s : Int) < extendStamp (openPeriod s) f.stamp)
    (low : extendStamp (openPeriod s) f.stamp ≤ s.positions.target + 1) :
    handOver kind (traded serve) (examineBegin s) =
      .next (serve f (extendStamp (openPeriod s) f.stamp) (examineBegin (taken rest s))) := by
  have hc := examineBegin_clerical s
  have hext := extendStamp_examineBegin later
  have hraises : raisesNothing f (examineBegin s) = true := by
    simp only [raisesNothing, Bool.or_eq_true, decide_eq_true_eq]
    rw [hext, examineBegin_target]
    exact .inr low
  rw [served_eq (hc.station.trans ht) (hc.rx.trans hrx) hraises hk, hext, examineBegin_taken]

/-! ### The period check (R13, R26) -/

theorem periodCheck_examineBegin {x : Int} (h : (openPeriod s : Int) < x) :
    periodCheck x (examineBegin s) = periodCheck x s := by
  have hs : periodCheck x s = examineBegin s := if_pos h
  rw [hs]
  unfold periodCheck
  split
  · exact examineBegin_examineBegin s
  · rfl

/-- A request that asks for the period check begins a close that can begin (R13, R26). -/
theorem asksPeriod_cases {p : Payload} (h : p.asksPeriod = true) :
    (∃ n a b, p = .holdReq n a b ∧ a ≠ 0) ∨ ∃ k n a, p = .creditReq k n a ∧ a ≠ 0 := by
  cases p with
  | holdReq n a b => exact .inl ⟨n, a, b, rfl, by simpa [Payload.asksPeriod] using h⟩
  | creditReq k n a => exact .inr ⟨k, n, a, rfl, by simpa [Payload.asksPeriod] using h⟩
  | _ => exact absurd h (by simp [Payload.asksPeriod])

theorem serveHoldReq_examineBegin {x : Int} {n a : Nat} {b : Bool} (hp : f.payload = .holdReq n a b) (ha : a ≠ 0)
    (h : (openPeriod s : Int) < x) : serveHoldReq f x (examineBegin s) = serveHoldReq f x s := by
  unfold serveHoldReq
  rw [hp]
  dsimp only
  rw [if_neg ha, if_neg ha, periodCheck_examineBegin h]

theorem serveCreditReq_examineBegin {x : Int} {k : CreditKind} {n a : Nat} (hp : f.payload = .creditReq k n a) (ha : a ≠ 0)
    (h : (openPeriod s : Int) < x) : serveCreditReq f x (examineBegin s) = serveCreditReq f x s := by
  unfold serveCreditReq
  rw [hp]
  dsimp only
  rw [if_neg ha, if_neg ha, periodCheck_examineBegin h]

end

end Sys2Proof.Machine

namespace Sys2Proof
open Sys2Proof.Machine

/-- Settles O60: the window of the extension by arithmetic; the raise commutes with taking the frame. -/
theorem stampsExtendToTheNearestPeriod : Obligations.StampsExtendToTheNearestPeriod := by
  refine ⟨fun o st hst => ?_, fun s f rest trading hrx hp later => ⟨fun high => ?_, fun low asks => ?_⟩,
    fun s trading open_ target last reserve frames => ?_, fun s h => ?_⟩
  · unfold extendStamp stampOf
    exact ⟨by omega, by omega, by omega, fun z hz h1 h2 => by omega, fun p h1 h2 => by omega⟩
  · obtain ⟨kind, serve, hk, hx⟩ := exec_handOverOf hp
    have hc := offerPresence_clerical (targeted (extendStamp (openPeriod s) f.stamp - 1).toNat s)
    have hpos : (offerPresence (targeted (extendStamp (openPeriod s) f.stamp - 1).toNat s)).positions =
      (targeted (extendStamp (openPeriod s) f.stamp - 1).toNat s).positions := by simp
    have hper : openPeriod (offerPresence (targeted (extendStamp (openPeriod s) f.stamp - 1).toNat s)) = openPeriod s :=
      congrArg (·.gen.openPeriod) hpos
    have htarget : (offerPresence (targeted (extendStamp (openPeriod s) f.stamp - 1).toNat s)).positions.target =
      (extendStamp (openPeriod s) f.stamp - 1).toNat := congrArg (·.target) hpos
    have after := served_examineBegin (serve := serve) (hc.station.trans trading) (hc.rx.trans hrx) hk
      (by rw [hper]; exact later) (by rw [hper, htarget]; omega)
    rw [hper] at after
    have raises : raiseByStamp (extendStamp (openPeriod s) f.stamp) (taken rest s) =
        examineBegin (taken rest (offerPresence (targeted (extendStamp (openPeriod s) f.stamp - 1).toNat s))) := by
      have above : s.positions.target < (extendStamp (openPeriod s) f.stamp - 1).toNat := by omega
      rw [← offerPresence_taken, raiseByStamp, if_pos (show (openPeriod (taken rest s) : Int) < _ from later), raiseTarget,
        if_pos ⟨trading, above⟩]
      rfl
    refine (hx s).trans (Eq.trans ?_ ((hx _).trans after).symm)
    rw [handOver_eq trading hrx hk, ← raises, traded, if_pos]
    · rfl
    · exact isTrading_iff.2 trading
  · have hraises : raisesNothing f s = true := by
      simp only [raisesNothing, Bool.or_eq_true, decide_eq_true_eq]
      exact .inr low
    rcases asksPeriod_cases asks with ⟨n, a, b, he, ha⟩ | ⟨k, n, a, he, ha⟩
    · have hk : isHoldReq f.payload = true := by rw [he]; rfl
      have hx (u : State) : exec (handOverOf f.payload) u = handOver isHoldReq (traded serveHoldReq) u := by rw [he]; rfl
      rw [hx, hx, served_eq trading hrx hraises hk, served_examineBegin trading hrx hk later low,
        serveHoldReq_examineBegin (s := taken rest s) he ha later]
    · have hk : isCreditReq f.payload = true := by rw [he]; rfl
      have hx (u : State) : exec (handOverOf f.payload) u = handOver isCreditReq (traded serveCreditReq) u := by rw [he]; rfl
      rw [hx, hx, served_eq trading hrx hraises hk, served_examineBegin trading hrx hk later low,
        serveCreditReq_examineBegin (s := taken rest s) he ha later]
  · have begins : canBegin s = true := by
      have last : openPeriod s < maxPeriod := last
      simp [canBegin, trading, open_, target, last, insideReserve_eq_false_iff.2 reserve, frames]
    have hb : examineBegin s = beginClose s := if_pos begins
    have hc := examineBegin_clerical s
    exact ⟨by rw [hb, openPeriod, beginClose_gen], hc.rx, hc.custody, hc.requests⟩
  · refine examineBegin_of_not (h.elim (fun ht => ?_) canBegin_of_no)
    simp [canBegin, ht]

end Sys2Proof
end

section
/-! START: what its work leaves alone (R169, R170). -/
namespace Sys2Proof.Machine

section
variable {s t u : State}

/-! ### Offers touch the link and the tracker alone (R50, R170) -/

/-- Of `s` only the link and the tracker differ. -/
def OnlyOffers (s t : State) : Prop := { t with link := s.link, tracker := s.tracker } = s

theorem OnlyOffers.refl (s : State) : OnlyOffers s s := rfl

theorem OnlyOffers.trans (h : OnlyOffers s t) (k : OnlyOffers t u) : OnlyOffers s u := by
  unfold OnlyOffers at h k ⊢
  rw [← k] at h
  exact h

theorem OnlyOffers.slots (h : OnlyOffers s t) : t.slots = s.slots := (congrArg State.slots h :)
theorem OnlyOffers.positions (h : OnlyOffers s t) : t.positions = s.positions := (congrArg State.positions h :)
theorem OnlyOffers.journal (h : OnlyOffers s t) : t.journal = s.journal := (congrArg State.journal h :)
theorem OnlyOffers.notices (h : OnlyOffers s t) : t.notices = s.notices := (congrArg State.notices h :)
theorem OnlyOffers.control (h : OnlyOffers s t) : t.control = s.control := (congrArg State.control h :)

theorem onlyOffers_link (l : Link) (s : State) : OnlyOffers s { s with link := l } := rfl

theorem offerPresence_onlyOffers (s : State) : OnlyOffers s (offerPresence s) := by
  unfold offerPresence
  dsimp only
  split
  · split
    · rfl
    · split <;> rfl
  · rfl

theorem offerRequest_onlyOffers (p : Nat) (t : Track) (s : State) : OnlyOffers s (offerRequest p t s) := by
  unfold offerRequest
  dsimp only
  split <;> rfl

theorem offerOwed_onlyOffers (c : Continuation) (s : State) : OnlyOffers s (offerOwed c s) := by
  cases c with
  | answer d n p =>
    show OnlyOffers s (offerAnswer d n p s)
    unfold offerAnswer
    split <;> rfl
  | request home n _ _ =>
    show OnlyOffers s (offerRequestOf home n s)
    unfold offerRequestOf
    split
    · split
      · rfl
      · exact offerRequest_onlyOffers _ _ s
    · rfl
  | none => rfl
  | slotOutcome n r h o => rfl
  | notice n => rfl

theorem placeOwed_onlyOffers (cs : List Continuation) (s : State) : OnlyOffers s (placeOwed cs s) := by
  induction cs generalizing s with
  | nil => rfl
  | cons c cs ih =>
    unfold placeOwed
    split
    · exact ih s
    · split
      · exact (offerOwed_onlyOffers c s).trans (ih _)
      · rfl

theorem offerKept_onlyOffers (owed : List Continuation) (s : State) : OnlyOffers s (offerKept owed s) := by
  unfold offerKept
  generalize s.tracker.entries = l
  suffices ∀ t, OnlyOffers s t → OnlyOffers s (l.foldl (fun s p =>
      if p.2.data.state = .sent && !trackFree (lastClosed s) p.2 && !requestOwed owed p.2 then offerRequest p.1 p.2 s
      else s) t) from this s (.refl s)
  induction l with
  | nil => exact fun t ht => ht
  | cons p l ih =>
    refine fun t ht => ih _ ?_
    dsimp only
    split
    · exact ht.trans (offerRequest_onlyOffers _ _ t)
    · exact ht

/-! ### The close leaves the till slots alone, and its deadline (R106, R112) -/

theorem callSendPresent_slots (j : Nat) (s : State) : (callSendPresent j s).slots = s.slots := by
  unfold callSendPresent
  split <;> simp

theorem leavePending_slots (j : Nat) (s : State) : (leavePending j s).slots = s.slots := by
  unfold leavePending
  dsimp only
  split
  · split <;> simp [callSendPresent_slots]
  · split <;> simp [callSendPresent_slots]

theorem examineRow_slots (j : Nat) (s : State) : (examineRow j s).slots = s.slots := by
  unfold examineRow
  split
  · rfl
  · split
    · rfl
    · split
      · split <;> rfl
      · dsimp only
        split
        · rfl
        · split
          · split
            · exact leavePending_slots j s
            · simp
          · rfl

theorem examineRows_slots (s : State) : (examineRows s).slots = s.slots := by
  unfold examineRows
  generalize (List.range 63).map (· + 1) = l
  induction l generalizing s with
  | nil => rfl
  | cons j l ih => exact (ih _).trans (examineRow_slots j s)

theorem examineCompletion_slots (s : State) : (examineCompletion s).slots = s.slots := by
  unfold examineCompletion
  split
  · split
    · simp [runCompletion]
    · rfl
  · rfl

theorem resumeClose_slots (s : State) : (resumeClose s).slots = s.slots := by
  unfold resumeClose
  split
  · rw [examineCompletion_slots, examineRows_slots]
    rfl
  · rfl

theorem examineBegin_slots (s : State) : (examineBegin s).slots = s.slots := by
  unfold examineBegin
  split
  · rw [beginClose_eq, examineCompletion_slots, examineRows_slots]
    simp [closeBegun]
  · rfl

/-- Whether the close's completion ran, and its deadline (R106, R110). -/
def closeClock (s : State) : Option (Bool × Option Nat) := s.positions.view.map fun v => (v.completed, v.deadline)

theorem closeClock_congr (h : t.positions = s.positions) : closeClock t = closeClock s := by rw [closeClock, h, closeClock]

theorem setCloseRow_closeClock (j : Nat) (c : CloseRow) (s : State) : closeClock (setCloseRow j c s) = closeClock s := by
  unfold setCloseRow
  split
  · next v hv => simp [closeClock, setView, hv]
  · rfl

theorem callSendPresent_closeClock (j : Nat) (s : State) : closeClock (callSendPresent j s) = closeClock s := by
  unfold callSendPresent
  split
  · exact closeClock_congr (by simp)
  · rfl

theorem leavePending_closeClock (j : Nat) (s : State) : closeClock (leavePending j s) = closeClock s := by
  have hp (ns : List Nat) (n : NoticeRec) (s : State) : closeClock (postAfter ns n s) = closeClock s :=
    closeClock_congr (by simp)
  unfold leavePending
  dsimp only
  split
  · split <;> simp only [callSendPresent_closeClock, hp, setCloseRow_closeClock]
  · split <;> simp only [callSendPresent_closeClock, setCloseRow_closeClock]

theorem examineRow_closeClock (j : Nat) (s : State) : closeClock (examineRow j s) = closeClock s := by
  unfold examineRow
  split
  · rfl
  · next v hv =>
    split
    · rfl
    · split
      · split
        · simp [closeClock, setView, hv]
        · rfl
      · dsimp only
        split
        · rfl
        · split
          · split
            · exact leavePending_closeClock j s
            · exact setCloseRow_closeClock _ _ s
          · rfl

theorem examineRows_closeClock (s : State) : closeClock (examineRows s) = closeClock s := by
  unfold examineRows
  generalize (List.range 63).map (· + 1) = l
  induction l generalizing s with
  | nil => rfl
  | cons j l ih => exact (ih _).trans (examineRow_closeClock j s)

/-- Completion stops the deadline, or leaves it (R110). -/
theorem examineCompletion_closeClock (s : State) :
    closeClock (examineCompletion s) = closeClock s ∨ closeClock (examineCompletion s) = some (true, none) := by
  unfold examineCompletion
  split
  · split
    · exact .inr rfl
    · exact .inl rfl
  · exact .inl rfl

/-- A close taken up again has its full deadline, or completes at once (R112). -/
theorem resumeClose_closeClock (h : s.positions.gen.closing = true) :
    closeClock (resumeClose s) = some (false, fullDeadline s) ∨ closeClock (resumeClose s) = some (true, none) := by
  unfold resumeClose
  rw [if_pos h]
  refine (examineCompletion_closeClock _).imp_left fun hc => ?_
  rw [hc, examineRows_closeClock]
  rfl

theorem resumeClose_of_not (h : s.positions.gen.closing = false) : resumeClose s = s :=
  if_neg (by rw [h]; exact Bool.false_ne_true)

/-- A close under way stays so while it is taken up again, for completion's generation record waits for its frame (R110). -/
theorem resumeClose_onlyView (s : State) : OnlyView s (resumeClose s) := by
  unfold resumeClose
  split
  · have hv : OnlyView s (setView ⟨[], false, fullDeadline s, false⟩ s) := ⟨some ⟨[], false, fullDeadline s, false⟩, rfl⟩
    exact (hv.trans (examineRows_onlyView _)).trans (examineCompletion_onlyView _)
  · exact .refl s

/-! ### The lives of the OPEN holds (R43) -/

/-- The tag of an entry whose life a START sets: that of an OPEN hold (R43). -/
def liveTag (s : State) (g : Grant) : Option Nat := if grantOpen g && !grantFree (lastClosed s) g then grantTag g else none

/-- One entry's part of `resetLives`. -/
def setLife (s : State) (t : Tab Nat) (p : Nat × Grant) : Tab Nat :=
  match liveTag s p.2 with
  | some tag => tabPut t tag (holdLifeMs s)
  | none => t

theorem resetLives_lives (s : State) : (resetLives s).requests.lives = s.requests.grants.foldl (setLife s) [] := by
  unfold resetLives
  dsimp only
  congr 1
  funext t p
  unfold setLife liveTag
  cases grantTag p.2 with
  | none => simp
  | some tag => cases grantOpen p.2 && !grantFree (lastClosed s) p.2 <;> rfl

/-- A life once set stays, for every life set is the same. -/
theorem setLife_keeps {t : Tab Nat} {tag : Nat} (h : tabGet t tag = some (holdLifeMs s)) (p : Nat × Grant) :
    tabGet (setLife s t p) tag = some (holdLifeMs s) := by
  unfold setLife
  split
  · rw [tabGet_tabPut]
    split
    · rfl
    · exact h
  · exact h

theorem foldl_setLife_keeps {tag : Nat} (l : List (Nat × Grant)) {t : Tab Nat} (h : tabGet t tag = some (holdLifeMs s)) :
    tabGet (l.foldl (setLife s) t) tag = some (holdLifeMs s) := by
  induction l generalizing t with
  | nil => exact h
  | cons p l ih => exact ih (setLife_keeps h p)

theorem foldl_setLife_sets {tag : Nat} {p : Nat × Grant} (ht : liveTag s p.2 = some tag) {l : List (Nat × Grant)} (hp : p ∈ l)
    (t : Tab Nat) : tabGet (l.foldl (setLife s) t) tag = some (holdLifeMs s) := by
  induction l generalizing t with
  | nil => exact absurd hp List.not_mem_nil
  | cons q l ih =>
    rcases List.mem_cons.1 hp with rfl | hp
    · refine foldl_setLife_keeps l ?_
      rw [setLife, ht]
      exact tabGet_tabPut_self _ _ _
    · exact ih hp _

/-- Every OPEN hold has the full life (R43). -/
theorem resetLives_full {p : Nat × Grant} {tag : Nat} (hp : p ∈ s.requests.grants) (hopen : grantOpen p.2 = true)
    (hfree : grantFree (lastClosed s) p.2 = false) (ht : grantTag p.2 = some tag) :
    tabGet (resetLives s).requests.lives tag = some (holdLifeMs s) := by
  rw [resetLives_lives]
  exact foldl_setLife_sets (by simp [liveTag, hopen, hfree, ht]) hp []

end

end Sys2Proof.Machine
end

section
/-! START: its checks, and the state it takes the part to (R169, R170). -/
namespace Sys2Proof.Machine

section
variable {s : State} {a : StartArgs}

theorem exec_start (st ml fr ff ce hl cl : Nat) (s : State) :
    exec (.start st ml fr ff ce hl cl) s =
      checkedCommand s (startChecks ⟨st, ml, fr, ff, ce, hl, cl⟩ s)
        fun s => accepted [] (runStart ⟨st, ml, fr, ff, ce, hl, cl⟩ s) := rfl

theorem startRanges_iff : startRanges a = true ↔
    1 ≤ a.station ∧ a.station ≤ 63 ∧ 1 ≤ a.mall ∧ a.mall ≤ 65535 ∧ a.feeRate ≤ 1000 ∧ a.fixedFee ≤ 99 ∧ 100 ≤ a.ceiling ∧
      a.ceiling ≤ 9999999 := by
  have hmax : maxAmount = 9999999 := rfl
  simp only [startRanges, hmax, Bool.and_eq_true, decide_eq_true_eq, and_assoc]

/-- The identity record a START on a blank store makes (R170). -/
def newIdentity (a : StartArgs) : Identity := ⟨a.station, a.mall, 0, 0, 0⟩

theorem writeIdentity_of_some (h : s.ident.isSome = true) : writeIdentity a s = s := by
  obtain ⟨i, hi⟩ := Option.isSome_iff_exists.1 h
  rw [writeIdentity, hi]

theorem writeIdentity_of_none (h : s.ident = none) :
    writeIdentity a s = acceptFrame .identityWrite [.identity (newIdentity a)] [] .none { s with ident := some (newIdentity a) } := by
  rw [writeIdentity, h]
  rfl

/-- Making the identity record queues its frame (R170). -/
theorem writeIdentity_control (h : s.ident = none) (free : frameFree s = true) :
    (writeIdentity a s).control = withFrame .identityWrite [.identity (newIdentity a)] [] .none s := by
  rw [writeIdentity_of_none h, acceptFrame_eq (s := s)]
  · rfl
  · exact free
  · rfl

theorem writeIdentity_clerical (h : s.ident = none) (a : StartArgs) :
    Clerical { s with ident := some (newIdentity a) } (writeIdentity a s) := by
  rw [writeIdentity_of_none h]
  exact acceptFrame_clerical _ _ _ _ _

/-- What making the identity record leaves alone (R170). -/
theorem writeIdentity_rest (a : StartArgs) (s : State) :
    (writeIdentity a s).positions = s.positions ∧ (writeIdentity a s).journal = s.journal ∧
      (writeIdentity a s).notices = s.notices ∧ (writeIdentity a s).port = s.port ∧
      (writeIdentity a s).control.store = s.control.store ∧ lastClosed (writeIdentity a s) = lastClosed s := by
  cases h : s.ident with
  | some i => simp [writeIdentity_of_some (s := s) (a := a) (by rw [h]; rfl)]
  | none =>
    have plain : hasControl [.identity (newIdentity a)] = false := rfl
    simp [writeIdentity_of_none (a := a) h, lastClosed, acceptFrame_journal _ _ _ _ _ plain]

/-! ### The states START goes through (R170) -/

/-- The part trades with the configuration taken, its identity record made. -/
def startedOn (a : StartArgs) (s : State) : State :=
  { writeIdentity a s with station := .trading, conf := some (startConf a) }

/-- The PRESENCE, the frames owed and the kept requests are offered. -/
def startOffered (a : StartArgs) (s : State) : State :=
  offerKept s.link.owed (placeOwed s.link.owed (offerPresence (startedOn a s)))

theorem runStart_eq (a : StartArgs) (s : State) :
    runStart a s = examineBegin (resumeClose (resetLives (startOffered a s))) := rfl

theorem startOffered_onlyOffers (a : StartArgs) (s : State) : OnlyOffers (startedOn a s) (startOffered a s) :=
  ((offerPresence_onlyOffers _).trans (placeOwed_onlyOffers _ _)).trans (offerKept_onlyOffers _ _)

theorem startOffered_clerical (a : StartArgs) (s : State) : Clerical (offerPresence (startedOn a s)) (startOffered a s) :=
  (placeOwed_clerical _ _).trans (offerKept_clerical _ _)

theorem runStart_clerical (a : StartArgs) (s : State) : Clerical (resetLives (startOffered a s)) (runStart a s) :=
  (resumeClose_clerical _).trans (examineBegin_clerical _)

theorem startOffered_positions (a : StartArgs) (s : State) : (startOffered a s).positions = s.positions :=
  (startOffered_onlyOffers a s).positions.trans (writeIdentity_frame a s).2.2.2.2.1

/-- With no close to take up and none that can begin, START ends with the lives (R112, R170). -/
theorem runStart_quiet (open_ : s.positions.gen.closing = false) (target : s.positions.target < openPeriod s) :
    runStart a s = resetLives (startOffered a s) := by
  have hp : (resetLives (startOffered a s)).positions = s.positions := startOffered_positions a s
  rw [runStart_eq, resumeClose_of_not (by rw [hp]; exact open_)]
  refine examineBegin_of_not ?_
  have : ¬ openPeriod (resetLives (startOffered a s)) ≤ (resetLives (startOffered a s)).positions.target := by
    rw [openPeriod, hp]
    exact Nat.not_le.2 target
  simp [canBegin, this]

/-- The queue being empty, the first frame placed is the PRESENCE (R170). -/
theorem startedOn_presence (empty : s.link.tx = []) :
    offerPresence (startedOn a s) = { startedOn a s with link := { s.link with
      presenceTimer := presencePeriod, tx := [presenceFrame (startedOn a s) 0] } } := by
  have hl : (startedOn a s).link = s.link := (writeIdentity_frame a s).2.2.2.2.2.1
  have room : txRoom (startedOn a s) = true := by rw [txRoom, hl, empty]; rfl
  unfold offerPresence
  rw [if_pos (show (startedOn a s).station = .trading from rfl), hl, empty]
  simp [room, txPush, empty]

/-- With nothing owed and one entry kept, the offers are the PRESENCE and, if the entry is SENT, its request (R87, R170). -/
theorem startOffered_single {tp : Nat} {tr : Track} (empty : s.link.tx = []) (owed : s.link.owed = [])
    (entry : s.tracker.entries = [(tp, tr)]) (kept : trackFree (lastClosed s) tr = false) :
    (tr.data.state = .sent →
      (startOffered a s).tracker.entries = [(tp, { tr with attempts := tr.attempts + 1, timer := none })] ∧
        (startOffered a s).link.tx = [presenceFrame (startedOn a s) 0, requestFrame tr]) ∧
    (tr.data.state ≠ .sent →
      (startOffered a s).tracker = s.tracker ∧ (startOffered a s).link.tx = [presenceFrame (startedOn a s) 0]) := by
  have htr : (startedOn a s).tracker = s.tracker := (writeIdentity_frame a s).2.2.2.1
  have hlast : lastClosed (placeOwed [] (offerPresence (startedOn a s))) = lastClosed s := by
    rw [(placeOwed_clerical _ _).lastClosed, (offerPresence_clerical _).lastClosed]
    exact (writeIdentity_rest a s).2.2.2.2.2
  have hentries : (placeOwed [] (offerPresence (startedOn a s))).tracker = s.tracker := by
    rw [startedOn_presence empty]
    exact htr
  have htx : (placeOwed [] (offerPresence (startedOn a s))).link.tx = [presenceFrame (startedOn a s) 0] := by
    rw [startedOn_presence empty]
    rfl
  unfold startOffered
  rw [owed]
  generalize placeOwed [] (offerPresence (startedOn a s)) = u at hlast hentries htx
  have hkept : offerKept [] u = if tr.data.state = .sent then offerRequest tp tr u else u := by
    unfold offerKept
    rw [hentries, entry]
    simp [hlast, kept, requestOwed]
  have room : txRoom u = true := by rw [txRoom, htx]; rfl
  rw [hkept]
  refine ⟨fun sent => ?_, fun other => ?_⟩
  · rw [if_pos sent, offerRequest, if_pos room]
    exact ⟨by simp [putTrack, txPush, hentries, entry, tabPut, sent], by simp [putTrack, txPush, htx]⟩
  · rw [if_neg other]
    exact ⟨hentries, htx⟩

end

section
variable {s : State} {a : StartArgs}

theorem startChecks_none (idle : s.station = .idle) (ranges : startRanges a = true)
    (ident : (s.ident.all fun k => k.station = a.station && k.mall = a.mall) = true)
    (ceilings : s.ident = none ∨ (s.custody.cards.all fun p => p.2.available + p.2.held ≤ a.ceiling) = true) :
    firstFail (startChecks a s) = none := by
  refine firstFail_of_pass (decide_eq_true idle) (firstFail_of_pass ranges (firstFail_of_pass ident (firstFail_of_pass ?_ rfl)))
  rw [Bool.or_eq_true, Option.isNone_iff_eq_none]
  refine ceilings.imp_right fun h => ?_
  simp only [List.all_eq_true, decide_eq_true_eq] at h
  simp only [tabAny, Bool.not_eq_true', List.any_eq_false, decide_eq_true_eq]
  exact fun p hp => Nat.not_lt.2 (h p hp)

/-- The first refusals of START: an argument out of range, another identity, a ceiling below a record (R169). -/
theorem startChecks_ranges (idle : s.station = .idle) (h : startRanges a = false) :
    firstFail (startChecks a s) = some .badArgument :=
  firstFail_of_pass (decide_eq_true idle) (firstFail_of_fail h)

theorem startChecks_identity {i : Identity} (idle : s.station = .idle) (ranges : startRanges a = true) (hi : s.ident = some i)
    (h : i.station ≠ a.station ∨ i.mall ≠ a.mall) : firstFail (startChecks a s) = some .identity := by
  refine firstFail_of_pass (decide_eq_true idle) (firstFail_of_pass ranges (firstFail_of_fail ?_))
  rw [hi, Option.all_some, Bool.and_eq_false_iff, decide_eq_false_iff_not, decide_eq_false_iff_not]
  exact h

theorem startChecks_ceiling {i : Identity} (idle : s.station = .idle) (ranges : startRanges a = true) (hi : s.ident = some i)
    (hs : i.station = a.station) (hm : i.mall = a.mall)
    (h : (s.custody.cards.any fun p => a.ceiling < p.2.available + p.2.held) = true) :
    firstFail (startChecks a s) = some .badArgument := by
  refine firstFail_of_pass (decide_eq_true idle) (firstFail_of_pass ranges (firstFail_of_pass ?_ (firstFail_of_fail ?_)))
  · rw [hi, Option.all_some, hs, hm]
    simp
  · rw [hi, tabAny, h]
    rfl

/-! ### What a START that passes leaves (R170) -/

theorem runStart_ident (a : StartArgs) (s : State) : (runStart a s).ident = (writeIdentity a s).ident :=
  (runStart_clerical a s).ident.trans ((startOffered_clerical a s).ident.trans (offerPresence_clerical _).ident)

theorem runStart_custody (a : StartArgs) (s : State) : (runStart a s).custody = s.custody :=
  (runStart_clerical a s).custody.trans ((startOffered_clerical a s).custody.trans
    ((offerPresence_clerical _).custody.trans (writeIdentity_frame a s).1))

theorem startOffered_requests (a : StartArgs) (s : State) : (startOffered a s).requests = s.requests :=
  (startOffered_clerical a s).requests.trans ((offerPresence_clerical _).requests.trans (writeIdentity_frame a s).2.1)

theorem startOffered_conf (a : StartArgs) (s : State) : (startOffered a s).conf = some (startConf a) :=
  (startOffered_clerical a s).conf.trans (offerPresence_clerical _).conf

theorem runStart_slots (a : StartArgs) (s : State) : (runStart a s).slots = s.slots := by
  rw [runStart_eq, examineBegin_slots, resumeClose_slots]
  exact (startOffered_onlyOffers a s).slots.trans (writeIdentity_frame a s).2.2.2.2.2.2

theorem startOffered_control (a : StartArgs) (s : State) : (startOffered a s).control = (writeIdentity a s).control :=
  (startOffered_onlyOffers a s).control

theorem runStart_store (a : StartArgs) (s : State) : (runStart a s).control.store = s.control.store := by
  refine (runStart_clerical a s).store.trans ?_
  show (startOffered a s).control.store = _
  rw [startOffered_control]
  exact (writeIdentity_rest a s).2.2.2.2.1

theorem runStart_port (a : StartArgs) (s : State) : (runStart a s).port = s.port :=
  (runStart_clerical a s).port.trans ((startOffered_clerical a s).port.trans
    ((offerPresence_clerical _).port.trans (writeIdentity_rest a s).2.2.2.1))

theorem startOffered_lastClosed (a : StartArgs) (s : State) : lastClosed (startOffered a s) = lastClosed s := by
  rw [lastClosed, startOffered_positions]
  rfl

/-- Every OPEN hold has the full life (R43). -/
theorem runStart_lives {p : Nat × Grant} {tag : Nat} (hp : p ∈ s.requests.grants) (hopen : grantOpen p.2 = true)
    (hfree : grantFree (lastClosed s) p.2 = false) (ht : grantTag p.2 = some tag) :
    tabGet (runStart a s).requests.lives tag = some (clamp 30 600 a.holdLife * 1000) := by
  rw [(runStart_clerical a s).requests, resetLives_full (s := startOffered a s) (by rw [startOffered_requests]; exact hp) hopen
    (by rw [startOffered_lastClosed]; exact hfree) ht, holdLifeMs, startOffered_conf]
  rfl

/-- A closing generation is taken up with its full deadline, unless it completes at once (R112). -/
theorem runStart_closeClock (closing : s.positions.gen.closing = true) :
    closeClock (runStart a s) = some (false, some (clamp 60 3600 a.closeLimit * 1000)) ∨
      closeClock (runStart a s) = some (true, none) := by
  have hp : (resetLives (startOffered a s)).positions.gen.closing = true :=
    (congrArg (·.gen.closing) (startOffered_positions a s)).trans closing
  have stays : (resumeClose (resetLives (startOffered a s))).positions.gen.closing = true := by
    rw [(resumeClose_onlyView _).gen, hp]
  have deadline : fullDeadline (resetLives (startOffered a s)) = some (clamp 60 3600 a.closeLimit * 1000) := by
    rw [fullDeadline]
    exact congrArg (Option.map _) (startOffered_conf a s)
  rw [runStart_eq, examineBegin_of_not (canBegin_of_closing stays), ← deadline]
  exact resumeClose_closeClock hp

theorem runStart_tx (empty : s.link.tx = []) : [presenceFrame (startedOn a s) 0] <+: (runStart a s).link.tx := by
  have h := (startOffered_clerical a s).tx
  rw [startedOn_presence empty] at h
  exact h.trans (runStart_clerical a s).tx

/-- On a blank store the identity record's frame is queued before any other of START (R170). -/
theorem runStart_queues (blank : s.ident = none) (free : frameFree s = true) :
    (withFrame .identityWrite [.identity (newIdentity a)] [] .none s).queue <+: (runStart a s).control.queue ∧
      (withFrame .identityWrite [.identity (newIdentity a)] [] .none s).frames <+: (runStart a s).control.frames := by
  have hc : (resetLives (startOffered a s)).control = withFrame .identityWrite [.identity (newIdentity a)] [] .none s :=
    (startOffered_control a s).trans (writeIdentity_control blank free)
  rw [← hc]
  exact ⟨(runStart_clerical a s).queue, (runStart_clerical a s).frames⟩

theorem clamp_eq {lo hi : Nat} (h : lo ≤ hi) (v : Nat) : clamp lo hi v = max lo (min hi v) := by
  unfold clamp
  split
  · omega
  · split <;> omega

end

end Sys2Proof.Machine

namespace Sys2Proof
open Sys2Proof.Machine

/-- Settles O25: the checks one by one, and each step's own work for the rest. -/
theorem startIsCheckedAndTaken : Obligations.StartIsCheckedAndTaken := by
  refine ⟨fun s st ml fr ff ce hl cl idle st1 st63 ml1 ml6 fr1 ff9 ce1 ce9 ident ceilings empty => ?_,
    fun s st ml fr ff ce hl cl idle => ?_⟩
  · have checks : firstFail (startChecks ⟨st, ml, fr, ff, ce, hl, cl⟩ s) = none :=
      startChecks_none idle (startRanges_iff.2 ⟨st1, st63, ml1, ml6, fr1, ff9, ce1, ce9⟩) ident ceilings
    have hheld : s.station ≠ .held := by rw [idle]; decide
    rw [exec_start, checkedCommand_run _ hheld checks]
    generalize ha : (⟨st, ml, fr, ff, ce, hl, cl⟩ : StartArgs) = a
    have hlife : clamp 30 600 a.holdLife = max 30 (min 600 hl) := by rw [← ha, clamp_eq (by decide)]
    have hlimit : clamp 60 3600 a.closeLimit = max 60 (min 3600 cl) := by rw [← ha, clamp_eq (by decide)]
    have hnew : newIdentity a = ⟨st, ml, 0, 0, 0⟩ := by rw [← ha]; rfl
    obtain ⟨more, htx⟩ := runStart_tx (a := a) empty
    rw [← hlife, ← hlimit, ← hnew]
    refine ⟨_, rfl, ?_, ?_, ?_, ?_, ?_, ?_, ?_, ?_, ?_, ?_, ?_, ?_, ?_, ?_, ?_⟩
    · exact (runStart_clerical a s).station.trans ((startOffered_clerical a s).station.trans (offerPresence_clerical _).station)
    · refine (runStart_clerical a s).conf.trans ((startOffered_conf a s).trans ?_)
      rw [← ha]
      rfl
    · exact fun hi => (runStart_ident a s).trans (by rw [writeIdentity_of_some hi])
    · exact fun hi => (runStart_ident a s).trans (writeIdentity_clerical hi a).ident
    · exact runStart_custody a s
    · refine (congrArg Requests.grants (runStart_clerical a s).requests).trans ?_
      exact (congrArg Requests.grants (startOffered_requests a s) :)
    · exact runStart_slots a s
    · exact runStart_store a s
    · rw [show (accepted [] (runStart a s)).link.tx = _ from htx.symm]
      rfl
    · exact fun p hp hopen hfree tag ht => runStart_lives hp hopen hfree ht
    · exact fun closing => runStart_closeClock closing
    · intro open_ target
      have quiet := runStart_quiet (a := a) open_ target
      have offers := startOffered_onlyOffers a s
      have rest := writeIdentity_rest a s
      rw [quiet]
      exact ⟨startOffered_positions a s, offers.journal.trans rest.2.1, offers.notices.trans rest.2.2.1,
        fun hi => (startOffered_control a s).trans (by rw [writeIdentity_of_some hi]),
        fun hi free => (startOffered_control a s).trans (writeIdentity_control hi free)⟩
    · intro blank free
      obtain ⟨⟨q, hq⟩, f, hf⟩ := runStart_queues (a := a) blank free
      exact ⟨⟨q, hq.symm⟩, f, hf.symm⟩
    · intro tp tr owed entry open_ target hi kept
      obtain ⟨sent, other⟩ := startOffered_single (a := a) empty owed entry kept
      rw [runStart_quiet (a := a) open_ target]
      refine ⟨fun hs => ?_, fun hd => ?_⟩
      · obtain ⟨hentries, htx⟩ := sent hs
        exact ⟨hentries, congrArg List.tail htx⟩
      · obtain ⟨htr, htx⟩ := other (by rw [hd]; decide)
        exact ⟨htr, congrArg List.tail htx⟩
    · rw [accepted_eq]
      simp only [acceptedPort, runStart_port]
  · have hheld : s.station ≠ .held := by rw [idle]; decide
    have refused (p : PortStatus) (h : firstFail (startChecks ⟨st, ml, fr, ff, ce, hl, cl⟩ s) = some p) :
        exec (.start st ml fr ff ce hl cl) s = refusedWith (statusCode p) s :=
      (exec_start _ _ _ _ _ _ _ s).trans (checkedCommand_refusedWith hheld h)
    refine ⟨fun h => refused .badArgument (startChecks_ranges idle ?_), fun st1 st63 ml1 ml6 fr1 ff9 ce1 ce9 i hi => ?_⟩
    · rw [← Bool.not_eq_true, startRanges_iff]
      dsimp only
      omega
    · have ranges : startRanges ⟨st, ml, fr, ff, ce, hl, cl⟩ = true :=
        startRanges_iff.2 ⟨st1, st63, ml1, ml6, fr1, ff9, ce1, ce9⟩
      exact ⟨fun h => refused .identity (startChecks_identity idle ranges hi h),
        fun hs hm h => refused .badArgument (startChecks_ceiling idle ranges hi hs hm h)⟩

end Sys2Proof
end

section
/-! The scan of the journal: from the block it starts at to the first erased slot on the ring (R130, R142). -/
namespace Sys2Proof.Machine

section
variable {st : Store} {blocks : List Block} {b0 n k : Nat}

/-! ### The write point -/

/-- The blocks passed on the way to the block `n` on from `b0`, the last first. -/
def blocksPassed (blocks : List Block) (b0 : Nat) : Nat → List Nat
  | 0 => []
  | n + 1 => (nextBlock blocks)^[n] b0 :: blocksPassed blocks b0 n

theorem mem_blocksPassed {i : Nat} : i ∈ blocksPassed blocks b0 n ↔ ∃ m < n, (nextBlock blocks)^[m] b0 = i := by
  induction n with
  | zero => simp [blocksPassed]
  | succ n ih =>
    rw [blocksPassed, List.mem_cons, ih]
    constructor
    · rintro (rfl | ⟨m, hm, h⟩)
      · exact ⟨n, Nat.lt_succ_self n, rfl⟩
      · exact ⟨m, Nat.lt_succ_of_lt hm, h⟩
    · rintro ⟨m, hm, h⟩
      rcases Nat.lt_succ_iff_lt_or_eq.1 hm with hm | rfl
      · exact .inr ⟨m, hm, h⟩
      · exact .inl h.symm

theorem blocksPassed_isEmpty : (blocksPassed blocks b0 n).isEmpty = true ↔ n = 0 := by
  cases n <;> simp [blocksPassed]

/-- What `firstErased` says: the slot is on the ring and erased, those before it are taken. -/
theorem firstErased_iff : firstErased st blocks b0 n k = true ↔
    n < 32 ∧ k < 512 ∧ slotTaken st ((nextBlock blocks)^[n] b0) k = false ∧
      (∀ m < n, ∀ q < 512, slotTaken st ((nextBlock blocks)^[m] b0) q = true) ∧
      ∀ q < k, slotTaken st ((nextBlock blocks)^[n] b0) q = true := by
  simp only [firstErased, Bool.and_eq_true, decide_eq_true_eq, Bool.not_eq_true', List.all_eq_true, List.mem_range, and_assoc]

/-- The scan stops at an erased slot. -/
theorem scanFrom_erased {fuel b q : Nat} {passed : List Nat} (h : slotTaken st b q = false) :
    scanFrom st blocks fuel b q passed = ((b, q), passed) := by
  cases fuel with
  | zero => rfl
  | succ fuel =>
    have erased : (tabGet st.journal (slotPlace b q)).isNone = true := by
      have hs : (tabGet st.journal (slotPlace b q)).isSome = false := h
      rwa [← Option.not_isSome, Bool.not_eq_true']
    rw [scanFrom, if_pos erased]

/-- The scan goes past the slots of a block that are taken. -/
theorem scanFrom_slots {fuel b q : Nat} {passed : List Nat} (d : Nat) (h : ∀ r < d, slotTaken st b (q + r) = true)
    (hq : q + d < 512) : scanFrom st blocks (fuel + d) b q passed = scanFrom st blocks fuel b (q + d) passed := by
  induction d generalizing q with
  | zero => rfl
  | succ d ih =>
    have taken : ¬ (tabGet st.journal (slotPlace b q)).isNone = true := by
      have h0 : (tabGet st.journal (slotPlace b q)).isSome = true := h 0 (Nat.succ_pos d)
      simp [Option.isSome_iff_ne_none.1 h0]
    have inside : q + 1 < blockSlots := by
      show q + 1 < 512
      omega
    rw [Nat.add_succ fuel d, scanFrom, if_neg taken, if_pos inside, ih (fun r hr => ?_) (by omega)]
    · congr 1
      omega
    · rw [Nat.add_right_comm]
      exact h (r + 1) (Nat.succ_lt_succ hr)

/-- The scan goes past a block whose slots are all taken. -/
theorem scanFrom_block {fuel b : Nat} {passed : List Nat} (h : ∀ q < 512, slotTaken st b q = true) :
    scanFrom st blocks (fuel + 512) b 0 passed = scanFrom st blocks fuel (nextBlock blocks b) 0 (b :: passed) := by
  have taken : ¬ (tabGet st.journal (slotPlace b 511)).isNone = true := by
    have h0 : (tabGet st.journal (slotPlace b 511)).isSome = true := h 511 (by decide)
    simp [Option.isSome_iff_ne_none.1 h0]
  rw [show fuel + 512 = (fuel + 1) + 511 by rfl, scanFrom_slots 511 (fun r hr => h _ (by omega)) (by decide), Nat.zero_add,
    scanFrom, if_neg taken, if_neg (by decide)]

/-- The scan goes past `n` blocks whose slots are all taken. -/
theorem scanFrom_blocks {fuel : Nat} (n : Nat) (h : ∀ m < n, ∀ q < 512, slotTaken st ((nextBlock blocks)^[m] b0) q = true) :
    scanFrom st blocks (fuel + 512 * n) b0 0 [] =
      scanFrom st blocks fuel ((nextBlock blocks)^[n] b0) 0 (blocksPassed blocks b0 n) := by
  induction n generalizing fuel with
  | zero => rfl
  | succ n ih =>
    rw [show fuel + 512 * (n + 1) = (fuel + 512) + 512 * n by omega, ih fun m hm => h m (Nat.lt_succ_of_lt hm),
      scanFrom_block (h n (Nat.lt_succ_self n)), Function.iterate_succ_apply']
    rfl

/-- The scan finds the first erased slot (R142). -/
theorem scanFrom_eq (h : firstErased st blocks b0 n k = true) :
    scanFrom st blocks (blockCount * blockSlots) b0 0 [] = (((nextBlock blocks)^[n] b0, k), blocksPassed blocks b0 n) := by
  obtain ⟨hn, hk, erased, before, slots⟩ := firstErased_iff.1 h
  have fuel : blockCount * blockSlots = (16384 - 512 * n - k + k) + 512 * n := by
    show 16384 = _
    omega
  rw [fuel, scanFrom_blocks n before, scanFrom_slots k (fun r hr => by rw [Nat.zero_add]; exact slots r hr) (by omega),
    Nat.zero_add, scanFrom_erased erased]

/-! ### The block states -/

theorem scannedState_eq (i : Nat) (was : BlockState) :
    scannedState st ((nextBlock blocks)^[n] b0) k (blocksPassed blocks b0 n) i was = stateFound st blocks b0 n k i was := by
  have passed : (blocksPassed blocks b0 n).contains i = (List.range n).any fun m => (nextBlock blocks)^[m] b0 = i := by
    rw [Bool.eq_iff_iff, List.contains_iff_mem, mem_blocksPassed]
    simp
  have untouched : (!blockTouched st i) = st.journal.all fun p => p.1 / 512 ≠ i := by
    rw [Bool.eq_iff_iff]
    simp only [blockTouched, inBlock, Bool.not_eq_true', List.any_eq_false, List.all_eq_true, decide_eq_true_eq]
    exact Iff.rfl
  have entered : (k = 0 ∧ (blocksPassed blocks b0 n).isEmpty = true) ↔ (n = 0 ∧ k = 0) := by
    rw [blocksPassed_isEmpty, and_comm]
  unfold stateFound scannedState
  simp only [passed, untouched, entered]
  cases was with
  | bad => rfl
  | erasing => rfl
  | erased => simp
  | inUse => simp
  | full => simp

/-- The scan finds a state BAD exactly in the blocks recorded so (R133). -/
theorem scannedState_bad_iff {b q i : Nat} {passed : List Nat} {was : BlockState} :
    scannedState st b q passed i was = .bad ↔ was = .bad := by
  unfold scannedState
  cases was with
  | bad => simp
  | erasing => simp
  | erased => dsimp only; split_ifs <;> simp
  | inUse => dsimp only; split_ifs <;> simp
  | full => dsimp only; split_ifs <;> simp

theorem usableBlocks_scanned {b q : Nat} {passed : List Nat} :
    usableBlocks (scannedBlocks st b q passed blocks) = usableBlocks blocks := by
  unfold usableBlocks scannedBlocks
  rw [List.mapIdx_eq_zipIdx_map, List.countP_map]
  calc (blocks.zipIdx).countP _ = (blocks.zipIdx).countP ((fun b => decide (b.state ≠ .bad)) ∘ Prod.fst) := by
        congr 1
        funext p
        simp [scannedState_bad_iff]
    _ = blocks.countP _ := by rw [← List.countP_map, List.zipIdx_map_fst]

/-- A block is BAD after the scan exactly when it was before (R133). -/
theorem blockStateOf_scanned_bad {b q i : Nat} {passed : List Nat} :
    blockStateOf (scannedBlocks st b q passed blocks) i = .bad ↔ blockStateOf blocks i = .bad := by
  unfold blockStateOf scannedBlocks
  rw [List.getElem?_mapIdx]
  cases blocks[i]? with
  | none => simp
  | some x => simp [scannedState_bad_iff]

/-! ### The block the scan starts at (R142) -/

/-- The block the scan starts at, as `scanFinds` says it. -/
def startsAt (blocks : List Block) (b0 : Nat) : Prop :=
  ((List.range 32).find? fun i => blockStateOf blocks i = .inUse) = some b0 ∨
    (((List.range 32).all fun i => blockStateOf blocks i ≠ .inUse) = true ∧
      b0 = if blockStateOf blocks 0 = .bad then nextBlock blocks 0 else 0)

theorem scanStart_eq (h : startsAt blocks b0) : scanStart blocks = b0 := by
  have hcount : blockCount = 32 := rfl
  unfold scanStart
  rw [hcount]
  rcases h with h | ⟨h, rfl⟩
  · have hu : blockStateOf blocks b0 = .inUse := by simpa using List.find?_some h
    simp [h, hu]
  · have hnone : ((List.range 32).find? fun i => blockStateOf blocks i = .inUse) = none := by
      simpa [List.find?_eq_none, List.all_eq_true] using h
    rw [hnone]
    rfl

end

section
variable {s : State}

/-- The journal as the scan leaves it: write point and block states found, the rest as it was (R142). -/
theorem scanJournal_finds {b0 n k : Nat} (hb : startsAt s.journal.blocks b0)
    (h : firstErased s.control.store s.journal.blocks b0 n k = true) :
    (scanJournal s).journal = { s.journal with
      wpBlock := (nextBlock s.journal.blocks)^[n] b0
      wpSlot := k
      blocks := s.journal.blocks.mapIdx fun i bk =>
        { bk with state := stateFound s.control.store s.journal.blocks b0 n k i bk.state } } := by
  unfold scanJournal
  dsimp only
  rw [scanStart_eq hb, scanFrom_eq h]
  simp only [scannedBlocks, scannedState_eq]

/-- A state whose journal is the scanned one has the scan's findings. -/
theorem scanFinds_of {u t : State} (h : t.journal = (scanJournal u).journal) : scanFinds u t :=
  fun _ _ _ hb hk => h.trans (scanJournal_finds hb hk)

end

end Sys2Proof.Machine
end

section
/-! Recovery completes the stored frames: the programs queued, and what of the journal's bookkeeping moves (R142, R172, R173). -/
namespace Sys2Proof.Machine

section
variable {s t u : State}

/-! ### Programs join the queue -/

/-- Programs join the tail of the queue, and nothing else. -/
def queuePrograms (ps : List Program) (s : State) : State :=
  { s with control := { s.control with queue := s.control.queue ++ ps } }

theorem queuePrograms_nil (s : State) : queuePrograms [] s = s := by
  unfold queuePrograms
  rw [List.append_nil]

theorem queuePrograms_append (ps qs : List Program) (s : State) :
    queuePrograms qs (queuePrograms ps s) = queuePrograms (ps ++ qs) s := by
  simp [queuePrograms, List.append_assoc]

theorem queueProgram_eq (p : Program) (s : State) : queueProgram p s = queuePrograms [p] s := rfl

/-- Work that queues programs for each element of a list. -/
theorem foldl_queuePrograms {α : Type} {f : State → α → State} {g : α → List Program} (l : List α)
    (h : ∀ a ∈ l, ∀ t, f t a = queuePrograms (g a) t) (s : State) : l.foldl f s = queuePrograms (l.flatMap g) s := by
  induction l generalizing s with
  | nil => exact (queuePrograms_nil s).symm
  | cons a l ih =>
    rw [List.foldl_cons, h a List.mem_cons_self, ih (fun b hb => h b (List.mem_cons_of_mem a hb)), queuePrograms_append]
    rfl

theorem clearTorn_eq (s : State) : clearTorn s = queuePrograms ((tornSlots s.control.store).map .clearFrame) s := by
  rw [List.map_eq_flatMap]
  exact foldl_queuePrograms _ (fun _ _ _ => rfl) s

theorem completeTarget_oneRecord {x : Target} (h : oneRecord x = true) (s : State) :
    completeTarget x s = queuePrograms [.target x] s := by
  cases x with
  | journal es => exact absurd h (by simp [oneRecord])
  | control c => exact absurd h (by simp [oneRecord])
  | _ => rfl

/-- The programs of a frame whose write-backs are single records (R159, R173). -/
def framePrograms (x : Nat × Frame) : List Program :=
  ((x.2.writeBacks.filter (·.valid)).map fun w => .target w.target) ++ [.done x.1]

theorem completeFrame_oneRecord {x : Nat × Frame} (h : ∀ w ∈ x.2.writeBacks, oneRecord w.target = true) (s : State) :
    completeFrame x s = queuePrograms (framePrograms x) s := by
  have each : ∀ w ∈ x.2.writeBacks.filter (·.valid), ∀ t, completeTarget w.target t = queuePrograms [.target w.target] t :=
    fun w hw t => completeTarget_oneRecord (h w (List.mem_of_mem_filter hw)) t
  unfold completeFrame
  rw [foldl_queuePrograms _ each, queueProgram_eq, queuePrograms_append, framePrograms, List.map_eq_flatMap]

theorem mem_insertFrame {x y : Nat × Frame} {l : List (Nat × Frame)} : y ∈ insertFrame x l ↔ y = x ∨ y ∈ l := by
  induction l with
  | nil => simp [insertFrame]
  | cons z l ih =>
    unfold insertFrame
    split
    · exact List.mem_cons
    · rw [List.mem_cons, ih, List.mem_cons]
      tauto

theorem mem_inOrder {y : Nat × Frame} {l : List (Nat × Frame)} : y ∈ inOrder l ↔ y ∈ l := by
  induction l with
  | nil => rfl
  | cons x l ih =>
    show y ∈ insertFrame x (inOrder l) ↔ _
    rw [mem_insertFrame, ih, List.mem_cons]

theorem storedTargets_iff {p : Target → Bool} {st : Store} :
    storedTargets p st = true ↔ ∀ x ∈ storedFrames st, ∀ w ∈ x.2.writeBacks, p w.target = true := by
  simp only [storedTargets, List.all_eq_true]

/-! ### What completing changes -/

/-- Of `s` only the program queue and the journal's blocks, write point and control-record count differ. -/
structure Completes (s t : State) : Prop where
  rest : { t with journal := s.journal, control := s.control } = s
  control : t.control = { s.control with queue := t.control.queue }
  journal : t.journal = { s.journal with
    blocks := t.journal.blocks, wpBlock := t.journal.wpBlock, wpSlot := t.journal.wpSlot, writes := t.journal.writes,
    lastB := t.journal.lastB }

theorem Completes.refl (s : State) : Completes s s := ⟨rfl, rfl, rfl⟩

theorem Completes.trans (h : Completes s t) (k : Completes t u) : Completes s u where
  rest := by
    have hr := h.rest
    rw [← k.rest] at hr
    exact hr
  control := by
    have hc := k.control
    rw [h.control] at hc
    exact hc
  journal := by
    have hj := k.journal
    rw [h.journal] at hj
    exact hj

/-- The scan's findings stay: of the journal only the control record's count and copy differ. -/
def KeepsScan (s t : State) : Prop :=
  t.journal = { s.journal with writes := t.journal.writes, lastB := t.journal.lastB }

theorem KeepsScan.refl (s : State) : KeepsScan s s := rfl

theorem KeepsScan.trans (h : KeepsScan s t) (k : KeepsScan t u) : KeepsScan s u := by
  unfold KeepsScan at *
  rw [h] at k
  exact k

theorem queuePrograms_completes (ps : List Program) (s : State) : Completes s (queuePrograms ps s) := ⟨rfl, rfl, rfl⟩

theorem completeEntry_completes (e : JournalEntry) (s : State) : Completes s (completeEntry e s) := by
  unfold completeEntry
  split
  · exact .refl s
  · have moved : Completes s { s with journal := advance s.journal } := by
      refine ⟨rfl, rfl, ?_⟩
      unfold advance
      dsimp only
      split <;> rfl
    exact moved.trans (queuePrograms_completes [.entry (writePoint s.journal) e] _)

/-- What each step of a fold changes within bounds, the fold does. -/
theorem foldl_completes {α : Type} {f : State → α → State} (h : ∀ a t, Completes t (f t a)) (l : List α) (s : State) :
    Completes s (l.foldl f s) := by
  induction l generalizing s with
  | nil => exact .refl s
  | cons a l ih => exact (h a s).trans (ih _)

theorem completeTarget_completes (x : Target) (s : State) : Completes s (completeTarget x s) := by
  unfold completeTarget
  split
  · exact foldl_completes (fun e t => completeEntry_completes e t) _ s
  · exact ⟨rfl, rfl, rfl⟩
  · exact queuePrograms_completes _ s

theorem completeFrame_completes (x : Nat × Frame) (s : State) : Completes s (completeFrame x s) :=
  (foldl_completes (fun (w : WriteBack) t => completeTarget_completes w.target t) _ s).trans (queuePrograms_completes _ _)

theorem completeTarget_keepsScan {x : Target} (h : noRun x = true) (s : State) : KeepsScan s (completeTarget x s) := by
  cases x with
  | journal es => exact absurd h (by simp [noRun])
  | _ => rfl

/-- What each step of a fold keeps, the fold keeps. -/
theorem foldl_keepsScan {α : Type} {f : State → α → State} (l : List α) (h : ∀ a ∈ l, ∀ t, KeepsScan t (f t a)) (s : State) :
    KeepsScan s (l.foldl f s) := by
  induction l generalizing s with
  | nil => exact .refl s
  | cons a l ih => exact (h a List.mem_cons_self s).trans (ih (fun b hb => h b (List.mem_cons_of_mem a hb)) _)

theorem completeFrame_keepsScan {x : Nat × Frame} (h : ∀ w ∈ x.2.writeBacks, noRun w.target = true) (s : State) :
    KeepsScan s (completeFrame x s) :=
  KeepsScan.trans (foldl_keepsScan _ (fun w hw t => completeTarget_keepsScan (h w (List.mem_of_mem_filter hw)) t) s) rfl

end

end Sys2Proof.Machine
end

section
/-! Recovery goes on once no block is to be erased: scan, faults, and the programs that complete the stored frames (R172, R173). -/
namespace Sys2Proof.Machine

section
variable {u t : State} {rcv : Recovery}

/-- The state once the journal has been scanned, from one whose control record has been read. -/
def journalScanned (u : State) : State := scanJournal { u with recovery := u.recovery.map fun r => { r with phase := .completing } }

/-- Of `u` only the journal, the program queue and the recovery differ. -/
structure Recovers (u t : State) : Prop where
  rest : { t with journal := u.journal, control := u.control, recovery := u.recovery } = u
  control : t.control = { u.control with queue := t.control.queue }

theorem journalScanned_recovers (u : State) : Recovers u (journalScanned u) := ⟨rfl, rfl⟩

theorem Recovers.completes {v : State} (h : Recovers u t) (k : Completes t v) : Recovers u v where
  rest := by
    have hr := h.rest
    rw [← k.rest] at hr
    exact hr
  control := by
    have hc := k.control
    rw [h.control] at hc
    exact hc

/-- Two torn slots, or a STORED frame not known, are a fault of the frame area (R172). -/
theorem framesAtFault_of {st : Store} (h : 1 < (st.frames.countP fun p => p.2 = .torn) ∨
    (st.frames.any fun p => match p.2 with
      | .unknown _ stored => stored
      | _ => false) = true) : framesAtFault st = true := by
  rw [framesAtFault, Bool.or_eq_true]
  refine h.imp (fun torn => ?_) fun unknown => ?_
  · rw [tornSlots, List.length_map, ← List.countP_eq_length_filter]
    exact decide_eq_true torn
  · obtain ⟨p, hp, hs⟩ := List.any_eq_true.1 unknown
    refine List.any_eq_true.2 ⟨p, hp, ?_⟩
    revert hs
    cases p.2 <;> simp [slotUnknown]

/-! ### The three ways on (R172) -/

theorem scanAndComplete_fault (h : framesAtFault u.control.store = true) :
    scanAndComplete u = recoveryStops .frameFormat (journalScanned u) := if_pos h

theorem scanAndComplete_worn (h : framesAtFault u.control.store = false) (few : usableBlocks u.journal.blocks < 4) :
    scanAndComplete u = recoveryWorn (clearTorn (journalScanned u)) :=
  (if_neg (by rw [Bool.not_eq_true]; exact h)).trans (if_pos (usableBlocks_scanned.trans_lt few))

theorem scanAndComplete_completes (h : framesAtFault u.control.store = false) (many : 4 ≤ usableBlocks u.journal.blocks) :
    scanAndComplete u = (inOrder (storedFrames u.control.store)).foldl (fun s x => completeFrame x s)
      (queuePrograms ((tornSlots u.control.store).map .clearFrame) (journalScanned u)) := by
  have hw : ¬ usableBlocks (journalScanned u).journal.blocks < minUsable := by
    rw [Nat.not_lt]
    exact many.trans (Nat.le_of_eq usableBlocks_scanned.symm)
  have hf : scanAndComplete u = (inOrder (storedFrames u.control.store)).foldl (fun s x => completeFrame x s)
      (clearTorn (journalScanned u)) := (if_neg (by rw [Bool.not_eq_true]; exact h)).trans (if_neg hw)
  rw [hf, clearTorn_eq]
  rfl

theorem scanAndComplete_recovers (u : State) : Recovers u (scanAndComplete u) := by
  cases hf : framesAtFault u.control.store with
  | true =>
    rw [scanAndComplete_fault hf]
    exact ⟨rfl, rfl⟩
  | false =>
    rcases Nat.lt_or_ge (usableBlocks u.journal.blocks) 4 with few | many
    · rw [scanAndComplete_worn hf few, clearTorn_eq]
      exact ⟨rfl, rfl⟩
    · rw [scanAndComplete_completes hf many]
      exact ((journalScanned_recovers u).completes (queuePrograms_completes _ _)).completes
        (foldl_completes (fun x t => completeFrame_completes x t) _ _)

/-- The journal is the scanned one as long as what completing does keeps a relation to it. -/
theorem scanAndComplete_journal {P : Journal → Prop} (he : u.journal.erase = none) (hs : P (journalScanned u).journal)
    (hc : P ((inOrder (storedFrames u.control.store)).foldl (fun s x => completeFrame x s)
      (queuePrograms ((tornSlots u.control.store).map .clearFrame) (journalScanned u))).journal) :
    P (scanAndComplete u).journal := by
  cases hf : framesAtFault u.control.store with
  | true =>
    have stopped : (recoveryStops .frameFormat (journalScanned u)).journal = (journalScanned u).journal := by
      show { (journalScanned u).journal with erase := none } = (journalScanned u).journal
      rw [← show (journalScanned u).journal.erase = none from he]
    rwa [scanAndComplete_fault hf, stopped]
  | false =>
    rcases Nat.lt_or_ge (usableBlocks u.journal.blocks) 4 with few | many
    · rw [scanAndComplete_worn hf few, clearTorn_eq]
      exact hs
    · rwa [scanAndComplete_completes hf many]

/-- Completing frames of single records queues their programs in frame-number order, and nothing else (R173). -/
theorem complete_oneRecord (h : storedTargets oneRecord u.control.store = true) (v : State) :
    (inOrder (storedFrames u.control.store)).foldl (fun s x => completeFrame x s) v =
      queuePrograms ((inOrder (storedFrames u.control.store)).flatMap framePrograms) v :=
  foldl_queuePrograms _ (fun x hx t => completeFrame_oneRecord (storedTargets_iff.1 h x (mem_inOrder.1 hx)) t) v

theorem scanAndComplete_scanFinds (he : u.journal.erase = none) (h : storedTargets oneRecord u.control.store = true) :
    scanFinds u (scanAndComplete u) := by
  refine scanFinds_of (scanAndComplete_journal (P := fun j => j = (scanJournal u).journal) he rfl ?_)
  rw [complete_oneRecord h]
  rfl

theorem scanAndComplete_scanFinds_noRun (he : u.journal.erase = none) (h : storedTargets noRun u.control.store = true) :
    scanFinds u { scanAndComplete u with
      journal := { (scanAndComplete u).journal with writes := u.journal.writes, lastB := u.journal.lastB } } := by
  refine scanFinds_of (scanAndComplete_journal (P := fun j =>
    { j with writes := u.journal.writes, lastB := u.journal.lastB } = (scanJournal u).journal) he rfl ?_)
  have keeps := foldl_keepsScan (f := fun s x => completeFrame x s) (inOrder (storedFrames u.control.store))
    (fun x hx t => completeFrame_keepsScan (storedTargets_iff.1 h x (mem_inOrder.1 hx)) t)
    (queuePrograms ((tornSlots u.control.store).map .clearFrame) (journalScanned u))
  rw [keeps]
  rfl

/-- A state whose only stored frame writes the control record (R133, R173). -/
theorem scanAndComplete_control {slt : Nat} {frm : Frame} {c : ControlRec} (hf : framesAtFault u.control.store = false)
    (many : 4 ≤ usableBlocks u.journal.blocks) (only : storedFrames u.control.store = [(slt, frm)])
    (writes : frm.writeBacks = [⟨true, .control c⟩]) :
    scanAndComplete u =
      queuePrograms [.control (!u.journal.lastB)
          ⟨u.journal.writes + 1, { c with blocks := (journalScanned u).journal.blocks }⟩ .frame, .done slt]
        { queuePrograms ((tornSlots u.control.store).map .clearFrame) (journalScanned u) with
          journal := controlPlaced (journalScanned u).journal } := by
  rw [scanAndComplete_completes hf many, only]
  show completeFrame (slt, frm) _ = _
  rw [completeFrame, writes]
  exact queuePrograms_append [_] [.done slt] { queuePrograms ((tornSlots u.control.store).map .clearFrame) (journalScanned u) with
    journal := controlPlaced (journalScanned u).journal }

/-- A command that scans the journal and completes the frames takes recovery on. -/
theorem recoveryGoesOn_of {c : Instr} {s : State} (hx : exec c s = .next (scanAndComplete u)) (hr : u.recovery = some rcv)
    (he : u.journal.erase = none) : recoveryGoesOn c rcv s u := by
  have recovers := scanAndComplete_recovers u
  have hrec : (journalScanned u).recovery = some ⟨.completing, rcv.fault, rcv.owed⟩ := by
    show u.recovery.map _ = _
    rw [hr]
    rfl
  refine ⟨_, hx, recovers.rest, recovers.control, scanAndComplete_scanFinds he, scanAndComplete_scanFinds_noRun he,
    framesAtFault_of, fun fault => ?_, fun sound few => ?_, fun sound many => ⟨?_, fun slt frm c only writes => ?_, fun one => ?_⟩⟩
  · rw [scanAndComplete_fault fault]
    refine ⟨?_, rfl⟩
    show (journalScanned u).recovery.map _ = _
    rw [hrec]
    rfl
  · rw [scanAndComplete_worn sound few, clearTorn_eq]
    refine ⟨?_, rfl⟩
    show (journalScanned u).recovery.map _ = _
    rw [hrec]
    rfl
  · rw [scanAndComplete_completes sound many]
    have done := foldl_completes (f := fun s x => completeFrame x s) (fun x t => completeFrame_completes x t)
      (inOrder (storedFrames u.control.store))
      (queuePrograms ((tornSlots u.control.store).map .clearFrame) (journalScanned u))
    exact (congrArg State.recovery done.rest :).trans hrec
  · rw [scanAndComplete_control sound many only writes]
    exact ⟨rfl, rfl, rfl⟩
  · rw [scanAndComplete_completes sound many, complete_oneRecord one]
    rfl

end

end Sys2Proof.Machine
end

section
/-! The end of recovery: the working copy from the store, what is owed, and the next index (R142, R174). -/
namespace Sys2Proof.Machine

section
variable {s t : State}

/-! ### The journal's free count -/

/-- The free count reads the blocks and the write point alone (R134). -/
theorem freeCount_congr {j k : Journal} (hb : k.blocks = j.blocks) (hw : k.wpBlock = j.wpBlock) (hs : k.wpSlot = j.wpSlot) :
    freeCount k = freeCount j := by
  have each : ∀ n bs, freeFrom k n bs = freeFrom j n bs := fun n bs => by
    induction bs generalizing n with
    | nil => rfl
    | cons b bs ih =>
      rw [freeFrom, freeFrom, ih, blockFree, blockFree, hw, hs]
  rw [freeCount, freeCount, hb, each]

/-! ### The next index (R142) -/

/-- An entry's index counts for the highest index when it lies whole in a usable block. -/
def usableIndex (blocks : List Block) (c : Nat × Cell JournalEntry) : Option Nat :=
  match c.2 with
  | .whole e => if blockStateOf blocks (c.1 / 512) = .bad then none else some e.index
  | .torn => none

/-- The running maximum of some of the elements' numbers. -/
def maxOf {α : Type} (f : α → Option Nat) (m : Nat) (a : α) : Nat := max m ((f a).getD 0)

theorem le_foldl_maxOf {α : Type} (f : α → Option Nat) (l : List α) (m : Nat) : m ≤ l.foldl (maxOf f) m := by
  induction l generalizing m with
  | nil => exact Nat.le_refl m
  | cons a l ih => exact (Nat.le_max_left _ _).trans (ih _)

/-- The maximum is at or above each. -/
theorem le_foldl_maxOf_of_mem {α : Type} {f : α → Option Nat} {l : List α} {a : α} {i : Nat} (ha : a ∈ l) (hi : f a = some i)
    (m : Nat) : i ≤ l.foldl (maxOf f) m := by
  induction l generalizing m with
  | nil => exact absurd ha List.not_mem_nil
  | cons b l ih =>
    rcases List.mem_cons.1 ha with rfl | ha
    · refine le_trans ?_ (le_foldl_maxOf f l _)
      rw [maxOf, hi]
      exact Nat.le_max_right _ _
    · exact ih ha _

/-- The maximum is the start or one of them. -/
theorem foldl_maxOf_attained {α : Type} {f : α → Option Nat} (l : List α) (m : Nat) :
    l.foldl (maxOf f) m = m ∨ ∃ a ∈ l, f a = some (l.foldl (maxOf f) m) := by
  induction l generalizing m with
  | nil => exact .inl rfl
  | cons b l ih =>
    rw [List.foldl_cons]
    rcases ih (maxOf f m b) with h | ⟨a, ha, h⟩
    · rw [h, maxOf]
      cases hb : f b with
      | none => exact .inl (by simp)
      | some i =>
        rw [Option.getD_some]
        rcases Nat.le_total i m with hle | hle
        · exact .inl (Nat.max_eq_left hle)
        · exact .inr ⟨b, List.mem_cons_self, by rw [hb, Nat.max_eq_right hle]⟩
    · exact .inr ⟨a, List.mem_cons_of_mem b ha, h⟩

theorem highestIndex_eq (s : State) :
    highestIndex s = s.control.store.journal.foldl (maxOf (usableIndex s.journal.blocks)) 0 := by
  unfold highestIndex
  congr 1
  funext m c
  have hslots : blockSlots = 512 := rfl
  unfold maxOf usableIndex
  rw [hslots]
  cases c.2 with
  | torn => simp
  | whole e =>
    dsimp only
    split_ifs <;> simp_all

/-- Every entry whole in a usable block lies below the next index (R142). -/
theorem index_lt_next (s : State) (lc : Nat) : (s.control.store.journal.all fun k => match k.2 with
    | .whole en => blockStateOf s.journal.blocks (k.1 / 512) = .bad || en.index < (builtJournal s lc).next
    | .torn => true) = true := by
  rw [List.all_eq_true]
  intro k hk
  have hnext : (builtJournal s lc).next = max (highestIndex s + 1) (takenCopy s.control.store).1.content.next := rfl
  have below {i : Nat} (h : usableIndex s.journal.blocks k = some i) : i < (builtJournal s lc).next := by
    have := le_foldl_maxOf_of_mem hk h 0
    rw [← highestIndex_eq] at this
    omega
  unfold usableIndex at below
  cases hc : k.2 with
  | torn => rfl
  | whole en =>
    rw [hc] at below
    rw [Bool.or_eq_true, decide_eq_true_eq, decide_eq_true_eq]
    by_cases hbad : blockStateOf s.journal.blocks (k.1 / 512) = .bad
    · exact .inl hbad
    · exact .inr (below (if_neg hbad))

/-- The next index is the first, the control record's, or the one after an entry whole in a usable block (R142). -/
theorem next_attained (s : State) (lc : Nat) :
    (builtJournal s lc).next ≤ 1 ∨ (builtJournal s lc).next = (takenCopy s.control.store).1.content.next ∨
      (s.control.store.journal.any fun k => match k.2 with
        | .whole en => blockStateOf s.journal.blocks (k.1 / 512) ≠ .bad && (builtJournal s lc).next = en.index + 1
        | .torn => false) = true := by
  have hnext : (builtJournal s lc).next = max (highestIndex s + 1) (takenCopy s.control.store).1.content.next := rfl
  by_cases hc : highestIndex s + 1 ≤ (takenCopy s.control.store).1.content.next
  · exact .inr (.inl (hnext.trans (Nat.max_eq_right hc)))
  have hhigh : (builtJournal s lc).next = highestIndex s + 1 := hnext.trans (Nat.max_eq_left (Nat.le_of_not_le hc))
  rcases foldl_maxOf_attained (f := usableIndex s.journal.blocks) s.control.store.journal 0 with h | ⟨k, hk, h⟩
  · rw [← highestIndex_eq] at h
    exact .inl (by omega)
  · rw [← highestIndex_eq] at h
    refine .inr (.inr (List.any_eq_true.2 ⟨k, hk, ?_⟩))
    unfold usableIndex at h
    cases hkc : k.2 with
    | torn =>
      rw [hkc] at h
      exact absurd h (by simp)
    | whole en =>
      rw [hkc] at h
      dsimp only at h
      split_ifs at h with hbad
      rw [hhigh, ← Option.some.inj h]
      simp [hbad]

/-! ### What recovery owes (R174) -/

/-- Owed continuations post their notices, or are kept for START (R174). -/
theorem foldl_handleOwed (owed : List Continuation) (s : State) :
    owed.foldl (fun s c => handleOwed c s) s =
      { s with
        link := { s.link with owed := s.link.owed ++ owed.filter isOwedFrame }
        notices := owed.foldl owedNotice s.notices } := by
  induction owed generalizing s with
  | nil => simp
  | cons c owed ih =>
    rw [List.foldl_cons, ih]
    cases c <;> simp [handleOwed, List.filter_cons, isOwedFrame, owedNotice, post]

theorem endRecovery_eq (owed : List Continuation) (s : State) :
    endRecovery owed s = { s with
      station := .idle
      recovery := none
      link := { s.link with owed := s.link.owed ++ owed.filter isOwedFrame }
      notices := if freeCount s.journal ≤ 512 then
          postNotice ⟨.journalReserve, .none, freeCount s.journal⟩ (owed.foldl owedNotice s.notices)
        else owed.foldl owedNotice s.notices } := by
  have hreserve : reserveSlots = 512 := rfl
  unfold endRecovery
  rw [foldl_handleOwed]
  simp only [insideReserve, hreserve, decide_eq_true_eq]
  split <;> rfl

/-! ### RECOVERY_END -/

theorem recoveryDone_of {r : Recovery} (hs : s.station = .recovering) (hr : s.recovery = some r) (hp : r.phase = .completing)
    (hq : s.control.queue = []) (he : s.journal.erase = none) : recoveryDone s = some r := by
  simp [recoveryDone, hr, hs, hp, hq, he]

theorem recoveryDone_of_not (h : s.station ≠ .recovering) : recoveryDone s = none := by
  unfold recoveryDone
  split
  · exact if_neg fun hr => h hr.1
  · rfl

/-- Recovery without a fault, and no record left torn, ends in IDLE (R174). -/
theorem execRecoveryEnd_sound {r : Recovery} (hd : recoveryDone s = some r) (hf : r.fault = none)
    (ht : recordTorn s.control.store = false) : execRecoveryEnd s = .next (endRecovery r.owed (buildWorking s)) := by
  unfold execRecoveryEnd
  rw [hd]
  dsimp only
  rw [hf, ht]
  rfl

/-- Recovery with a fault, or with a record left torn, ends in HALTED (R172, R173). -/
theorem execRecoveryEnd_fault {r : Recovery} {code : FaultCode} (hd : recoveryDone s = some r)
    (h : r.fault = some code ∨ (r.fault = none ∧ recordTorn s.control.store = true ∧ code = .recoveryFailed)) :
    execRecoveryEnd s = .next { enterHalted code false (buildWorking s) with
      recovery := none, leftStored := storedCount s.control.store } := by
  unfold execRecoveryEnd
  rw [hd]
  dsimp only
  rcases h with hf | ⟨hf, ht, rfl⟩
  · rw [hf]
    rfl
  · rw [hf, ht]
    rfl

end

end Sys2Proof.Machine
end

section
/-! A reset, its release, and the ends of recovery's programs (R158, R168, R172, R173). -/
namespace Sys2Proof.Machine

section
variable {s t : State} {rcv : Recovery}

/-! ### Reset and its release -/

theorem exec_resetRelease_held (h : s.station = .held) : exec .resetRelease s = .next (beginRecovery s) :=
  congrArg Host.Outcome.next (if_pos h)

theorem beginRecovery_erases {b : Nat} (h : erasingBlock (takenCopy s.control.store).1.content.blocks = some b) :
    beginRecovery s = beginErase b (controlRead s) := by
  unfold beginRecovery
  dsimp only
  rw [h]
  rfl

theorem beginRecovery_scans (h : erasingBlock (takenCopy s.control.store).1.content.blocks = none) :
    beginRecovery s = scanAndComplete (controlRead s) := by
  unfold beginRecovery
  dsimp only
  rw [h]
  rfl

/-- The release of a part whose store has never been written leaves it as a reset builds it (R168). -/
theorem exec_resetRelease_blank :
    exec .resetRelease { State.reset with station := .held, journal := .blank, recovery := none } = .next State.reset := by
  rfl

/-- What the scan and the completion leave of the journal: the indices are the control record's (R133). -/
theorem scanAndComplete_indices (u : State) (he : u.journal.erase = none) :
    (scanAndComplete u).journal.archived = u.journal.archived ∧ (scanAndComplete u).journal.next = u.journal.next ∧
      (scanAndComplete u).journal.oldest = u.journal.oldest := by
  refine scanAndComplete_journal (P := fun j => j.archived = u.journal.archived ∧ j.next = u.journal.next ∧
    j.oldest = u.journal.oldest) he ⟨rfl, rfl, rfl⟩ ?_
  have done := foldl_completes (f := fun s x => completeFrame x s) (fun x t => completeFrame_completes x t)
    (inOrder (storedFrames u.control.store)) (queuePrograms ((tornSlots u.control.store).map .clearFrame) (journalScanned u))
  rw [done.journal]
  exact ⟨rfl, rfl, rfl⟩

/-- What a release takes from the control record, and what it leaves alone (R157, R172). -/
theorem beginRecovery_reads (s : State) :
    (beginRecovery s).station = .recovering ∧ (beginRecovery s).control.store = s.control.store ∧
      (beginRecovery s).custody = s.custody ∧ (beginRecovery s).requests = s.requests ∧
      (beginRecovery s).positions = s.positions ∧ (beginRecovery s).port = s.port ∧
      (beginRecovery s).journal.archived = (takenCopy s.control.store).1.content.archived ∧
      (beginRecovery s).journal.next = (takenCopy s.control.store).1.content.next ∧
      (beginRecovery s).journal.oldest = (takenCopy s.control.store).1.content.oldest := by
  cases h : erasingBlock (takenCopy s.control.store).1.content.blocks with
  | some b =>
    rw [beginRecovery_erases h]
    exact ⟨rfl, rfl, rfl, rfl, rfl, rfl, rfl, rfl, rfl⟩
  | none =>
    rw [beginRecovery_scans h]
    have recovers := scanAndComplete_recovers (controlRead s)
    obtain ⟨harchived, hnext, holdest⟩ := scanAndComplete_indices (controlRead s) rfl
    refine ⟨(congrArg State.station recovers.rest :), ?_, (congrArg State.custody recovers.rest :),
      (congrArg State.requests recovers.rest :), (congrArg State.positions recovers.rest :),
      (congrArg State.port recovers.rest :), harchived, hnext, holdest⟩
    rw [recovers.control]
    rfl

/-- With no erase to do, a release takes recovery on at once (R172). -/
theorem resetRelease_goesOn (h : s.station = .held)
    (he : erasingBlock (takenCopy s.control.store).1.content.blocks = none) :
    recoveryGoesOn .resetRelease ⟨.erasing, none, []⟩ s (controlRead s) :=
  recoveryGoesOn_of ((exec_resetRelease_held h).trans (congrArg _ (beginRecovery_scans he))) rfl rfl

/-! ### A stored frame that carries one journal entry (R142, R173) -/

/-- The programs that complete a frame of one journal entry: the entry, unless it is found, then the done mark. -/
theorem completeFrame_entry {slt : Nat} {frm : Frame} {en : JournalEntry} (hw : frm.writeBacks = [⟨true, .journal [en]⟩])
    (s : State) : (completeFrame (slt, frm) s).control.queue =
      s.control.queue ++ (if entryFound s en.index then [] else [.entry (writePoint s.journal) en]) ++ [.done slt] := by
  rw [completeFrame, hw]
  show (completeEntry en s).control.queue ++ [_] = _
  unfold completeEntry
  split
  · rw [List.append_nil]
  · rfl

/-- The queue that completes the only stored frame, of one journal entry. -/
theorem scanAndComplete_entry {u : State} {slt : Nat} {frm : Frame} {en : JournalEntry}
    (hf : framesAtFault u.control.store = false) (many : 4 ≤ usableBlocks u.journal.blocks)
    (only : storedFrames u.control.store = [(slt, frm)]) (torn : tornSlots u.control.store = [])
    (hw : frm.writeBacks = [⟨true, .journal [en]⟩]) (empty : u.control.queue = []) :
    (scanAndComplete u).control.queue =
      (if entryFound (journalScanned u) en.index then [] else [.entry (writePoint (journalScanned u).journal) en]) ++
        [.done slt] := by
  rw [scanAndComplete_completes hf many, only, torn]
  show (completeFrame (slt, frm) (queuePrograms [] (journalScanned u))).control.queue = _
  rw [queuePrograms_nil, completeFrame_entry hw]
  show u.control.queue ++ _ ++ _ = _
  rw [empty, List.nil_append]

/-- The blank control record is the one taken from a store in which none has been written (R133). -/
theorem takenCopy_blank {st : Store} (ha : st.controlA = none) (hb : st.controlB = none) :
    takenCopy st = (⟨0, .blank⟩, false) := by
  rw [takenCopy, ha, hb]
  rfl

theorem startsAt_blank : startsAt blankBlocks 0 := .inr (by decide)

/-- Block 0 is no bad block after the scan from a blank control record. -/
theorem journalScanned_usable {u : State} (hb : u.journal.blocks = blankBlocks) :
    blockStateOf (journalScanned u).journal.blocks 0 ≠ .bad := by
  show blockStateOf (scannedBlocks _ _ _ _ u.journal.blocks) 0 ≠ .bad
  rw [Ne, blockStateOf_scanned_bad, hb]
  decide

/-- From a blank control record the write point is the first erased slot of block 0, if there is one. -/
theorem writePoint_journalScanned {u : State} {k : Nat} (hb : u.journal.blocks = blankBlocks)
    (h : firstErased u.control.store blankBlocks 0 0 k = true) : writePoint (journalScanned u).journal = k := by
  have hj := scanJournal_finds (s := u) (b0 := 0) (n := 0) (k := k) (hb ▸ startsAt_blank) (hb ▸ h)
  have hw : (journalScanned u).journal.wpBlock = 0 := congrArg Journal.wpBlock hj
  have hs : (journalScanned u).journal.wpSlot = k := congrArg Journal.wpSlot hj
  rw [writePoint, hw, hs, if_neg (journalScanned_usable hb), slotPlace, Nat.zero_mul, Nat.zero_add]

/-! ### The ends of recovery's programs -/

theorem exec_programComplete {p : Program} {rest : List Program} (r : ProgramResult) (hq : s.control.queue = p :: rest)
    (hs : s.station = .recovering) : exec (.programComplete r) s =
      .next (if r = .completed then recoveryProgramDone p (programEnds p rest r s) else recoveryFails (programEnds p rest r s)) := by
  show execProgramComplete r s = _
  unfold execProgramComplete
  rw [hq]
  dsimp only
  rw [endProgram, hs]
  rfl

theorem programEnds_completed (p : Program) (rest : List Program) (s : State) :
    programEnds p rest .completed s = { s with control := programmed p rest s } := rfl

/-- A done mark's frame owes what it announces (R173). -/
theorem owedBy_done {st : Store} {slt : Nat} {frm : Frame} (h : tabGet st.frames slt = some (.stored frm)) :
    owedBy (programWrite st (.done slt)) slt = if frm.continuation = .none then [] else [frm.continuation] := by
  have hst : programWrite st (.done slt) = { st with frames := tabPut st.frames slt (.done frm) } := by
    show (match (tabGet st.frames slt).bind slotFrame with
      | some f => { st with frames := tabPut st.frames slt (.done f) }
      | none => st) = _
    rw [h]
    rfl
  rw [owedBy, hst, tabGet_tabPut_self]
  show (match frm.continuation with
    | .none => []
    | c => [c]) = _
  cases frm.continuation <;> rfl

/-- A program that fails stops recovery, and the journal is scanned again from the store's control record (R172, R173). -/
theorem recoveryBreaksOff_of {c : Instr} {st : Store} {rest : List Program} (hr : s.recovery = some rcv)
    (hx : exec c s = .next (recoveryFails { s with control := { s.control with queue := rest, store := st } })) :
    recoveryBreaksOff c rcv st s := by
  refine ⟨_, hx, rfl, rfl, ?_, rfl, fun b0 n k hb hk => ?_⟩
  · show s.recovery.map _ = _
    rw [hr]
    rfl
  · exact congrArg (fun j : Journal => { j with erase := none })
      (scanJournal_finds (s := { s with control := { s.control with store := st }
                                        journal := { s.journal with blocks := (takenCopy st).1.content.blocks } }) hb hk)

end

end Sys2Proof.Machine
end

section
/-! A reset and the recovery after it (R168, R172 to R175). -/
namespace Sys2Proof.Machine

section
variable {s : State} {rcv : Recovery}

/-- The end of a recovery without a fault (R174). -/
theorem exec_recoveryEnd_sound (hd : recoveryDone s = some rcv) (hf : rcv.fault = none)
    (ht : recordTorn s.control.store = false) :
    exec .recoveryEnd s = .next { buildWorking s with
      station := .idle
      recovery := none
      link := { s.link with owed := s.link.owed ++ rcv.owed.filter isOwedFrame }
      notices := if freeCount s.journal ≤ 512 then
          postNotice ⟨.journalReserve, .none, freeCount s.journal⟩ (rcv.owed.foldl owedNotice s.notices)
        else rcv.owed.foldl owedNotice s.notices } := by
  have hfree : freeCount (buildWorking s).journal = freeCount s.journal := freeCount_congr rfl rfl rfl
  refine (execRecoveryEnd_sound hd hf ht).trans ?_
  rw [endRecovery_eq, hfree]
  rfl

/-- In recovery a done mark takes its frame's continuation as owed (R173). -/
theorem recoveryProgramDone_done {slt : Nat} {t : State} (hr : t.recovery = some rcv) :
    recoveryProgramDone (.done slt) t =
      { t with recovery := some { rcv with owed := rcv.owed ++ owedBy t.control.store slt } } := by
  rw [recoveryProgramDone, hr]
  rfl

/-- An erase that was marked runs (R139). -/
theorem startErase_marking {t : State} {blk : Nat} (h : t.journal.erase = some ⟨blk, .marking⟩) :
    startErase t = { t with journal := { t.journal with erase := some ⟨blk, .running 0⟩ } } := by
  rw [startErase, h]

/-- The only stored frame carries one journal entry: it is programmed at the write point unless it is found (R142, R173). -/
theorem resetRelease_entry {slt : Nat} {frm : Frame} {en : JournalEntry} (held : s.station = .held)
    (hf : framesAtFault s.control.store = false) (only : storedFrames s.control.store = [(slt, frm)])
    (hw : frm.writeBacks = [⟨true, .journal [en]⟩]) (torn : tornSlots s.control.store = []) (empty : s.control.queue = [])
    (ha : s.control.store.controlA = none) (hb : s.control.store.controlB = none) :
    ∃ t, exec .resetRelease s = .next t ∧
      (s.control.store.journal = [] → t.control.queue = [.entry 0 en, .done slt]) ∧
      (s.control.store.journal = [(0, .whole en)] → t.control.queue = [.done slt]) ∧
      (s.control.store.journal = [(0, .torn)] → t.control.queue = [.entry 1 en, .done slt]) := by
  have hblocks : (controlRead s).journal.blocks = blankBlocks := by
    show (takenCopy s.control.store).1.content.blocks = _
    rw [takenCopy_blank ha hb]
    rfl
  have none_erasing : erasingBlock (takenCopy s.control.store).1.content.blocks = none := by
    rw [takenCopy_blank ha hb]
    decide
  have queue := scanAndComplete_entry (u := controlRead s) hf (by rw [hblocks]; decide) only torn hw empty
  have missed (h : entryFound (journalScanned (controlRead s)) en.index = false) {k : Nat}
      (hk : firstErased s.control.store blankBlocks 0 0 k = true) :
      (scanAndComplete (controlRead s)).control.queue = [.entry k en, .done slt] := by
    rw [queue, h, writePoint_journalScanned hblocks hk]
    rfl
  have taken (k q : Nat) : slotTaken s.control.store k q = (tabGet s.control.store.journal (k * 512 + q)).isSome := rfl
  refine ⟨_, (exec_resetRelease_held held).trans (congrArg _ (beginRecovery_scans none_erasing)), fun hj => missed ?_ ?_,
    fun hj => ?_, fun hj => missed ?_ ?_⟩
  · show s.control.store.journal.any _ = false
    rw [hj]
    rfl
  · rw [firstErased_iff]
    simp [taken, hj]
  · have found : entryFound (journalScanned (controlRead s)) en.index = true := by
      show s.control.store.journal.any _ = true
      rw [hj]
      simp [journalScanned_usable hblocks]
    rw [queue, found]
    rfl
  · show s.control.store.journal.any _ = false
    rw [hj]
    rfl
  · rw [firstErased_iff]
    simp [taken, hj, tabGet]

end

end Sys2Proof.Machine

namespace Sys2Proof
open Sys2Proof.Machine

/-- Settles O53: each clause by the lemma of its command, the queues and the scan by induction in the lemmas. -/
theorem resetThenRecovery : Obligations.ResetThenRecovery := by
  intro s
  refine ⟨fun empty => ?_, fun pr prs hq => ?_, exec_resetRelease_blank, fun h => congrArg Host.Outcome.next (if_neg h),
    fun held => ⟨_, exec_resetRelease_held held, beginRecovery_reads s⟩,
    fun rcv hs hr hp hq he => ⟨fun hf ht => ?_, fun code fault => ?_⟩, fun h => ?_,
    fun rcv pr prs hs hr hq => ⟨fun tg pos slt en copyB cc hpr => ?_, fun slt frm hpr hfrm => ?_, fun copyB cc blk hpr he => ?_,
      ?_, ?_⟩,
    fun blk held he => ?_, fun rcv prs copyB cc hs hr he hq => ?_,
    fun held he => ⟨resetRelease_goesOn held he, fun slt frm en hf only hw torn empty ha hb =>
      resetRelease_entry held hf only hw torn empty ha hb⟩⟩
  · show execReset s = _
    rw [execReset, cutOff, empty]
    rfl
  · show execReset s = _
    rw [execReset, cutOff, hq]
    rfl
  · refine ⟨_, exec_recoveryEnd_sound (recoveryDone_of hs hr hp hq he) hf ht, rfl, rfl, rfl, rfl, rfl, rfl, rfl, rfl, rfl, rfl,
      rfl, rfl, rfl, Nat.le_max_right _ _, index_lt_next s _, next_attained s _, rfl, rfl, rfl, rfl, rfl, rfl,
      fun none_owed room => ?_, fun slot orq oh oout owed room => ?_, fun none_owed few => ?_⟩
    · rw [none_owed]
      exact ⟨if_neg (Nat.not_le.2 room), by simp⟩
    · rw [owed]
      exact ⟨if_neg (Nat.not_le.2 room), by simp [isOwedFrame]⟩
    · rw [none_owed]
      exact if_pos few
  · refine ⟨_, execRecoveryEnd_fault (recoveryDone_of hs hr hp hq he) fault, rfl, rfl, rfl, rfl, rfl, ?_, rfl⟩
    exact storedCount_eq_framesLeft _
  · show execRecoveryEnd s = _
    rw [execRecoveryEnd, recoveryDone_of_not h]
    rfl
  · rw [exec_programComplete .completed hq hs, if_pos rfl, programEnds_completed]
    rcases hpr with rfl | rfl | rfl | rfl <;> rfl
  · subst hpr
    rw [exec_programComplete .completed hq hs, if_pos rfl, programEnds_completed, ← owedBy_done hfrm]
    exact congrArg Host.Outcome.next (recoveryProgramDone_done hr)
  · subst hpr
    rw [exec_programComplete .completed hq hs, if_pos rfl, programEnds_completed]
    exact congrArg Host.Outcome.next (startErase_marking he)
  · exact recoveryBreaksOff_of hr (exec_programComplete .failedUnchanged hq hs)
  · exact recoveryBreaksOff_of hr (exec_programComplete .failedTorn hq hs)
  · rw [exec_resetRelease_held held, beginRecovery_erases he]
    rfl
  · refine recoveryGoesOn_of ?_ hr he
    rw [exec_programComplete .completed hq hs, if_pos rfl, programEnds_completed]
    rfl

end Sys2Proof
end

section
/-! Numbers given in a cycle: a request number and a hold tag are in range, and belong to no live entry (R25, R67, R166). -/
namespace Sys2Proof.Machine

section
variable {top c : Nat}

theorem cycleNext_range (htop : 1 ≤ top) (c : Nat) : 1 ≤ cycleNext top c ∧ cycleNext top c ≤ top := by
  unfold cycleNext
  split <;> omega

/-- A number of the cycle, so many places on. -/
theorem cycleNext_iterate (hc : 1 ≤ c ∧ c ≤ top) (k : Nat) : (cycleNext top)^[k] c = (c - 1 + k) % top + 1 := by
  induction k with
  | zero =>
    have : (c - 1 + 0) % top = c - 1 := Nat.mod_eq_of_lt (by omega)
    rw [this, Function.iterate_zero, id]
    omega
  | succ k ih =>
    have hlt : (c - 1 + k) % top < top := Nat.mod_lt _ (by omega)
    rw [Function.iterate_succ_apply', ih, ← Nat.add_assoc, ← Nat.mod_add_mod (c - 1 + k), cycleNext]
    split
    · next hge =>
      have hend : (c - 1 + k) % top + 1 = top := by omega
      rw [hend, Nat.mod_self]
    · next hlow => rw [Nat.mod_eq_of_lt (Nat.lt_of_not_le hlow)]

/-- Within one round the cycle gives no number twice. -/
theorem cycleNext_iterate_injOn (hc : 1 ≤ c ∧ c ≤ top) : Set.InjOn (fun k => (cycleNext top)^[k] c) (Set.Iio top) := by
  intro k hk l hl h
  simp only [cycleNext_iterate hc, Nat.add_right_cancel_iff] at h
  have h : k ≡ l [MOD top] := Nat.ModEq.add_left_cancel' _ h
  rwa [Nat.ModEq, Nat.mod_eq_of_lt hk, Nat.mod_eq_of_lt hl] at h

/-- A list shorter than a round of the cycle misses one of the numbers the cycle gives, no later than its length allows. -/
theorem exists_iterate_not_mem (used : List Nat) (hlt : used.length < top) (c : Nat) :
    ∃ k ≤ used.length, (cycleNext top)^[k + 1] c ∉ used := by
  by_contra hall
  push Not at hall
  have hrange := cycleNext_range (Nat.succ_le_of_lt (Nat.zero_lt_of_lt hlt)) c
  have hcard : (Finset.range (used.length + 1)).card ≤ used.toFinset.card := by
    refine Finset.card_le_card_of_injOn (fun k => (cycleNext top)^[k] (cycleNext top c)) ?_ ?_
    · intro k hk
      exact List.mem_toFinset.2 (hall k (by simpa [Nat.lt_succ_iff] using hk))
    · refine (cycleNext_iterate_injOn hrange).mono fun k hk => ?_
      simp only [Finset.coe_range, Set.mem_Iio] at hk ⊢
      omega
  have := used.toFinset_card_le
  rw [Finset.card_range] at hcard
  omega

/-! ### The scans -/

variable {held : Nat → Bool}

theorem scanTag_range (held : Nat → Bool) (fuel c : Nat) : 1 ≤ scanTag held fuel c ∧ scanTag held fuel c ≤ maxTag := by
  induction fuel generalizing c with
  | zero => exact cycleNext_range (by decide) c
  | succ fuel ih =>
    unfold scanTag
    split
    · exact ih _
    · exact cycleNext_range (by decide) c

/-- A tag held is given only when every tag of the scan is held. -/
theorem scanTag_not_held {fuel k : Nat} (hk : k ≤ fuel) (h : held ((cycleNext maxTag)^[k + 1] c) = false) :
    held (scanTag held fuel c) = false := by
  induction fuel generalizing c k with
  | zero =>
    rw [Nat.le_zero.1 hk] at h
    exact h
  | succ fuel ih =>
    unfold scanTag
    split
    · next hc =>
      cases k with
      | zero => exact absurd (h.symm.trans hc) Bool.false_ne_true
      | succ k => exact ih (Nat.le_of_succ_le_succ hk) (by rwa [Function.iterate_succ_apply] at h)
    · next hc => exact Bool.not_eq_true _ ▸ hc

theorem scanNumber_range (held : Nat → Bool) (mark fuel c : Nat) (past : Bool) :
    1 ≤ (scanNumber held mark fuel c past).1 ∧ (scanNumber held mark fuel c past).1 ≤ maxReqNo := by
  induction fuel generalizing c past with
  | zero => exact cycleNext_range (by decide) c
  | succ fuel ih =>
    unfold scanNumber
    dsimp only
    split
    · exact ih _ _
    · exact cycleNext_range (by decide) c

/-- A number held is given only when every number of the scan is held. -/
theorem scanNumber_not_held {mark fuel k : Nat} {past : Bool} (hk : k ≤ fuel)
    (h : held ((cycleNext maxReqNo)^[k + 1] c) = false) : held (scanNumber held mark fuel c past).1 = false := by
  induction fuel generalizing c k past with
  | zero =>
    rw [Nat.le_zero.1 hk] at h
    exact h
  | succ fuel ih =>
    unfold scanNumber
    dsimp only
    split
    · next hc =>
      cases k with
      | zero => exact absurd (h.symm.trans hc) Bool.false_ne_true
      | succ k => exact ih (Nat.le_of_succ_le_succ hk) (by rwa [Function.iterate_succ_apply] at h)
    · next hc => exact Bool.not_eq_true _ ▸ hc

end

/-! ### What is held -/

section
variable {s : State}

/-- The numbers of the live tracker entries (R66, R67). -/
def liveNumbers (s : State) : List Nat :=
  (s.tracker.entries.filter fun p => !trackFree (lastClosed s) p.2).map fun p => p.2.data.reqNo

theorem liveNumbers_length (s : State) : (liveNumbers s).length = trackCount s := by
  rw [liveNumbers, List.length_map, ← List.countP_eq_length_filter]
  rfl

theorem numberHeld_eq_false_iff {n : Nat} : numberHeld s n = false ↔ n ∉ liveNumbers s := by
  rw [← Bool.not_eq_true, not_iff_not]
  simp only [numberHeld, tabAny, liveNumbers, List.any_eq_true, List.mem_map, List.mem_filter, Bool.and_eq_true,
    decide_eq_true_eq]
  exact exists_congr fun p => by tauto

/-- The tags of the live request-table entries; a credit has none (R22, R25). -/
def liveTags (s : State) : List Nat :=
  (s.requests.grants.filter fun p => !grantFree (lastClosed s) p.2).filterMap fun p => grantTag p.2

theorem liveTags_length_le (s : State) : (liveTags s).length ≤ grantCount s := by
  refine (List.length_filterMap_le _ _).trans ?_
  rw [← List.countP_eq_length_filter]
  rfl

theorem tagHeld_eq_false_iff {n : Nat} : tagHeld s n = false ↔ n ∉ liveTags s := by
  rw [← Bool.not_eq_true, not_iff_not]
  simp only [tagHeld, tabAny, liveTags, List.any_eq_true, List.mem_filterMap, List.mem_filter, Bool.and_eq_true,
    decide_eq_true_eq]
  exact exists_congr fun p => by tauto

theorem nextNumber_not_held (h : trackCount s ≤ 32) : numberHeld s (nextNumber s).1 = false := by
  have hlt : (liveNumbers s).length < maxReqNo := by
    rw [liveNumbers_length]
    exact Nat.lt_of_le_of_lt h (by decide)
  obtain ⟨k, hk, hfree⟩ := exists_iterate_not_mem (liveNumbers s) hlt s.tracker.counter
  have hfuel : k ≤ s.tracker.entries.length := by
    rw [liveNumbers_length] at hk
    exact hk.trans List.countP_le_length
  exact scanNumber_not_held hfuel (numberHeld_eq_false_iff.2 hfree)

theorem freshTag_not_held (h : grantCount s ≤ 1024) : tagHeld s (freshTag s) = false := by
  have hle := liveTags_length_le s
  have hlt : (liveTags s).length < maxTag := Nat.lt_of_le_of_lt (hle.trans h) (by decide)
  obtain ⟨k, hk, hfree⟩ := exists_iterate_not_mem (liveTags s) hlt ((s.ident.map (·.tagCounter)).getD 0)
  exact scanTag_not_held ((hk.trans hle).trans List.countP_le_length) (tagHeld_eq_false_iff.2 hfree)

end

end Sys2Proof.Machine

namespace Sys2Proof
open Sys2Proof.Machine

/-- Settles O21: a scan of more numbers than are held meets one that is not. -/
theorem numbersGivenAreFresh : Obligations.NumbersGivenAreFresh := by
  intro s
  obtain ⟨hnum, hnum'⟩ := scanNumber_range (numberHeld s) (highWater s) s.tracker.entries.length s.tracker.counter false
  obtain ⟨htag, htag'⟩ := scanTag_range (tagHeld s) s.requests.grants.length ((s.ident.map (·.tagCounter)).getD 0)
  exact ⟨fun h => ⟨hnum, hnum', nextNumber_not_held h⟩, fun h => ⟨htag, htag', freshTag_not_held h⟩⟩

end Sys2Proof
end

section
/-! The passing of one millisecond (R38, R51, R60, R68, R76, R106, R140). -/
namespace Sys2Proof.Machine

section
variable {s : State}

/-- Reading after a change of every content. -/
theorem tabGet_tabMap {α β : Type} (f : α → β) (t : Tab α) (k : Nat) : tabGet (tabMap f t) k = (tabGet t k).map f := by
  induction t with
  | nil => rfl
  | cons p t ih =>
    show (if p.1 = k then some (f p.2) else tabGet (tabMap f t) k) = (if p.1 = k then some p.2 else tabGet t k).map f
    rw [ih]
    split <;> rfl

theorem step_tick (h : s.pending = []) : step s = .next (tick s) := by
  unfold step
  rw [h]

/-! ### The erase that runs (R139, R140) -/

/-- An erase that runs spends one millisecond, unless programs suspend it. -/
theorem eraseOn_running {b n : Nat} (h : s.journal.erase = some ⟨b, .running n⟩) (hq : s.control.queue = []) :
    (eraseOn s).journal.erase = some ⟨b, .running (n + 1)⟩ := by
  unfold eraseOn
  rw [h, hq]
  rfl

theorem eraseOn_still
    (h : s.control.queue ≠ [] ∨ s.journal.erase = none ∨ (s.journal.erase.all fun k => k.phase = .marking) = true) :
    (eraseOn s).journal.erase = s.journal.erase := by
  unfold eraseOn
  split
  · next b n he =>
    have hq : s.control.queue.isEmpty = false := by
      rw [he] at h
      rw [List.isEmpty_eq_false_iff]
      exact h.resolve_right (by simp)
    rw [hq]
    rfl
  · rfl

/-- Of the state an erase that goes on changes its own time alone. -/
theorem eraseOn_eq (s : State) : eraseOn s = { s with journal := { s.journal with erase := (eraseOn s).journal.erase } } := by
  unfold eraseOn
  split
  · split <;> rfl
  · rfl

/-! ### Silence times (R60) -/

theorem silenceOver_iff {e : RosterEntry} : silenceOver e = true ↔ e.state ≠ .absent ∧ 15000 ≤ e.silence + 1 := by
  simp [silenceOver, silenceLimit]

theorem silenceOn_counts {e : RosterEntry} (ha : e.state ≠ .absent) (h : e.silence + 1 < 15000) :
    silenceOn e = { e with silence := e.silence + 1 } := by
  unfold silenceOn
  rw [if_neg]
  rintro (hc | hc)
  · exact ha hc
  · exact Nat.not_lt.2 (silenceOver_iff.1 hc).2 h

theorem silenceOn_stands {e : RosterEntry} (h : e.state = .absent ∨ 15000 ≤ e.silence + 1) : silenceOn e = e := by
  unfold silenceOn
  rw [if_pos]
  by_cases ha : e.state = .absent
  · exact .inl ha
  · exact .inr (silenceOver_iff.2 ⟨ha, h.resolve_left ha⟩)

theorem mem_silenceDue {p : Nat × RosterEntry} (hp : p ∈ s.link.roster) (ha : p.2.state ≠ .absent)
    (h : 15000 ≤ p.2.silence + 1) : .silenceTimeout p.1 ∈ silenceDue s :=
  List.mem_map.2 ⟨p, List.mem_filter.2 ⟨hp, silenceOver_iff.2 ⟨ha, h⟩⟩, rfl⟩

/-! ### The timers of a TRADING station -/

theorem mem_timersDue {c : Instr} : c ∈ timersDue s ↔
    (∃ p ∈ s.requests.lives, p.2 = 1 ∧ .holdExpiry p.1 = c) ∨
    (∃ p ∈ s.slots, (p.2.state = .held ∧ p.2.timer = some 1) ∧ .holdTimerExpiry p.1 = c) ∨
    (∃ p ∈ s.tracker.entries, (trackFree (lastClosed s) p.2 = false ∧ p.2.timer = some 1) ∧
      .answerWaitExpiry p.2.data.home p.2.data.reqNo = c) ∨
    ((∃ v, s.positions.view = some v ∧ v.completed = false ∧ v.deadline = some 1) ∧ c = .closeDeadline) ∨
    (s.link.presenceTimer ≤ 1 ∧ c = .presenceTimer) := by
  simp [timersDue, lastMs, Option.any_eq_true, and_assoc]

/-- A TRADING station one millisecond later, its erase apart from its timers. -/
def oneMsOn (s : State) : State :=
  { timersOn (silencesOn s) with
    journal := { s.journal with erase := (eraseOn s).journal.erase }
    pending := s.pending ++ timersDue s ++ silenceDue s }

theorem eraseOn_timersOn (s : State) : (eraseOn (timersOn (silencesOn s))).journal.erase = (eraseOn s).journal.erase := by
  unfold eraseOn
  simp only [timersOn_frame, silencesOn_frame]
  split
  · split <;> rfl
  · rfl

theorem oneMsOn_lives (s : State) : (oneMsOn s).requests.lives = tabMap countDown s.requests.lives := rfl

theorem oneMsOn_slots (s : State) :
    (oneMsOn s).slots = tabMap (fun sl => { sl with timer := sl.timer.map countDown }) s.slots := rfl

theorem oneMsOn_entries (s : State) :
    (oneMsOn s).tracker.entries = tabMap (fun t => { t with timer := t.timer.map countDown }) s.tracker.entries := rfl

theorem oneMsOn_view (s : State) :
    (oneMsOn s).positions.view = s.positions.view.map fun v => { v with deadline := v.deadline.map countDown } := rfl

/-! ### What passes in each state of the station -/

theorem tick_held (h : s.station = .held) : tick s = s := by unfold tick; rw [h]

theorem tick_untimed (h : s.station = .recovering ∨ s.station = .idle) : tick s = eraseOn s := by
  unfold tick
  rcases h with h | h <;> rw [h]

theorem tick_halted (h : s.station = .halted) :
    tick s = { silencesOn s with pending := s.pending ++ silenceDue s } := by unfold tick; rw [h]

theorem tick_trading (h : s.station = .trading) : tick s = oneMsOn s := by
  have herase := eraseOn_eq (timersOn (silencesOn s))
  rw [eraseOn_timersOn] at herase
  unfold tick
  rw [h]
  dsimp only
  rw [herase]
  rfl

/-- What a millisecond does, in the three ways it can pass. -/
theorem tick_cases (s : State) :
    tick s = { s with journal := { s.journal with erase := (tick s).journal.erase } } ∨
    tick s = { silencesOn s with pending := s.pending ++ silenceDue s } ∨ tick s = oneMsOn s := by
  have untimed (h : s.station = .recovering ∨ s.station = .idle) :
      tick s = { s with journal := { s.journal with erase := (tick s).journal.erase } } := by
    rw [tick_untimed h]
    exact eraseOn_eq s
  obtain h | h | h | h | h : s.station = .held ∨ s.station = .recovering ∨ s.station = .idle ∨ s.station = .halted ∨
      s.station = .trading := by cases s.station <;> simp
  · exact .inl (by rw [tick_held h])
  · exact .inl (untimed (.inl h))
  · exact .inl (untimed (.inr h))
  · exact .inr (.inl (tick_halted h))
  · exact .inr (.inr (tick_trading h))

theorem tick_erase (h : s.station = .recovering ∨ s.station = .idle ∨ s.station = .trading) :
    (tick s).journal.erase = (eraseOn s).journal.erase := by
  rcases h with h | h | h
  · rw [tick_untimed (.inl h)]
  · rw [tick_untimed (.inr h)]
  · rw [tick_trading h]
    rfl

theorem tick_roster (h : s.station = .trading ∨ s.station = .halted) :
    (tick s).link.roster = tabMap silenceOn s.link.roster := by
  rcases h with h | h
  · rw [tick_trading h]
    rfl
  · rw [tick_halted h]
    rfl

/-- A place of a table that is blank stays so when contents alone change. -/
theorem tabGet_tabMap_none {α : Type} {f : α → α} {t u : Tab α} (h : u = t ∨ u = tabMap f t) {k : Nat}
    (hk : tabGet t k = none) : tabGet u k = none := by
  rcases h with rfl | rfl
  · exact hk
  · rw [tabGet_tabMap, hk]
    rfl

end

end Sys2Proof.Machine

namespace Sys2Proof
open Sys2Proof.Machine

/-- Settles O3, by what passes in each state of the station. -/
theorem emptyQueuePassesOneMillisecond : Obligations.EmptyQueuePassesOneMillisecond := by
  intro s hq
  have rest : { tick s with
        requests := s.requests, slots := s.slots, tracker := s.tracker, positions := s.positions, link := s.link,
        journal := s.journal, pending := s.pending } = s ∧
      { (tick s).requests with lives := s.requests.lives } = s.requests ∧
      { (tick s).positions with view := s.positions.view } = s.positions ∧
      { (tick s).link with roster := s.link.roster, presenceTimer := s.link.presenceTimer } = s.link ∧
      { (tick s).journal with erase := s.journal.erase } = s.journal ∧ (tick s).tracker.counter = s.tracker.counter := by
    rcases tick_cases s with ht | ht | ht <;> rw [ht] <;> exact ⟨rfl, rfl, rfl, rfl, rfl, rfl⟩
  have tables : ((tick s).link.roster = s.link.roster ∨ (tick s).link.roster = tabMap silenceOn s.link.roster) ∧
      ((tick s).requests.lives = s.requests.lives ∨ (tick s).requests.lives = tabMap countDown s.requests.lives) ∧
      ((tick s).slots = s.slots ∨
        (tick s).slots = tabMap (fun sl => { sl with timer := sl.timer.map countDown }) s.slots) := by
    rcases tick_cases s with ht | ht | ht <;> rw [ht]
    · exact ⟨.inl rfl, .inl rfl, .inl rfl⟩
    · exact ⟨.inr rfl, .inl rfl, .inl rfl⟩
    · exact ⟨.inr rfl, .inr rfl, .inr rfl⟩
  obtain ⟨rest, requests, positions, link, journal, counter⟩ := rest
  obtain ⟨roster, lives, slots⟩ := tables
  refine ⟨tick s, step_tick hq, rest, requests, positions, link, journal, counter, tick_held, fun h => ?_,
    fun h => ⟨fun b n he hempty => ?_, fun hstill => ?_⟩, fun h => ?_, fun h j e he => ⟨fun ha hlow => ?_, fun hover => ?_⟩,
    fun j => tabGet_tabMap_none roster, fun tag => tabGet_tabMap_none lives, fun n => tabGet_tabMap_none slots, fun h => ?_⟩
  · rw [tick_untimed h, eraseOn_eq]
  · rw [tick_erase h, eraseOn_running he hempty]
  · rw [tick_erase h, eraseOn_still hstill]
  · rw [tick_halted h]
    exact ⟨by rw [← hq]; rfl, fun p hp ha hover => List.mem_append_right _ (mem_silenceDue hp ha hover)⟩
  · rw [tick_roster h, tabGet_tabMap, he, Option.map_some, silenceOn_counts ha hlow]
  · rw [tick_roster h, tabGet_tabMap, he, Option.map_some, silenceOn_stands hover]
  · have due {c : Instr} (hc : c ∈ timersDue s) : c ∈ (oneMsOn s).pending :=
      List.mem_append_left _ (List.mem_append_right _ hc)
    rw [tick_trading h]
    refine ⟨fun tag ms hl => ?_, fun p hp h1 => due (mem_timersDue.2 (.inl ⟨p, hp, h1, rfl⟩)), fun n sl hsl => ?_,
      fun p hp hh h1 => due (mem_timersDue.2 (.inr (.inl ⟨p, hp, ⟨hh, h1⟩, rfl⟩))), fun tp tr htr => ?_,
      fun tp => tabGet_tabMap_none (.inr (oneMsOn_entries s)),
      fun p hp hf h1 => due (mem_timersDue.2 (.inr (.inr (.inl ⟨p, hp, ⟨hf, h1⟩, rfl⟩)))),
      fun v hv => ⟨?_, fun hc h1 => due (mem_timersDue.2 (.inr (.inr (.inr (.inl ⟨⟨v, hv, hc, h1⟩, rfl⟩)))))⟩,
      fun hv => ?_, fun p hp ha hover => List.mem_append_right _ (mem_silenceDue hp ha hover), rfl,
      fun h1 => due (mem_timersDue.2 (.inr (.inr (.inr (.inr ⟨h1, rfl⟩)))))⟩
    · rw [oneMsOn_lives, tabGet_tabMap, hl]
      rfl
    · rw [getSlot, oneMsOn_slots, tabGet_tabMap]
      exact congrArg _ hsl
    · rw [oneMsOn_entries, tabGet_tabMap, htr]
      rfl
    · rw [oneMsOn_view, hv]
      rfl
    · rw [oneMsOn_view, hv]
      rfl

end Sys2Proof
end

section
/-! The end of an OPEN hold, as equations: released, expired or captured (R33, R35, R38). -/
namespace Sys2Proof.Machine

section
variable {s : State} {gp tag a place : Nat} {gr : Grant} {c : Card}

theorem grantTag_of (h : gr.body = .hold tag a .isOpen) : grantTag gr = some tag := by rw [grantTag, h]

theorem grantAmount_of (h : gr.body = .hold tag a .isOpen) : grantAmount gr = a := by rw [grantAmount, h]

theorem grantOpen_of (h : gr.body = .hold tag a .isOpen) : grantOpen gr = true := by rw [grantOpen, h]

theorem withHoldState_of (h : gr.body = .hold tag a .isOpen) (st : HoldState) :
    withHoldState gr st = { gr with body := .hold tag a st } := by rw [withHoldState, h]

/-- The custody and request tables once an OPEN hold has ended, `back` of it returned to the card (R33, R35, R38). -/
def recordsEnded (st : HoldState) (back gp : Nat) (gr : Grant) (tag a place : Nat) (c : Card) (s : State) : State :=
  { s with
    custody := { s.custody with cards := tabPut s.custody.cards place (cardEnded (openPeriod s) a back c) }
    requests := ⟨tabPut s.requests.grants gp { gr with body := .hold tag a st }, tabDel s.requests.lives tag,
      s.requests.deferred.filter fun x => x ≠ tag, s.requests.lapsing.filter fun x => x ≠ tag⟩ }

theorem endHold_eq (hb : gr.body = .hold tag a .isOpen) (hf : findCard s gr.serial = some (place, c)) (st : HoldState)
    (back : Nat) :
    endHold gp gr st back s =
      (recordsEnded st back gp gr tag a place c s,
        [.card place (cardEnded (openPeriod s) a back c), .grant gp { gr with body := .hold tag a st }]) := by
  unfold endHold
  rw [hf, grantTag_of hb, grantAmount_of hb, withHoldState_of hb]
  rfl

/-! ### Released or expired (R35, R38) -/

/-- A hold that ends with its whole g returned, and the frame of the two records. -/
theorem acceptFrame_endHold (hb : gr.body = .hold tag a .isOpen) (hf : findCard s gr.serial = some (place, c))
    (hfree : frameFree s = true) (fm : FrameFormat) (st : HoldState) (k : Continuation) :
    acceptFrame fm (endHold gp gr st (grantAmount gr) s).2 [] k (endHold gp gr st (grantAmount gr) s).1 =
      { recordsEnded st a gp gr tag a place c s with
        control := withFrame fm
          [.card place (cardEnded (openPeriod s) a a c), .grant gp { gr with body := .hold tag a st }] [] k s } := by
  rw [endHold_eq hb hf, grantAmount_of hb]
  dsimp only
  rw [acceptFrame_eq (s := s)]
  · rfl
  · exact hfree
  · rfl

theorem releaseHold_eq (hb : gr.body = .hold tag a .isOpen) (hf : findCard s gr.serial = some (place, c))
    (hfree : frameFree s = true) (k : Continuation) :
    releaseHold gp gr k s = reexamine gr.requester { recordsEnded .released a gp gr tag a place c s with
      control := withFrame .holdSettle
        [.card place (cardEnded (openPeriod s) a a c), .grant gp { gr with body := .hold tag a .released }] [] k s } := by
  unfold releaseHold
  dsimp only
  rw [acceptFrame_endHold hb hf hfree]

theorem expireHold_eq (hb : gr.body = .hold tag a .isOpen) (hf : findCard s gr.serial = some (place, c))
    (hfree : frameFree s = true) :
    expireHold gp gr s = reexamine gr.requester (holdEnded .holdExpire .expired gp gr tag a place c s) := by
  unfold expireHold expireEntry
  dsimp only
  rw [acceptFrame_endHold hb hf hfree]
  rfl

/-! ### Captured (R33, R36) -/

/-- A booking into the generation of a period changes that generation's row. -/
theorem book_of {t : State} {side : Side} {p : Nat} (hp : t.positions = s.positions) (hg : generationOf s p = some side)
    (j : Nat) (ch : Row → Row) :
    book p j ch t = ({ t with positions := (putRow side j (ch (readRow s side p j)) s).positions },
      [.row side j (ch (readRow s side p j))]) := by
  have hrow : readRow t side p j = readRow s side p j := by
    unfold readRow rowsOf
    rw [hp]
  have hgen : generationOf t p = some side := by
    rw [← hg]
    unfold generationOf openPeriod closingSide
    rw [hp]
  unfold book
  rw [hgen]
  dsimp only
  rw [hrow, putRow_eq hp]

/-- A capture: card, liability, entry, row, journal entry and frame, handed to the clearing unit. -/
theorem captureHold_eq {side : Side} (hb : gr.body = .hold tag a .isOpen) (hf : findCard s gr.serial = some (place, c))
    (hg : generationOf s gr.period = some side) (hfree : frameFree s = true) (x : Nat) (own : Bool) (d : Draft)
    (k : Continuation) :
    captureHold gp gr x own d k s = reexamine gr.requester { recordsEnded (.captured x) (a - x) gp gr tag a place c s with
      custody := ⟨tabPut s.custody.cards place (cardEnded (openPeriod s) a (a - x) c), s.custody.locks,
        s.custody.liability - x⟩
      positions := (putRow side gr.requester (captureBooking own x (readRow s side gr.period gr.requester)) s).positions
      journal := claimedJournal s
      notices := claimedNotices s
      control := withFrame .holdSettle
        [.card place (cardEnded (openPeriod s) a (a - x) c), .grant gp { gr with body := .hold tag a (.captured x) },
          .row side gr.requester (captureBooking own x (readRow s side gr.period gr.requester)),
          .journal [⟨s.journal.next, d.kind, d.period, d.body⟩]]
        [writePoint s.journal] k s } := by
  unfold captureHold
  rw [endHold_eq hb hf, grantAmount_of hb]
  dsimp only
  rw [book_of (s := s) (hg := hg), claim_one]
  dsimp only
  rw [acceptFrame_eq (s := s)]
  · rfl
  · rfl
  · exact hfree
  · rfl
  · rfl

theorem clampCapture_eq (g x : Nat) : clampCapture g x = min x g := by
  unfold clampCapture
  split <;> omega

/-! ### The life of a hold (R38, R39) -/

/-- An OPEN hold and its remaining life. -/
theorem openLife_eq {life : Nat} (hh : findHold s tag = some (gp, gr)) (hb : gr.body = .hold tag a .isOpen)
    (hl : tabGet s.requests.lives tag = some life) : openLife s tag = some ((gp, gr), life) := by
  unfold openLife
  rw [hh, hl]
  exact if_pos (grantOpen_of hb)

theorem exec_holdExpiry {life : Nat} (ht : s.station = .trading) (h : openLife s tag = some ((gp, gr), life)) :
    exec (.holdExpiry tag) s =
      .next (if life ≠ 0 then if frameFree s then expireHold gp gr s else holdBack tag s else s) := by
  show execHoldExpiry tag s = _
  unfold execHoldExpiry
  rw [h]
  simp only [isTrading_iff.2 ht, true_and]
  rfl

theorem exec_heldBackExpiry {life : Nat} (ht : s.station = .trading) (h : openLife s tag = some ((gp, gr), life)) :
    exec (.heldBackExpiry tag) s = .next (if life = 0 ∧ frameFree s = true then expireHold gp gr s else s) := by
  show execHeldBackExpiry tag s = _
  unfold execHeldBackExpiry
  rw [h]
  simp only [isTrading_iff.2 ht, true_and]
  rfl

/-! ### Releases that wait, and the counter step (R37, R85, R166) -/

theorem releasePending_of (h : s.requests.deferred.contains tag = true ∨ s.requests.lapsing.contains tag = true) :
    releasePending s tag = true := (Bool.or_eq_true _ _).mpr h

/-- The release that waits is made while the hold is OPEN. -/
theorem exec_deferredRelease_open (ht : s.station = .trading) (hp : releasePending s tag = true) (hfree : frameFree s = true)
    (hh : findHold s tag = some (gp, gr)) (hopen : grantOpen gr = true) :
    exec (.deferredRelease tag) s = .next (releaseHold gp gr .none s) := by
  show execDeferredRelease tag s = _
  unfold execDeferredRelease
  rw [if_pos ⟨isTrading_iff.2 ht, hp, hfree⟩, hh]
  dsimp only
  rw [if_pos hopen]
  rfl

/-- The release that waits is waited for no more once the hold has ended. -/
theorem exec_deferredRelease_ended (ht : s.station = .trading) (hp : releasePending s tag = true) (hfree : frameFree s = true)
    (h : (findHold s tag).all (fun p => !grantOpen p.2) = true) : exec (.deferredRelease tag) s = .next (undefer tag s) := by
  show execDeferredRelease tag s = _
  unfold execDeferredRelease
  rw [if_pos ⟨isTrading_iff.2 ht, hp, hfree⟩]
  cases hh : findHold s tag with
  | none => rfl
  | some p =>
    rw [hh, Option.all_some, Bool.not_eq_true'] at h
    dsimp only
    rw [if_neg (by simp [h])]
    rfl

theorem exec_deferredRelease_idle
    (h : (s.requests.deferred.contains tag = false ∧ s.requests.lapsing.contains tag = false) ∨ frameFree s = false) :
    exec (.deferredRelease tag) s = .next s := by
  show execDeferredRelease tag s = _
  unfold execDeferredRelease
  rw [if_neg]
  · rfl
  · rintro ⟨-, hp, hf⟩
    rcases h with ⟨hd, hl⟩ | h
    · rw [releasePending, hd, hl] at hp
      exact Bool.false_ne_true hp
    · exact Bool.false_ne_true (h.symm.trans hf)

theorem exec_counterStep (s : State) :
    exec .counterStep s =
      .next (if s.station = .trading ∧ (nextNumber s).2 = true ∧ frameFree s = true then takeStep s else s) := by
  show execCounterStep s = _
  unfold execCounterStep
  simp only [isTrading_iff]
  rfl

/-- A counter step raises the mark with its frame (R166). -/
theorem takeStep_eq {i : Identity} (hi : s.ident = some i) (hfree : frameFree s = true) : takeStep s = stepTaken i s := by
  unfold takeStep
  rw [hi]
  dsimp only
  rw [acceptFrame_eq (s := s)]
  · rfl
  · rfl
  · exact hfree
  · rfl

/-- The mark one step on, counting on from 1 after 65,535 (R166). -/
theorem stepMark_eq {m : Nat} (h1 : 1 ≤ m) (hm : m ≤ 65535) : stepMark m = if m ≤ 65279 then m + 256 else m - 65279 := by
  show (m + 255) % 65535 + 1 = _
  split <;> omega

end

end Sys2Proof.Machine

namespace Sys2Proof
open Sys2Proof.Machine

/-- Settles O46: the hold that expires by its life and the frame area. -/
theorem expiryReturnsTheHold : Obligations.ExpiryReturnsTheHold := by
  intro s tag gp a place life gr c trading hh hb hl hf
  have hlife := openLife_eq hh hb hl
  have expired : frameFree s = true → expireHold gp gr s =
      reexamine gr.requester (holdEnded .holdExpire .expired gp gr tag a place c s) := expireHold_eq hb hf
  refine ⟨fun left => ⟨fun hfree => ?_, fun full => ?_, ?_⟩, fun out => ⟨?_, fun hfree => ?_, fun full => ?_⟩⟩
  · rw [exec_holdExpiry trading hlife, if_pos left, if_pos hfree, expired hfree]
  · rw [exec_holdExpiry trading hlife, if_pos left, if_neg (by simp [full])]
    rfl
  · rw [exec_heldBackExpiry trading hlife, if_neg fun h => left h.1]
  · rw [exec_holdExpiry trading hlife, if_neg (not_not.2 out)]
  · rw [exec_heldBackExpiry trading hlife, if_pos ⟨out, hfree⟩, expired hfree]
  · rw [exec_heldBackExpiry trading hlife, if_neg (by simp [full])]

/-- Settles O48: the release that waits by the hold found, the counter step by its own equation. -/
theorem waitingWorkTakesAFrameSlot : Obligations.WaitingWorkTakesAFrameSlot := by
  intro s i tag gp a place gr c trading
  refine ⟨fun waits hfree => ⟨fun hh hb hf => ?_, fun ended => ?_⟩, exec_deferredRelease_idle, fun hi needed hfree => ?_,
    fun idle => ?_, fun m => stepMark_eq⟩
  · rw [exec_deferredRelease_open trading (releasePending_of waits) hfree hh (grantOpen_of hb), releaseHold_eq hb hf hfree]
    rfl
  · rw [exec_deferredRelease_ended trading (releasePending_of waits) hfree ended]
    rfl
  · rw [exec_counterStep, if_pos ⟨trading, needed, hfree⟩, takeStep_eq hi hfree]
    rfl
  · rw [exec_counterStep, if_neg]
    rintro ⟨-, needed, hfree⟩
    rcases idle with h | h
    · exact Bool.false_ne_true (h.symm.trans needed)
    · exact Bool.false_ne_true (h.symm.trans hfree)

end Sys2Proof
end

section
/-! SETTLE_REQ (R24, R32 to R35). -/
namespace Sys2Proof.Machine

section
variable {s : State} {f : LinkFrame} {rest : List LinkFrame} {x : Int} {serial amount tag a gp : Nat} {gr : Grant}

theorem exec_settleReq (ht : s.station = .trading) (hrx : s.link.rx = f :: rest) (h : raisesNothing f s = true)
    {act : SettleAction} (hp : f.payload = .settleReq act tag serial amount) :
    exec .settleReq s = .next (serveSettleReq f (extendStamp (openPeriod s) f.stamp) (taken rest s)) :=
  served_eq ht hrx h (by rw [hp]; rfl)

/-! ### The hold a frame names -/

theorem serveSettleReq_zero (hp : f.payload = .settleReq .capture tag serial 0) : serveSettleReq f x s = s := by
  unfold serveSettleReq
  rw [hp]
  rfl

theorem serveSettleReq_capture_gone (hp : f.payload = .settleReq .capture tag serial amount) (ha : 1 ≤ amount)
    (hs : findSettled s f.src tag serial x = none) :
    serveSettleReq f x s = offerAnswer f.src f.reqNo (.settleAns .tooLate .capture 0) s := by
  unfold serveSettleReq
  rw [hp]
  dsimp only
  rw [if_neg (Nat.ne_of_gt ha), hs]

theorem serveSettleReq_capture (hp : f.payload = .settleReq .capture tag serial amount) (ha : 1 ≤ amount)
    (hs : findSettled s f.src tag serial x = some (gp, gr)) :
    serveSettleReq f x s = serveCapture f gp gr amount s := by
  unfold serveSettleReq
  rw [hp]
  dsimp only
  rw [if_neg (Nat.ne_of_gt ha), hs]

theorem serveSettleReq_release_gone (hp : f.payload = .settleReq .release tag serial amount)
    (hs : findSettled s f.src tag serial x = none) :
    serveSettleReq f x s = offerAnswer f.src f.reqNo (.settleAns .done .release 0) s := by
  unfold serveSettleReq
  rw [hp]
  dsimp only
  rw [hs]

theorem serveSettleReq_release (hp : f.payload = .settleReq .release tag serial amount)
    (hs : findSettled s f.src tag serial x = some (gp, gr)) :
    serveSettleReq f x s = serveRelease f gp gr s := by
  unfold serveSettleReq
  rw [hp]
  dsimp only
  rw [hs]

/-! ### CAPTURE -/

theorem serveCapture_open (hb : gr.body = .hold tag a .isOpen) (hfree : frameFree s = true) :
    serveCapture f gp gr amount s = captureHold gp gr (min amount a) false
      ⟨.captureHome, gr.period,
        .plain { card := some (ownCard s gr.serial), amount := some (min amount a), counterpart := some f.src,
                 tag := some tag, reqNo := some f.reqNo }⟩
      (.answer f.src f.reqNo (.settleAns .done .capture (min amount a))) s := by
  unfold serveCapture
  rw [hb]
  dsimp only
  rw [if_pos hfree, clampCapture_eq]

theorem serveCapture_full (hb : gr.body = .hold tag a .isOpen) (full : frameFree s = false) :
    serveCapture f gp gr amount s = s := by
  unfold serveCapture
  rw [hb]
  dsimp only
  rw [if_neg (by simp [full])]

theorem serveCapture_captured {y : Nat} (hb : gr.body = .hold tag a (.captured y)) :
    serveCapture f gp gr amount s = settleAnswer f gp (.settleAns .done .capture y) s := by
  unfold serveCapture
  rw [hb]

theorem serveCapture_tooLate (hb : gr.body = .hold tag a .released ∨ gr.body = .hold tag a .expired) :
    serveCapture f gp gr amount s = settleAnswer f gp (.settleAns .tooLate .capture 0) s := by
  unfold serveCapture
  rcases hb with hb | hb <;> rw [hb]

/-! ### RELEASE -/

theorem serveRelease_open (hb : gr.body = .hold tag a .isOpen) (hfree : frameFree s = true) :
    serveRelease f gp gr s = releaseHold gp gr (.answer f.src f.reqNo (.settleAns .done .release a)) s := by
  unfold serveRelease
  rw [if_pos (grantOpen_of hb), if_pos hfree, grantAmount_of hb]

theorem serveRelease_full (hb : gr.body = .hold tag a .isOpen) (full : frameFree s = false) :
    serveRelease f gp gr s = s := by
  unfold serveRelease
  rw [if_pos (grantOpen_of hb), if_neg (by simp [full])]

theorem serveRelease_ended (h : grantOpen gr = false) :
    serveRelease f gp gr s = settleAnswer f gp (.settleAns .done .release 0) s := by
  unfold serveRelease
  rw [if_neg (by simp [h])]

/-- A settlement that changes nothing is answered at once, or behind the pending frames that write the entry (R32). -/
theorem settleAnswer_answers {p : Payload} (ht : s.station = .trading)
    (h : exec .settleReq s = .next (settleAnswer f gp p (taken rest s))) :
    (unstored (writesGrant gp) s = [] → answersAtOnce .settleReq f rest p s) ∧
    (unstored (writesGrant gp) s ≠ [] → answersLater .settleReq f rest p (unstored (writesGrant gp) s) s) := by
  refine ⟨fun hnone => answersAtOnce_of ht (h.trans ?_), fun hsome => answersLater_of hsome h⟩
  have hnone : unstored (writesGrant gp) (taken rest s) = [] := hnone
  rw [settleAnswer, hnone]
  rfl

end

end Sys2Proof.Machine

namespace Sys2Proof
open Sys2Proof.Machine

/-- Settles O39: the hold the frame names is found or not, and served by its state. -/
theorem settleRequestIsServed : Obligations.SettleRequestIsServed := by
  refine ⟨fun s f rest serial amount tag a gp gr place c trading hrx hraises hs hb hf => ?_,
    fun s f rest serial amount tag trading hrx hraises => ⟨fun hp => ?_, fun hgone => ⟨fun hp least => ?_, fun hp => ?_⟩,
      fun gp gr hs hended => ?_⟩⟩
  · have hsrc : gr.requester = f.src := (findSettled_spec hs).2.1
    have capture (hp : f.payload = .settleReq .capture tag serial amount) (least : 1 ≤ amount) :
        exec .settleReq s = .next (serveCapture f gp gr amount (taken rest s)) := by
      rw [exec_settleReq trading hrx hraises hp, serveSettleReq_capture (s := taken rest s) hp least hs]
    have release (hp : f.payload = .settleReq .release tag serial amount) :
        exec .settleReq s = .next (serveRelease f gp gr (taken rest s)) := by
      rw [exec_settleReq trading hrx hraises hp, serveSettleReq_release (s := taken rest s) hp hs]
    refine ⟨fun side hp least hfree hgen _ => ?_, fun hp hfree => ?_, fun hp full => ?_⟩
    · rw [capture hp least, serveCapture_open (s := taken rest s) hb hfree,
        captureHold_eq (s := taken rest s) hb hf hgen hfree, ← hsrc]
      exact ⟨_, rfl, rfl, rfl, rfl, rfl, rfl, rfl, rfl, rowBecomes_of (s := s) (u := taken rest s) rfl rfl, ⟨rfl, rfl⟩,
        rfl, rfl, rfl⟩
    · rw [release hp, serveRelease_open (s := taken rest s) hb hfree, releaseHold_eq (s := taken rest s) hb hf hfree, ← hsrc]
      exact ⟨_, rfl, rfl, rfl, rfl, rfl, rfl, rfl, rfl, rfl, rfl, rfl⟩
    · have full : frameFree (taken rest s) = false := full
      rcases hp with hp | hp
      · rcases Nat.eq_zero_or_pos amount with rfl | least
        · exact (exec_settleReq trading hrx hraises hp).trans (by rw [serveSettleReq_zero hp]; rfl)
        · exact (capture hp least).trans (by rw [serveCapture_full hb full]; rfl)
      · exact (release hp).trans (by rw [serveRelease_full hb full]; rfl)
  · exact (exec_settleReq trading hrx hraises hp).trans (by rw [serveSettleReq_zero hp]; rfl)
  · apply answersAtOnce_of trading
    rw [exec_settleReq trading hrx hraises hp, serveSettleReq_capture_gone (s := taken rest s) hp least hgone]
  · apply answersAtOnce_of trading
    rw [exec_settleReq trading hrx hraises hp, serveSettleReq_release_gone (s := taken rest s) hp hgone]
  · have answers {act : SettleAction} {p : Payload} (hp : f.payload = .settleReq act tag serial amount)
        (h : serveSettleReq f (extendStamp (openPeriod s) f.stamp) (taken rest s) = settleAnswer f gp p (taken rest s)) :=
      settleAnswer_answers trading ((exec_settleReq trading hrx hraises hp).trans (congrArg _ h))
    have released (hp : f.payload = .settleReq .release tag serial amount) :=
      answers hp ((serveSettleReq_release (s := taken rest s) hp hs).trans (serveRelease_ended hended))
    have captured {a x : Nat} (hp : f.payload = .settleReq .capture tag serial amount) (least : 1 ≤ amount)
        (hb : gr.body = .hold tag a (.captured x)) :=
      answers hp ((serveSettleReq_capture (s := taken rest s) hp least hs).trans (serveCapture_captured hb))
    have late {a : Nat} (hp : f.payload = .settleReq .capture tag serial amount) (least : 1 ≤ amount)
        (hb : gr.body = .hold tag a .released ∨ gr.body = .hold tag a .expired) :=
      answers hp ((serveSettleReq_capture (s := taken rest s) hp least hs).trans (serveCapture_tooLate hb))
    exact ⟨fun hnone => ⟨fun hp => (released hp).1 hnone, fun _ _ hp least hb => (captured hp least hb).1 hnone,
        fun _ hp least hb => (late hp least hb).1 hnone⟩,
      fun hsome => ⟨fun hp => (released hp).2 hsome, fun _ _ hp least hb => (captured hp least hb).2 hsome,
        fun _ hp least hb => (late hp least hb).2 hsome⟩⟩

end Sys2Proof
end

section
/-! COMPLETE and CANCEL of an own hold (R36, R37). -/
namespace Sys2Proof.Machine

section
variable {s : State} {slot amount tag a gp place : Nat} {sl : Slot} {h : HoldRef} {gr : Grant} {c : Card}

/-! ### A slot that stands on a hold -/

theorem heldOwn_eq (hh : heldSlot s slot = some (sl, h)) (hown : sl.card.ss = ownStation s) : heldOwn s slot = true := by
  rw [heldOwn_of_heldSlot hh]
  exact isOwn_of hown

/-- A HELD till slot of a TRADING station passes its checks (R65). -/
theorem heldChecks_eq (ht : s.station = .trading) (hn : slot < 8) (hh : heldSlot s slot = some (sl, h))
    (cs : List (Bool × PortStatus)) : firstFail (heldChecks s slot ++ cs) = firstFail cs :=
  (firstFail_trading ht).trans <| firstFail_of_pass (decide_eq_true hn) <| firstFail_of_pass (by rw [hh]; rfl) rfl

/-- The state with a HELD slot SETTLING (R65). -/
def settling (slot : Nat) (sl : Slot) (op : Operation) (amount : Nat) (s : State) : State :=
  putSlot slot (settlingSlot sl op amount) s

/-- A slot that is SETTLING shows its outcome, and the clearing unit examines the card's row (R65). -/
theorem setOutcome_settling (op : Operation) (amount : Nat) (o : OutcomeRec) (s : State) :
    setOutcome slot o (settling slot sl op amount s) = reexamine sl.card.ss { s with
      slots := tabPut s.slots slot (slotOutcome { sl with op := op, amount := amount } o)
      notices := postNotice ⟨.slotOutcome, .number slot, outcomeCode o.code⟩ s.notices } := by
  have hget : getSlot (settling slot sl op amount s) slot = some (settlingSlot sl op amount) := tabGet_tabPut_self _ _ _
  unfold setOutcome slotLeft
  rw [hget]
  dsimp only
  rw [if_pos (show onHold (settlingSlot sl op amount) = true from rfl)]
  simp only [writeOutcome, postSlot, post, settling, putSlot, tabPut_tabPut, slotOutcome, settlingSlot]

/-- A settlement whose outcome its slot shows at once, before the clearing unit examines the own row (R36, R37, R65). -/
theorem settlesAtOnce_of {x : Instr} {op : Operation} {o : OutcomeRec} (hown : sl.card.ss = ownStation s)
    (hx : exec x s = .next (accepted [] (setOutcome slot o (settling slot sl op amount s)))) :
    ∃ t0, exec x s = .next (accepted [] (reexamine (ownStation s) t0)) ∧
      slotBecomes slot (some (slotOutcome { sl with op := op, amount := amount } o)) s t0 ∧ postsSlot slot o.code s t0 ∧
      { t0 with slots := s.slots, notices := s.notices } = s := by
  rw [setOutcome_settling, hown] at hx
  exact ⟨_, hx, rfl, rfl, rfl⟩

/-- A settlement that changes no record shows its outcome at once, or behind the pending frames that write the entry (R36,
R37, R164). -/
theorem settles_of {x : Instr} {op : Operation} {o : OutcomeRec} (hown : sl.card.ss = ownStation s)
    (hx : exec x s = .next (accepted [] (outcomeAfter (unstored (writesGrant gp) (settling slot sl op amount s)) slot o
      (settling slot sl op amount s)))) :
    (unstored (writesGrant gp) s = [] →
      ∃ t0, exec x s = .next (accepted [] (reexamine (ownStation s) t0)) ∧
        slotBecomes slot (some (slotOutcome { sl with op := op, amount := amount } o)) s t0 ∧ postsSlot slot o.code s t0 ∧
        { t0 with slots := s.slots, notices := s.notices } = s) ∧
    (unstored (writesGrant gp) s ≠ [] →
      waitsForOutcome x slot (settlingSlot sl op amount) (unstored (writesGrant gp) s) o s) := by
  refine ⟨fun hnone => settlesAtOnce_of hown ?_, fun hsome => waitsForOutcome_of hsome hx⟩
  have hnone : unstored (writesGrant gp) (settling slot sl op amount s) = [] := hnone
  rw [hx, hnone]
  rfl

/-! ### COMPLETE -/

/-- An own COMPLETE that passes the port's checks is the home's to decide (R36). -/
theorem exec_ownComplete (ht : s.station = .trading) (hn : slot < 8) (hh : heldSlot s slot = some (sl, h))
    (hown : sl.card.ss = ownStation s) (hleast : 1 ≤ amount) (hmost : amount ≤ h.g) (hfree : frameFree s = true) :
    exec (.complete slot amount) s =
      .next (accepted [] (completeOwn slot sl h amount (settling slot sl .complete amount s))) := by
  have checks : firstFail (completeChecks slot amount s) = none := by
    unfold completeChecks
    rw [List.append_assoc, heldChecks_eq ht hn hh, if_pos (heldOwn_eq hh hown)]
    exact firstFail_of_pass (by simp [hh, hleast, hmost]) (firstFail_of_pass hfree rfl)
  show execComplete slot amount s = _
  unfold execComplete
  rw [checkedCommand_run _ (not_held_of_trading ht) checks]
  unfold runComplete
  rw [hh]
  dsimp only
  rw [if_pos (isOwn_of hown)]
  rfl

theorem completeOwn_gone (hs : findSettled s (ownStation s) h.tag sl.card.serial h.period = none) :
    completeOwn slot sl h amount s = setOutcome slot (ownOutcome s .captureRefused sl.card) s := by
  unfold completeOwn
  rw [hs]

theorem completeOwn_open (hs : findSettled s (ownStation s) h.tag sl.card.serial h.period = some (gp, gr))
    (hb : gr.body = .hold tag a .isOpen) (hf : findCard s sl.card.serial = some (place, c)) :
    completeOwn slot sl h amount s = captureHold gp gr (min amount a) true
      ⟨.captureOwn, gr.period,
        .plain { card := some sl.card, amount := some (min amount a), tag := some tag, tillRef := sl.tillRef }⟩
      (.slotOutcome slot none none
        ⟨.captured, min amount a, sl.card, some (c.available + (a - min amount a)), none, none, 0⟩) s := by
  unfold completeOwn
  rw [hs]
  dsimp only
  rw [hb, availableOf, hf]
  dsimp only
  rw [clampCapture_eq]
  rfl

theorem completeOwn_captured {x : Nat} (hs : findSettled s (ownStation s) h.tag sl.card.serial h.period = some (gp, gr))
    (hb : gr.body = .hold tag a (.captured x)) :
    completeOwn slot sl h amount s =
      outcomeAfter (unstored (writesGrant gp) s) slot { ownOutcome s .captured sl.card with amount := x } s := by
  unfold completeOwn
  rw [hs]
  dsimp only
  rw [hb]

theorem completeOwn_refused (hs : findSettled s (ownStation s) h.tag sl.card.serial h.period = some (gp, gr))
    (hb : gr.body = .hold tag a .released ∨ gr.body = .hold tag a .expired) :
    completeOwn slot sl h amount s =
      outcomeAfter (unstored (writesGrant gp) s) slot (ownOutcome s .captureRefused sl.card) s := by
  unfold completeOwn
  rw [hs]
  dsimp only
  rcases hb with hb | hb <;> rw [hb]

/-! ### CANCEL -/

/-- An own CANCEL that passes the port's checks is the home's to decide (R37). -/
theorem exec_ownCancel (ht : s.station = .trading) (hn : slot < 8) (hh : heldSlot s slot = some (sl, h))
    (hown : sl.card.ss = ownStation s) (hfree : frameFree s = true) :
    exec (.cancel slot) s = .next (accepted [] (cancelOwn slot sl h (settling slot sl .cancel sl.amount s))) := by
  have checks : firstFail (cancelChecks slot s) = none := by
    unfold cancelChecks
    rw [heldChecks_eq ht hn hh, if_pos (heldOwn_eq hh hown)]
    exact firstFail_of_pass hfree rfl
  show execCancel slot s = _
  unfold execCancel
  rw [checkedCommand_run _ (not_held_of_trading ht) checks]
  unfold runCancel
  rw [hh]
  dsimp only
  rw [if_pos (isOwn_of hown)]
  rfl

theorem cancelOwn_gone (hs : findSettled s (ownStation s) h.tag sl.card.serial h.period = none) :
    cancelOwn slot sl h s = setOutcome slot (ownOutcome s .released sl.card) s := by
  unfold cancelOwn
  rw [hs]

theorem cancelOwn_open (hs : findSettled s (ownStation s) h.tag sl.card.serial h.period = some (gp, gr))
    (hb : gr.body = .hold tag a .isOpen) (hf : findCard s sl.card.serial = some (place, c)) :
    cancelOwn slot sl h s = releaseHold gp gr
      (.slotOutcome slot none none ⟨.released, 0, sl.card, some (c.available + a), none, none, 0⟩) s := by
  unfold cancelOwn
  rw [hs]
  dsimp only
  rw [if_pos (grantOpen_of hb), grantAmount_of hb, availableOf, hf]
  rfl

theorem cancelOwn_ended (hs : findSettled s (ownStation s) h.tag sl.card.serial h.period = some (gp, gr))
    (hended : grantOpen gr = false) :
    cancelOwn slot sl h s = outcomeAfter (unstored (writesGrant gp) s) slot (ownOutcome s .released sl.card) s := by
  unfold cancelOwn
  rw [hs]
  dsimp only
  rw [if_neg (by simp [hended])]

end

end Sys2Proof.Machine

namespace Sys2Proof
open Sys2Proof.Machine

/-- Settles O14: the port's checks passed, the home settles the hold by the state it finds it in. -/
theorem ownCompleteCaptures : Obligations.OwnCompleteCaptures := by
  intro s slot amount sl h trading named held own least most hfree
  have completed := exec_ownComplete trading named held own least most hfree
  refine ⟨fun gp gr tag a place c side hs hb hf hgen => ?_, fun hgone => ?_, fun gp gr tag a x hs hb => ?_,
    fun gp gr tag a hs hb => ?_⟩
  · obtain ⟨-, hq, hserial, -⟩ := findSettled_spec hs
    rw [completed, completeOwn_open (s := settling slot sl .complete amount s) hs hb (hserial ▸ hf),
      captureHold_eq (s := settling slot sl .complete amount s) hb hf hgen hfree, ← hq]
    exact ⟨_, rfl, rfl, rfl, rfl, rfl, rfl, rfl, rfl,
      rowBecomes_of (s := s) (u := settling slot sl .complete amount s) rfl rfl, rfl, ⟨rfl, rfl⟩, rfl, rfl⟩
  · rw [completeOwn_gone (s := settling slot sl .complete amount s) hgone] at completed
    exact settlesAtOnce_of own completed
  · rw [completeOwn_captured (s := settling slot sl .complete amount s) hs hb] at completed
    exact settles_of own completed
  · rw [completeOwn_refused (s := settling slot sl .complete amount s) hs hb] at completed
    exact settles_of own completed

/-- Settles O15: the port's checks passed, the home releases the hold or finds it ended. -/
theorem ownCancelReleases : Obligations.OwnCancelReleases := by
  intro s slot sl h trading named held own hfree
  have cancelled := exec_ownCancel trading named held own hfree
  refine ⟨fun gp gr tag a place c hs hb hf => ?_, fun hgone => ?_, fun gp gr hs hended => ?_⟩
  · obtain ⟨-, hq, hserial, -⟩ := findSettled_spec hs
    rw [cancelled, cancelOwn_open (s := settling slot sl .cancel sl.amount s) hs hb (hserial ▸ hf),
      releaseHold_eq (s := settling slot sl .cancel sl.amount s) hb hf hfree, ← hq]
    exact ⟨_, rfl, rfl, rfl, rfl, rfl, rfl, rfl, rfl, rfl, rfl, rfl⟩
  · rw [cancelOwn_gone (s := settling slot sl .cancel sl.amount s) hgone] at cancelled
    exact settlesAtOnce_of own cancelled
  · rw [cancelOwn_ended (s := settling slot sl .cancel sl.amount s) hs hended] at cancelled
    exact settles_of own cancelled

end Sys2Proof
end

section
/-! The checks of a new hold in order, its amount, and the grant (R25, R28 to R30). -/
namespace Sys2Proof.Machine

section
variable {s : State} {q n amount place : Nat} {part : Bool} {c : Card}

/-! ### The checks of a hold -/

theorem holdChecks_unknown (hf : findCard s n = none) : firstFail (holdChecks s q n amount) = some .unknownCard :=
  firstFail_of_fail (by rw [hf]; rfl)

theorem holdChecks_frozen (hf : findCard s n = some (place, c)) (hz : cardFrozen s c = true) :
    firstFail (holdChecks s q n amount) = some .frozen :=
  firstFail_of_pass (by rw [hf]; rfl) (firstFail_of_fail (by simp [hf, hz]))

/-- A known card that is not frozen leaves two checks. -/
theorem holdChecks_known (hf : findCard s n = some (place, c)) (hz : cardFrozen s c = false) :
    firstFail (holdChecks s q n amount) =
      firstFail [(grantCount s < grantPlaces && openHolds s < openHoldLimit && decide (c.openHolds < cardHoldLimit)
          && !insideReserve s && frameFree s, Reason.busy),
        (decide (captureFigure s q + openHeld s q + amount ≤ figureLimit), .limit)] := by
  refine firstFail_of_pass (by rw [hf]; rfl) (firstFail_of_pass (by simp [hf, hz]) ?_)
  rw [hf]
  rfl

theorem holdChecks_busy (hf : findCard s n = some (place, c)) (hz : cardFrozen s c = false)
    (h : 1024 ≤ grantCount s ∨ 256 ≤ openHolds s ∨ 4 ≤ c.openHolds ∨ freeCount s.journal ≤ 512 ∨
      16 ≤ s.control.frames.length) :
    firstFail (holdChecks s q n amount) = some .busy := by
  refine (holdChecks_known hf hz).trans (firstFail_of_fail ?_)
  rcases h with h | h | h | h | h
  · rw [decide_eq_false (Nat.not_lt.2 h : ¬ grantCount s < grantPlaces)]
    rfl
  · simp [decide_eq_false (Nat.not_lt.2 h : ¬ openHolds s < openHoldLimit)]
  · simp [decide_eq_false (Nat.not_lt.2 h : ¬ c.openHolds < cardHoldLimit)]
  · simp [insideReserve_iff.2 h]
  · simp [frameFree_eq_false_iff.2 h]

/-- There is room for one more hold of a card: in the request table, among the OPEN holds and those of the card, in the
journal and in the frame area (R28). -/
structure HoldRoom (c : Card) (s : State) : Prop where
  grants : grantCount s < 1024
  holds : openHolds s < 256
  card : c.openHolds < 4
  reserve : 512 < freeCount s.journal
  frames : frameFree s = true

theorem holdChecks_room (hf : findCard s n = some (place, c)) (hz : cardFrozen s c = false) (room : HoldRoom c s) :
    firstFail (holdChecks s q n amount) =
      firstFail [(decide (captureFigure s q + openHeld s q + amount ≤ figureLimit), Reason.limit)] := by
  refine (holdChecks_known hf hz).trans (firstFail_of_pass ?_ rfl)
  have grants : grantCount s < grantPlaces := room.grants
  have holds : openHolds s < openHoldLimit := room.holds
  have card : c.openHolds < cardHoldLimit := room.card
  rw [decide_eq_true grants, decide_eq_true holds, decide_eq_true card, insideReserve_eq_false_iff.2 room.reserve,
    room.frames]
  rfl

theorem holdChecks_limit (hf : findCard s n = some (place, c)) (hz : cardFrozen s c = false) (room : HoldRoom c s)
    (h : 999999999999 < captureFigure s q + openHeld s q + amount) :
    firstFail (holdChecks s q n amount) = some .limit :=
  (holdChecks_room hf hz room).trans (firstFail_of_fail (decide_eq_false (Nat.not_le.2 h)))

theorem holdChecks_pass (hf : findCard s n = some (place, c)) (hz : cardFrozen s c = false) (room : HoldRoom c s)
    (h : captureFigure s q + openHeld s q + amount ≤ 999999999999) : firstFail (holdChecks s q n amount) = none :=
  (holdChecks_room hf hz room).trans (firstFail_of_pass (decide_eq_true h) rfl)

/-! ### The amount (R29) -/

theorem holdAmount_some {available amt : Nat} (h : (amount ≤ available ∧ amt = amount) ∨
      (available < amount ∧ part = true ∧ 1 ≤ available ∧ amt = available)) :
    holdAmount available amount part = some (if amount ≤ available then .granted else .partially, amt) := by
  unfold holdAmount
  rcases h with ⟨hle, rfl⟩ | ⟨hlt, rfl, hpos, rfl⟩
  · rw [if_pos hle, if_pos hle]
  · rw [if_neg (Nat.not_le.2 hlt), if_neg (Nat.not_le.2 hlt), if_pos (by simp [hpos])]

theorem holdAmount_none {available : Nat} (hlt : available < amount) (h : part = false ∨ available = 0) :
    holdAmount available amount part = none := by
  unfold holdAmount
  rw [if_neg (Nat.not_le.2 hlt), if_neg]
  rcases h with rfl | rfl <;> simp

/-! ### The grant (R25, R30) -/

/-- A hold that is granted: identity record, card, entry, life and frame. -/
theorem grantHold_eq {i : Identity} (hi : s.ident = some i) (hfree : frameFree s = true) (q : Nat) (r : Option Nat)
    (place : Nat) (c : Card) (g : Nat) (k : Nat → Continuation) :
    grantHold q r place c g k s =
      { s with
        ident := some { i with tagCounter := freshTag s }
        custody := { s.custody with cards := tabPut s.custody.cards place (cardGranted (openPeriod s) g c) }
        requests := { s.requests with
          grants := tabPut s.requests.grants (freeGrantPlace s)
            ⟨q, r, c.serial, openPeriod s, .hold (freshTag s) g .isOpen⟩
          lives := tabPut s.requests.lives (freshTag s) (holdLifeMs s) }
        control := withFrame .holdGrant
          [.card place (cardGranted (openPeriod s) g c),
            .grant (freeGrantPlace s) ⟨q, r, c.serial, openPeriod s, .hold (freshTag s) g .isOpen⟩,
            .identity { i with tagCounter := freshTag s }] [] (k (freshTag s)) s } := by
  unfold grantHold
  rw [hi]
  dsimp only
  rw [acceptFrame_eq (s := s)]
  · rfl
  · rfl
  · exact hfree
  · rfl

end

end Sys2Proof.Machine
end

section
/-! REDEEM of an own card (R25, R28 to R31). -/
namespace Sys2Proof.Machine

section
variable {s : State} {i : Identity} {slot amount place : Nat} {card : CardId} {part : Bool} {ref : Option Nat} {c : Card}

/-- The slot of a REDEEM under way (R31). -/
def redeemSlot (card : CardId) (amount : Nat) (part : Bool) (ref : Option Nat) : Slot :=
  { newSlot .authorising .redeem card amount ref with allowPartial := part }

/-- An own REDEEM that passes the port's checks is the home's to decide (R31). -/
theorem exec_ownRedeem (ht : s.station = .trading) (hi : s.ident = some i) (hn : slot < 8) (hfree : getSlot s slot = none)
    (hv : cardValid card = true) (hown : card.ss = i.station) (hleast : 1 ≤ amount) (hmost : amount ≤ 9999999)
    (reserve : 512 < freeCount s.journal) :
    exec (.redeem slot card amount part ref) s =
      .next (accepted [] (decideOwnRedeem slot card amount part (putSlot slot (redeemSlot card amount part ref) s))) := by
  have own : isOwn s card = true := isOwn_of (by rw [ownStation_eq hi, hown])
  have range : amountInRange amount = true := Bool.and_eq_true_iff.2 ⟨decide_eq_true hleast, decide_eq_true hmost⟩
  have checks : firstFail (redeemChecks slot card amount s) = none := by
    unfold redeemChecks
    rw [List.append_assoc, newWorkChecks_eq ht hn hfree, if_pos own]
    exact firstFail_of_pass hv <| firstFail_of_pass range <|
      firstFail_of_pass (by rw [insideReserve_eq_false_iff.2 reserve]; rfl) rfl
  show execRedeem slot card amount part ref s = _
  unfold execRedeem
  rw [checkedCommand_run _ (not_held_of_trading ht) checks]
  unfold runRedeem
  dsimp only
  rw [if_pos own]
  rfl

theorem decideOwnRedeem_declined {r : Reason}
    (h : firstFail (holdChecks s (ownStation s) card.serial amount) = some r) :
    decideOwnRedeem slot card amount part s = setOutcome slot (ownDeclined s card r) s := by
  unfold decideOwnRedeem
  rw [h]

theorem decideOwnRedeem_insufficient (h : firstFail (holdChecks s (ownStation s) card.serial amount) = none)
    (hf : findCard s card.serial = some (place, c)) (ha : holdAmount c.available amount part = none) :
    decideOwnRedeem slot card amount part s = setOutcome slot (ownDeclined s card .insufficient) s := by
  unfold decideOwnRedeem
  rw [h, hf]
  dsimp only
  rw [ha]

theorem decideOwnRedeem_granted {how : HoldAnswer} {g : Nat}
    (h : firstFail (holdChecks s (ownStation s) card.serial amount) = none)
    (hf : findCard s card.serial = some (place, c)) (ha : holdAmount c.available amount part = some (how, g)) :
    decideOwnRedeem slot card amount part s =
      grantHold (ownStation s) none place c g
        (fun tag => .slotOutcome slot none (some ⟨tag, openPeriod s, g⟩)
          ⟨grantCode how, g, card, some (c.available - g), none, none, 0⟩) s := by
  unfold decideOwnRedeem
  rw [h, hf]
  dsimp only
  rw [ha]
  rfl

/-- The figure an own capture books into (R31). -/
theorem captureFigure_own (hi : s.ident = some i) : captureFigure s i.station = (openRow s i.station).own.ro :=
  if_pos (ownStation_eq hi).symm

theorem ownHoldChecks_pass {n : Nat} (hi : s.ident = some i) (hf : findCard s n = some (place, c))
    (hz : cardFrozen s c = false) (room : HoldRoom c s)
    (h : (openRow s i.station).own.ro + openHeld s i.station + amount ≤ 999999999999) :
    firstFail (holdChecks s (ownStation s) n amount) = none := by
  rw [← captureFigure_own hi] at h
  rw [ownStation_eq hi]
  exact holdChecks_pass hf hz room h

theorem ownHoldChecks_limit {n : Nat} (hi : s.ident = some i) (hf : findCard s n = some (place, c))
    (hz : cardFrozen s c = false) (room : HoldRoom c s)
    (h : 999999999999 < (openRow s i.station).own.ro + openHeld s i.station + amount) :
    firstFail (holdChecks s (ownStation s) n amount) = some .limit := by
  rw [← captureFigure_own hi] at h
  rw [ownStation_eq hi]
  exact holdChecks_limit hf hz room h

theorem grantCode_ite (p : Prop) [Decidable p] :
    grantCode (if p then .granted else .partially) = if p then .approved else .partially := by split <;> rfl

end

end Sys2Proof.Machine

namespace Sys2Proof
open Sys2Proof.Machine

/-- Settles O13: the port's checks passed, the home grants the hold or declines it with the first reason. -/
theorem ownRedeemIsDecided : Obligations.OwnRedeemIsDecided := by
  refine ⟨fun s i slot a card part ref p c amt trading hi named free valid hown least most reserve hf hfrozen grants holds
    cardHolds frames limit hamt => ?_, fun s i slot a card part ref trading hi named free valid hown least most reserve => ?_⟩
  · have own : ownStation (putSlot slot (redeemSlot card a part ref) s) = i.station := ownStation_eq hi
    have room : HoldRoom c (putSlot slot (redeemSlot card a part ref) s) := ⟨grants, holds, cardHolds, reserve, frames⟩
    rw [exec_ownRedeem trading hi named free valid hown least most reserve,
      decideOwnRedeem_granted (s := putSlot slot (redeemSlot card a part ref) s)
        (ownHoldChecks_pass hi hf hfrozen room limit) hf (holdAmount_some hamt),
      grantHold_eq (s := putSlot slot (redeemSlot card a part ref) s) hi frames, own, grantCode_ite]
    exact ⟨_, rfl, rfl, rfl, rfl, rfl, rfl, rfl, rfl, rfl, rfl, rfl, rfl, rfl⟩
  · have decided := exec_ownRedeem (part := part) (ref := ref) trading hi named free valid hown least most reserve
    have declined {r : Reason} (h : firstFail (holdChecks (putSlot slot (redeemSlot card a part ref) s)
        (ownStation (putSlot slot (redeemSlot card a part ref) s)) card.serial a) = some r) :
        declinesSlot (.redeem slot card a part ref) slot (redeemSlot card a part ref) r s :=
      declinesSlot_of rfl (by rw [decided, decideOwnRedeem_declined h]; rfl)
    refine ⟨fun hf => declined (holdChecks_unknown hf), fun p c hf => ⟨fun hz => declined (holdChecks_frozen hf hz),
      fun hz => ⟨fun full => declined (holdChecks_busy hf hz (full.imp_right (Or.imp_right (Or.imp_right .inr)))),
        fun ⟨grants, holds, cardHolds, frames⟩ => ?_⟩⟩⟩
    have room : HoldRoom c (putSlot slot (redeemSlot card a part ref) s) :=
      ⟨grants, holds, cardHolds, reserve, frameFree_iff.2 frames⟩
    refine ⟨fun above => declined (ownHoldChecks_limit hi hf hz room above),
      fun limit short least => declinesSlot_of rfl ?_⟩
    rw [decided, decideOwnRedeem_insufficient (s := putSlot slot (redeemSlot card a part ref) s)
      (ownHoldChecks_pass hi hf hz room limit) hf (holdAmount_none short least)]
    rfl

end Sys2Proof
end

section
/-! HOLD_REQ (R24 to R30). -/
namespace Sys2Proof.Machine

section
variable {s : State} {f : LinkFrame} {rest : List LinkFrame} {x : Int} {n a p : Nat} {part : Bool} {c : Card}

theorem exec_holdReq (ht : s.station = .trading) (hrx : s.link.rx = f :: rest) (h : raisesNothing f s = true)
    (hp : f.payload = .holdReq n a part) :
    exec .holdReq s = .next (serveHoldReq f (extendStamp (openPeriod s) f.stamp) (taken rest s)) :=
  served_eq ht hrx h (by rw [hp]; rfl)

theorem serveHoldReq_zero (hp : f.payload = .holdReq n 0 part) : serveHoldReq f x s = s := by
  unfold serveHoldReq
  rw [hp]
  rfl

theorem serveHoldReq_admit (hp : f.payload = .holdReq n a part) (ha : 1 ≤ a) (hx : periodCheck x s = s) :
    serveHoldReq f x s = admitHold f x n a part s := by
  unfold serveHoldReq
  rw [hp]
  dsimp only
  rw [if_neg (Nat.ne_of_gt ha), hx]

theorem admitHold_period (h : x ≠ openPeriod s) : admitHold f x n a part s = declineHold f .period s := by
  unfold admitHold
  rw [if_pos]
  simp [periodEqual, h]

theorem admitHold_again {gp : Nat} {gr : Grant} (h : x = openPeriod s)
    (hr : findHoldRepeat s f.src f.reqNo n = some (gp, gr)) :
    admitHold f x n a part s = answerAfter (unstored (grantFrameOf gp) s) f.src f.reqNo (grantAgain gr a) s := by
  unfold admitHold
  rw [if_neg (by simp [periodEqual, h]), hr]

theorem admitHold_new (h : x = openPeriod s) (hr : findHoldRepeat s f.src f.reqNo n = none) :
    admitHold f x n a part s = decideHold f n a part s := by
  unfold admitHold
  rw [if_neg (by simp [periodEqual, h]), hr]

theorem decideHold_declined {r : Reason} (h : firstFail (holdChecks s f.src n a) = some r) :
    decideHold f n a part s = declineHold f r s := by
  unfold decideHold
  rw [h]

theorem decideHold_insufficient (h : firstFail (holdChecks s f.src n a) = none) (hf : findCard s n = some (p, c))
    (ha : holdAmount c.available a part = none) : decideHold f n a part s = declineHold f .insufficient s := by
  unfold decideHold
  rw [h, hf]
  dsimp only
  rw [ha]

theorem decideHold_granted {how : HoldAnswer} {g : Nat} (h : firstFail (holdChecks s f.src n a) = none)
    (hf : findCard s n = some (p, c)) (ha : holdAmount c.available a part = some (how, g)) :
    decideHold f n a part s = grantHold f.src (some f.reqNo) p c g
      (fun tag => .answer f.src f.reqNo (.holdAns how g tag none)) s := by
  unfold decideHold
  rw [h, hf]
  dsimp only
  rw [ha]

end

end Sys2Proof.Machine

namespace Sys2Proof
open Sys2Proof.Machine

/-- Settles O38: the frame is admitted by its period and as a repeat or not, then decided by the checks and the amount. -/
theorem holdRequestIsDecided : Obligations.HoldRequestIsDecided := by
  refine ⟨fun s i f rest n a part p c amt trading hi hrx hp now least hrep hf hfrozen grants holds cardHolds reserve frames
    limit hamt => ?_, fun s f rest n a part trading hrx hp hraises => ?_⟩
  · have checks : firstFail (holdChecks (taken rest s) f.src n a) = none :=
      holdChecks_pass (s := taken rest s) hf hfrozen ⟨grants, holds, cardHolds, reserve, frames⟩ limit
    have admitted := serveHoldReq_admit (s := taken rest s) hp least (periodCheck_eq (.inl (Int.le_of_eq now)))
    rw [exec_holdReq trading hrx (raisesNothing_of_eq now) hp, admitted, admitHold_new (s := taken rest s) now hrep,
      decideHold_granted (s := taken rest s) checks hf (holdAmount_some hamt), grantHold_eq (s := taken rest s) hi frames]
    exact ⟨_, rfl, rfl, rfl, rfl, rfl, rfl, rfl, rfl, rfl, rfl, rfl, rfl⟩
  · have served := exec_holdReq trading hrx hraises hp
    have declined {r : Reason} (h : serveHoldReq f (extendStamp (openPeriod s) f.stamp) (taken rest s) =
        declineHold f r (taken rest s)) : answersAtOnce .holdReq f rest (.holdAns .declined 0 0 (some r)) s :=
      answersAtOnce_of trading (by rw [served, h]; rfl)
    refine ⟨fun hz => ?_, fun least hper => declined ?_, fun least now => ?_⟩
    · subst hz
      exact served.trans (by rw [serveHoldReq_zero hp]; rfl)
    · have hcheck : periodCheck (extendStamp (openPeriod s) f.stamp) (taken rest s) = taken rest s :=
        periodCheck_eq (hper.imp Int.le_of_lt And.right)
      rw [serveHoldReq_admit hp least hcheck, admitHold_period]
      show _ ≠ (openPeriod s : Int)
      omega
    · have admitted := serveHoldReq_admit (s := taken rest s) hp least (periodCheck_eq (.inl (Int.le_of_eq now)))
      refine ⟨fun gp gr hrep => ?_, fun hrep => ?_⟩
      · have again := admitted.trans (admitHold_again (s := taken rest s) now hrep)
        refine ⟨fun hnone => answersAtOnce_of trading ?_, fun hsome => answersLater_of hsome (served.trans ?_)⟩
        · have hnone : unstored (grantFrameOf gp) (taken rest s) = [] := hnone
          rw [served, again, hnone]
          rfl
        · rw [again]
          rfl
      · have decided := admitted.trans (admitHold_new (s := taken rest s) now hrep)
        have fails {r : Reason} (h : firstFail (holdChecks (taken rest s) f.src n a) = some r) :=
          declined (decided.trans (decideHold_declined h))
        refine ⟨fun hf => fails (holdChecks_unknown (s := taken rest s) hf), fun p c hf =>
          ⟨fun hz => fails (holdChecks_frozen (s := taken rest s) hf hz), fun hz =>
            ⟨fun full => fails (holdChecks_busy (s := taken rest s) hf hz full),
              fun grants holds cardHolds reserve frames => ?_⟩⟩⟩
        have room : HoldRoom c (taken rest s) := ⟨grants, holds, cardHolds, reserve, frames⟩
        refine ⟨fun above => fails (holdChecks_limit (s := taken rest s) hf hz room above), fun limit short left => ?_⟩
        have checks := holdChecks_pass (s := taken rest s) hf hz room limit
        exact declined (decided.trans (decideHold_insufficient (s := taken rest s) checks hf (holdAmount_none short left)))

end Sys2Proof
end

section
/-! The station state, the link and the close view in step: what an operation may do that keeps the laws of the link, of the
station and of the close (R63, R89, R94, R98, R106, R110, R167, R169, R171). -/

namespace Sys2Proof.Machine

/-- The three laws that tie the link, the fault code, START's values and the close view to the station state. -/
def Agree (s : State) : Prop := LinkLaw s ∧ StationLaw s ∧ CloseLaw s

/-- `t` follows `s`: the station state and what stands with it stays, and the laws of the link and of the close go through. -/
structure Steady (s t : State) : Prop where
  station : t.station = s.station
  fault : t.fault = s.fault
  left : t.leftStored = s.leftStored
  conf : t.conf = s.conf
  ident : s.ident.isSome = true → t.ident.isSome = true
  link : LinkLaw s → LinkLaw t
  close : CloseLaw s → CloseLaw t

/-- All that the three laws read of a state. -/
def bearings (s : State) :
    (StationState × Option FaultCode × Nat × Option StartConf × Option Identity) × Link × GenRec × Nat × Option CloseView :=
  ((s.station, s.fault, s.leftStored, s.conf, s.ident), s.link, s.positions.gen, s.positions.target, s.positions.view)

section
variable {s t u : State}

theorem Steady.refl (s : State) : Steady s s := ⟨rfl, rfl, rfl, rfl, id, id, id⟩

theorem Steady.trans (h : Steady s t) (k : Steady t u) : Steady s u where
  station := k.station.trans h.station
  fault := k.fault.trans h.fault
  left := k.left.trans h.left
  conf := k.conf.trans h.conf
  ident := k.ident ∘ h.ident
  link := k.link ∘ h.link
  close := k.close ∘ h.close

theorem Steady.agree (h : Steady s t) (ha : Agree s) : Agree t := by
  obtain ⟨hl, hs, hc⟩ := ha
  refine ⟨h.link hl, ⟨?_, ?_, ?_⟩, h.close hc⟩
  · rw [h.station, h.fault]
    exact hs.fault
  · rw [h.station, h.left]
    exact hs.left
  · rw [h.station, h.conf]
    exact fun ht => ⟨(hs.conf ht).1, h.ident (hs.conf ht).2⟩

/-- The link of a TRADING station stands under no law but its room. -/
theorem linkLaw_of_trading (h : s.station = .trading) : LinkLaw s :=
  ⟨fun hd => by simp [h] at hd, fun hh => by simp [h] at hh⟩

/-- The law of the close reads the station state, the generation record, the target and the view. -/
theorem CloseLaw.congr (h : CloseLaw s) (hst : t.station = s.station) (hg : t.positions.gen = s.positions.gen)
    (ht : t.positions.target = s.positions.target) (hv : t.positions.view = s.positions.view) : CloseLaw t where
  view := by rw [hv, hg]; exact h.view
  held := by rw [hst, hv, hg]; exact h.held
  deadline := by rw [hv]; exact h.deadline
  target := by rw [hg, ht]; exact h.target

theorem LinkLaw.congr (h : LinkLaw s) (hst : t.station = s.station) (hl : t.link = s.link) : LinkLaw t where
  down := by rw [hst, hl]; exact h.down
  halted := by rw [hst, hl]; exact h.halted

theorem Steady.of_bearings (h : bearings t = bearings s) : Steady s t := by
  simp only [bearings, Prod.mk.injEq] at h
  obtain ⟨⟨h1, h2, h3, h4, h5⟩, hl, hg, ht, hv⟩ := h
  exact ⟨h1, h2, h3, h4, by rw [h5]; exact id, fun l => l.congr h1 hl, fun c => c.congr h1 hg ht hv⟩

/-- A change of the link alone, by a TRADING station. -/
theorem steady_link (l : Link) (h : s.station = .trading) : Steady s { s with link := l } where
  __ := Steady.refl s
  link := fun _ => linkLaw_of_trading h
  close := fun c => c.congr rfl rfl rfl rfl

theorem steady_ident (i : Identity) (s : State) : Steady s { s with ident := some i } where
  __ := Steady.refl s
  ident := fun _ => rfl
  link := fun l => l.congr rfl rfl
  close := fun c => c.congr rfl rfl rfl rfl

/-- What follows at every step of a list follows over the whole list. -/
theorem Steady.foldl {α : Type} {f : State → α → State} (l : List α) (h : ∀ a ∈ l, ∀ t, Steady s t → Steady t (f t a)) :
    Steady s (l.foldl f s) := by
  suffices ∀ t, Steady s t → Steady s (l.foldl f t) from this s (.refl s)
  induction l with
  | nil => exact fun t ht => ht
  | cons a l ih =>
    exact fun t ht => ih (fun b hb => h b (List.mem_cons_of_mem a hb)) _ (ht.trans (h a List.mem_cons_self t ht))

/-- A choice between a change and none. -/
theorem Steady.ite {c : Prop} [Decidable c] (h : c → Steady s t) (k : ¬ c → Steady s u) :
    Steady s (if c then t else u) := by
  split
  · exact h ‹_›
  · exact k ‹_›

/-! ### Frames, claims and offers -/

theorem acceptFrame_steady (fm : FrameFormat) (ts : List Target) (ps : List Nat) (c : Continuation) (s : State) :
    Steady s (acceptFrame fm ts ps c s) := .of_bearings (by simp [bearings])

theorem claim_steady (ds : List Draft) (s : State) : Steady s (claim ds s).2 := .of_bearings (by simp [bearings])

theorem putRow_steady (sd : Side) (j : Nat) (r : Row) (s : State) : Steady s (putRow sd j r s) := by
  cases sd <;> exact .of_bearings rfl

theorem book_steady (p j : Nat) (ch : Row → Row) (s : State) : Steady s (book p j ch s).1 := by
  unfold book
  split
  · exact putRow_steady _ _ _ s
  · exact .refl s

theorem txPush_steady (f : TxFrame) (h : s.station = .trading) : Steady s (txPush f s) := steady_link _ h

theorem offerPresence_steady (s : State) : Steady s (offerPresence s) := by
  unfold offerPresence
  refine .ite (fun h => ?_) fun _ => .refl s
  have timer : Steady s { s with link := { s.link with presenceTimer := presencePeriod } } := steady_link _ h
  exact .ite (fun _ => timer) fun _ => .ite (fun _ => timer.trans (txPush_steady _ h)) fun _ => timer

theorem offerAnswer_steady (d n : Nat) (p : Payload) (s : State) : Steady s (offerAnswer d n p s) :=
  .ite (fun h => txPush_steady _ h.1) fun _ => .refl s

theorem offerRequest_steady (p : Nat) (t : Track) (h : s.station = .trading) : Steady s (offerRequest p t s) :=
  .ite (fun _ => (txPush_steady _ h).trans (.of_bearings rfl)) fun _ => .of_bearings rfl

theorem offerRequestOf_steady (home n : Nat) (s : State) : Steady s (offerRequestOf home n s) := by
  unfold offerRequestOf
  split
  · exact .ite (fun _ => .refl s) fun h => offerRequest_steady _ _ (Decidable.not_not.1 (not_or.1 h).2)
  · exact .refl s

theorem placePosition_steady (j p : Nat) (s : State) : Steady s (placePosition j p s) :=
  .ite (fun h => txPush_steady _ h.1) fun _ => .refl s

theorem callSend_steady (j : Nat) (s : State) : Steady s (callSend j s) := by
  rcases callSend_cases j s with ⟨-, h⟩ | ⟨-, -, h⟩ | ⟨-, -, h⟩ <;> rw [h]
  · exact .of_bearings rfl
  · exact .of_bearings rfl
  · exact placePosition_steady _ _ s

theorem callSendPresent_steady (j : Nat) (s : State) : Steady s (callSendPresent j s) :=
  .ite (fun _ => callSend_steady j s) fun _ => .refl s

theorem postAfter_steady (ns : List Nat) (n : NoticeRec) (s : State) : Steady s (postAfter ns n s) := by
  cases ns <;> exact .of_bearings rfl

/-! ### The close view -/

/-- The view of a close under way is rewritten, and a close whose completion has run is given no deadline (R98, R110). -/
theorem setView_steady {v w : CloseView} (h : s.positions.view = some v)
    (hd : (v.completed = true → v.deadline = none) → w.completed = true → w.deadline = none) : Steady s (setView w s) where
  __ := Steady.refl s
  link := fun l => l.congr rfl rfl
  close := fun c =>
    { view := fun _ => c.view (by rw [h]; rfl)
      held := fun _ _ => rfl
      deadline := fun x hx hc => by
        cases hx
        exact hd (c.deadline v h) hc
      target := c.target }

theorem setCloseRow_steady (j : Nat) (c : CloseRow) (s : State) : Steady s (setCloseRow j c s) := by
  unfold setCloseRow
  split
  · next h => exact setView_steady h id
  · exact .refl s

theorem leavePending_steady (j : Nat) (s : State) : Steady s (leavePending j s) := by
  unfold leavePending
  dsimp only
  split
  · refine .ite (fun _ => (setCloseRow_steady _ _ s).trans (callSendPresent_steady _ _)) fun _ => ?_
    exact ((setCloseRow_steady _ _ s).trans (postAfter_steady _ _ _)).trans (callSendPresent_steady _ _)
  · exact .ite (fun _ => setCloseRow_steady _ _ s) fun _ =>
      (setCloseRow_steady _ _ s).trans (callSendPresent_steady _ _)

theorem examineRow_steady (j : Nat) (s : State) : Steady s (examineRow j s) := by
  unfold examineRow
  split
  · exact .refl s
  · next h =>
    refine .ite (fun _ => .refl s) fun _ => .ite (fun _ => ?_) fun _ => ?_
    · exact .ite (fun _ => setView_steady h id) fun _ => .refl s
    · refine .ite (fun _ => .refl s) fun _ => .ite (fun _ => ?_) fun _ => .refl s
      split
      · exact leavePending_steady j s
      · exact setCloseRow_steady _ _ s

theorem examineRows_steady (s : State) : Steady s (examineRows s) := .foldl _ fun j _ t _ => examineRow_steady j t

theorem runCompletion_steady {v : CloseView} (h : s.positions.view = some v) : Steady s (runCompletion s v) := by
  have framed := fun fm ts ps c => (claim_steady (statementRun s v) s).trans (acceptFrame_steady fm ts ps c _)
  exact (framed _ _ _ _).trans (setView_steady (v := v) (by simp [h]) fun _ _ => rfl)

theorem examineCompletion_steady (s : State) : Steady s (examineCompletion s) := by
  unfold examineCompletion
  split
  · next h => exact .ite (fun _ => runCompletion_steady h) fun _ => .refl s
  · exact .refl s

theorem reexamine_steady (j : Nat) (s : State) : Steady s (reexamine j s) :=
  (examineRow_steady j s).trans (examineCompletion_steady _)

theorem rosterDown_steady (j : Nat) (s : State) : Steady s (rosterDown j s) := by
  unfold rosterDown
  split
  · exact .ite (fun _ => (setCloseRow_steady _ _ s).trans (examineCompletion_steady _)) fun _ => .refl s
  · exact .refl s

/-! ### Close begin and the target -/

theorem canBegin_iff :
    canBegin s = true ↔ s.station = .trading ∧ s.positions.gen.closing = false ∧ openPeriod s ≤ s.positions.target ∧
      openPeriod s < maxPeriod ∧ insideReserve s = false ∧ frameFree s = true := by
  simp [canBegin, and_assoc]

/-- The generations move on as a close begins: the view is there for the closing generation, and the target has reached the
period that closes (R94, R97). -/
theorem closing_steady {v : CloseView} (h : canBegin s = true) (hv : v.completed = false) :
    Steady s { s with positions := { s.positions with
      gen := { s.positions.gen with
        openSide := otherSide s.positions.gen.openSide, openPeriod := openPeriod s + 1, closing := true }
      view := some v } } where
  __ := Steady.refl s
  link := fun l => l.congr rfl rfl
  close := fun _ =>
    { view := fun _ => rfl
      held := fun _ _ => rfl
      deadline := fun x hx hc => by
        cases hx
        rw [hv] at hc
        exact absurd hc Bool.false_ne_true
      target := Nat.succ_le_succ (canBegin_iff.1 h).2.2.1 }

theorem beginClose_steady (h : canBegin s = true) : Steady s (beginClose s) := by
  unfold beginClose
  exact (((closing_steady h rfl).trans (acceptFrame_steady _ _ _ _ _)).trans (examineRows_steady _)).trans
    (examineCompletion_steady _)

theorem examineBegin_steady (s : State) : Steady s (examineBegin s) :=
  .ite beginClose_steady fun _ => .refl s

theorem raiseTarget_steady (p : Nat) (s : State) : Steady s (raiseTarget p s) := by
  refine .ite (fun h => ?_) fun _ => .refl s
  have raised : Steady s { s with positions := { s.positions with target := p } } :=
    { Steady.refl s with
      link := fun l => l.congr rfl rfl
      close := fun c => { c with target := c.target.trans (Nat.succ_le_succ h.2.le) } }
  exact (raised.trans (offerPresence_steady _)).trans (examineBegin_steady _)

theorem raiseByStamp_steady (ext : Int) (s : State) : Steady s (raiseByStamp ext s) :=
  .ite (fun _ => raiseTarget_steady _ s) fun _ => .refl s

end

end Sys2Proof.Machine
end

section
/-! What follows the station state among the slots, the tracker, the waits and the home's decisions. -/

namespace Sys2Proof.Machine

section
variable {s t : State}

/-! ### Slots -/

theorem slotLeft_steady (sl : Slot) (s : State) : Steady s (slotLeft sl s) :=
  .ite (fun _ => reexamine_steady _ s) fun _ => .refl s

theorem writeOutcome_steady (n : Nat) (sl : Slot) (o : OutcomeRec) (s : State) : Steady s (writeOutcome n sl o s) :=
  .of_bearings rfl

theorem setOutcome_steady (n : Nat) (o : OutcomeRec) (s : State) : Steady s (setOutcome n o s) := by
  unfold setOutcome
  split
  · exact (writeOutcome_steady _ _ _ s).trans (slotLeft_steady _ _)
  · exact .refl s

theorem enterHeld_steady (n : Nat) (h : HoldRef) (o : OutcomeRec) (s : State) : Steady s (enterHeld n h o s) :=
  .of_bearings (by simp [bearings])

theorem cutLink_steady (x : Option Nat) (s : State) : Steady s (cutLink x s) := .of_bearings (by simp [bearings])

theorem setLink_steady (x : Option Nat) (home n : Nat) (s : State) : Steady s (setLink x home n s) :=
  .of_bearings (by simp [bearings])

theorem linkedOutcome_steady (x : Option Nat) (f : Slot → OutcomeRec) (s : State) : Steady s (linkedOutcome x f s) := by
  unfold linkedOutcome
  split
  · split
    · exact setOutcome_steady _ _ s
    · exact .refl s
  · exact .refl s

/-! ### Tracker entries -/

theorem takeStep_steady (s : State) : Steady s (takeStep s) := by
  unfold takeStep
  split
  · exact (steady_ident _ s).trans (acceptFrame_steady _ _ _ _ _)
  · exact .refl s

theorem giveNumber_steady (s : State) : Steady s (giveNumber s).2 := by
  have step : Steady s (if (nextNumber s).2 = true then takeStep s else s) :=
    .ite (fun _ => takeStep_steady s) fun _ => .refl s
  exact step.trans (.of_bearings rfl)

theorem offerOrWait_steady (home n : Nat) (s : State) : Steady s (offerOrWait home n s) := by
  unfold offerOrWait
  split
  · exact offerRequestOf_steady _ _ s
  · exact .of_bearings rfl

theorem startVolatile_steady (p : Nat) (d : TrackRec) (slot : Option Nat) (part : Bool) (s : State) :
    Steady s (startVolatile p d slot part s) := by
  have entry : Steady s (putTrack p (newTrack { d with reqNo := (giveNumber s).1 } slot part) (giveNumber s).2) :=
    (giveNumber_steady s).trans (.of_bearings rfl)
  exact (entry.trans (setLink_steady _ _ _ _)).trans (offerOrWait_steady _ _ _)

theorem startStored_steady (p : Nat) (d : TrackRec) (slot : Option Nat) (s : State) :
    Steady s (startStored p d slot s) := by
  have entry : Steady s (putTrack p (newTrack { d with reqNo := (giveNumber s).1 } slot false) (giveNumber s).2) :=
    (giveNumber_steady s).trans (.of_bearings rfl)
  exact (entry.trans (setLink_steady _ _ _ _)).trans (acceptFrame_steady _ _ _ _ _)

theorem putTrack_steady (p : Nat) (t : Track) (s : State) : Steady s (putTrack p t s) := .of_bearings rfl

theorem delTrack_steady (p : Nat) (s : State) : Steady s (delTrack p s) := .of_bearings rfl

theorem dropTrack_steady (p : Nat) (t : Track) (s : State) : Steady s (dropTrack p t s) :=
  (delTrack_steady p s).trans (reexamine_steady _ _)

theorem moveInDoubt_steady (p : Nat) (t : Track) (s : State) : Steady s (moveInDoubt p t s) :=
  .of_bearings (by simp [bearings])

/-! ### Waits -/

theorem releaseItem_steady (i : HeldItem) (s : State) : Steady s (releaseItem i s) := by
  cases i with
  | answer d n p => exact offerAnswer_steady d n p s
  | slotOutcome n o => exact setOutcome_steady n o s
  | request home n => exact offerRequestOf_steady home n s
  | positionSend j p => exact placePosition_steady j p s
  | notice n => exact .of_bearings rfl

theorem releaseWaits_steady (n : Nat) (s : State) : Steady s (releaseWaits n s) := by
  have kept (ws : List Wait) : Steady s { s with control := { s.control with waits := ws } } := .of_bearings rfl
  exact (kept _).trans (.foldl _ fun w _ t _ => releaseItem_steady w.item t)

theorem answerAfter_steady (ns : List Nat) (d n : Nat) (p : Payload) (s : State) :
    Steady s (answerAfter ns d n p s) := by
  cases ns with
  | nil => exact offerAnswer_steady d n p s
  | cons => exact .of_bearings rfl

theorem outcomeAfter_steady (ns : List Nat) (n : Nat) (o : OutcomeRec) (s : State) :
    Steady s (outcomeAfter ns n o s) := by
  cases ns with
  | nil => exact setOutcome_steady n o s
  | cons => exact .of_bearings rfl

/-! ### The home -/

theorem grantHold_steady (q : Nat) (n : Option Nat) (p : Nat) (c : Card) (g : Nat) (k : Nat → Continuation) (s : State) :
    Steady s (grantHold q n p c g k s) := by
  unfold grantHold
  split
  · exact .refl s
  · dsimp only
    refine Steady.trans ?_ (acceptFrame_steady _ _ _ _ _)
    exact (steady_ident _ s).trans (.of_bearings rfl)

theorem endHold_steady (p : Nat) (g : Grant) (st : HoldState) (b : Nat) (s : State) : Steady s (endHold p g st b s).1 :=
  .of_bearings (by simp [bearings])

theorem captureHold_steady (p : Nat) (g : Grant) (c : Nat) (own : Bool) (d : Draft) (k : Continuation) (s : State) :
    Steady s (captureHold p g c own d k s) := by
  have lowered : Steady s (lowerLiability c (endHold p g (.captured c) (grantAmount g - c) s).1) :=
    (endHold_steady _ _ _ _ s).trans (.of_bearings rfl)
  exact (((lowered.trans (book_steady _ _ _ _)).trans (claim_steady _ _)).trans (acceptFrame_steady _ _ _ _ _)).trans
    (reexamine_steady _ _)

theorem releaseHold_steady (p : Nat) (g : Grant) (k : Continuation) (s : State) : Steady s (releaseHold p g k s) :=
  ((endHold_steady _ _ _ _ s).trans (acceptFrame_steady _ _ _ _ _)).trans (reexamine_steady _ _)

theorem expireEntry_steady (p : Nat) (g : Grant) (s : State) : Steady s (expireEntry p g s) :=
  (endHold_steady _ _ _ _ s).trans (acceptFrame_steady _ _ _ _ _)

theorem expireHold_steady (p : Nat) (g : Grant) (s : State) : Steady s (expireHold p g s) :=
  (expireEntry_steady p g s).trans (reexamine_steady _ _)

theorem applyCredit_steady (q : Nat) (n : Option Nat) (p : Nat) (c : Card) (k : CreditKind) (a : Nat) (d : Draft)
    (x : Continuation) (s : State) : Steady s (applyCredit q n p c k a d x s) := by
  have credited (gp : Nat) (e : Grant) (c : Card) : Steady s (raiseLiability a (putGrant gp e (putCard p c s))) :=
    .of_bearings rfl
  exact (((credited _ _ _).trans (book_steady _ _ _ _)).trans (claim_steady _ _)).trans (acceptFrame_steady _ _ _ _ _)

theorem changeStatus_steady (p : Nat) (c : Card) (d : Draft) (x : Continuation) (s : State) :
    Steady s (changeStatus p c d x s) := .of_bearings (by simp [bearings])

end

/-! ### Commands of the till -/

/-- A command ends in a next state that follows. -/
def Steadily (s : State) (o : Host.Outcome State Fault Refusal) : Prop := ∃ t, o = .next t ∧ Steady s t

section
variable {s t : State}

theorem steadily_answer (h : Steady s t) : Steadily s (answer t) := ⟨t, rfl, h⟩

theorem reply_steady (b : List Byte) (s : State) : Steady s (reply b s) := .of_bearings rfl

theorem Steady.accepted (h : Steady s t) (fields : List Byte) : Steady s (accepted fields t) :=
  h.trans (reply_steady _ t)

theorem hostCommand_steadily {f : State → State} (h : ∀ u, Steady u (f u)) : Steadily s (hostCommand s f) := by
  unfold hostCommand
  split
  · exact steadily_answer (reply_steady _ s)
  · exact steadily_answer (h s)

theorem checkedCommand_steadily {cs : List (Bool × PortStatus)} {f : State → State} (h : ∀ u, Steady u (f u)) :
    Steadily s (checkedCommand s cs f) := by
  refine hostCommand_steadily fun u => ?_
  split
  · exact reply_steady _ u
  · exact h u

/-- A host command that samples PROTECT_N before its checks. -/
theorem protectedCommand_steadily {level : Bool} {cs : State → List (Bool × PortStatus)} {f : State → State}
    (h : ∀ t, Steady t (f t)) :
    Steadily s (hostCommand s fun s =>
      let s := sampleProtect level s
      match firstFail (cs s) with
      | some p => refuse p s
      | none => f s) := by
  refine hostCommand_steadily fun u => ?_
  have sampled : Steady u (sampleProtect level u) := .of_bearings rfl
  dsimp only
  split
  · exact sampled.trans (reply_steady _ _)
  · exact sampled.trans (h _)

theorem execClose_steadily (s : State) : Steadily s (execClose s) := by
  refine hostCommand_steadily fun u => .ite (fun _ => reply_steady _ u) fun _ => .ite (fun _ => ?_) fun _ => ?_
  · exact (raiseTarget_steady _ u).trans (reply_steady _ _)
  · exact ((raiseTarget_steady _ u).trans (examineBegin_steady _)).accepted _

theorem runIssue_steady (slot a : Nat) (rel : Bool) (ref : Option Nat) (s : State) :
    Steady s (runIssue slot a rel ref s) := by
  unfold runIssue
  split
  · exact .refl s
  · dsimp only
    refine Steady.trans (((?_ : Steady s _).trans (book_steady _ _ _ _)).trans (claim_steady _ _))
      (acceptFrame_steady _ _ _ _ _)
    exact (steady_ident _ s).trans (.of_bearings rfl)

theorem decideOwnRedeem_steady (slot : Nat) (c : CardId) (a : Nat) (part : Bool) (s : State) :
    Steady s (decideOwnRedeem slot c a part s) := by
  unfold decideOwnRedeem
  split
  · exact setOutcome_steady _ _ s
  · exact setOutcome_steady _ _ s
  · split
    · exact setOutcome_steady _ _ s
    · exact grantHold_steady _ _ _ _ _ _ s

theorem putSlot_steady (n : Nat) (sl : Slot) (s : State) : Steady s (putSlot n sl s) := .of_bearings rfl

theorem runRedeem_steady (slot : Nat) (c : CardId) (a : Nat) (part : Bool) (ref : Option Nat) (s : State) :
    Steady s (runRedeem slot c a part ref s) :=
  .ite (fun _ => (putSlot_steady _ _ s).trans (decideOwnRedeem_steady _ _ _ _ _)) fun _ =>
    (putSlot_steady _ _ s).trans (startVolatile_steady _ _ _ _ _)

theorem completeOwn_steady (slot : Nat) (sl : Slot) (h : HoldRef) (a : Nat) (s : State) :
    Steady s (completeOwn slot sl h a s) := by
  unfold completeOwn
  split
  · exact setOutcome_steady _ _ s
  · split
    · exact captureHold_steady _ _ _ _ _ _ s
    · exact outcomeAfter_steady _ _ _ s
    · exact outcomeAfter_steady _ _ _ s

theorem runComplete_steady (slot a : Nat) (s : State) : Steady s (runComplete slot a s) := by
  unfold runComplete
  split
  · exact .refl s
  · exact .ite (fun _ => (putSlot_steady _ _ s).trans (completeOwn_steady _ _ _ _ _)) fun _ =>
      (putSlot_steady _ _ s).trans (startStored_steady _ _ _ _)

theorem cancelOwn_steady (slot : Nat) (sl : Slot) (h : HoldRef) (s : State) : Steady s (cancelOwn slot sl h s) := by
  unfold cancelOwn
  split
  · exact setOutcome_steady _ _ s
  · exact .ite (fun _ => releaseHold_steady _ _ _ s) fun _ => outcomeAfter_steady _ _ _ s

theorem runCancel_steady (slot : Nat) (s : State) : Steady s (runCancel slot s) := by
  unfold runCancel
  split
  · exact .refl s
  · exact .ite (fun _ => (putSlot_steady _ _ s).trans (cancelOwn_steady _ _ _ _)) fun _ =>
      (putSlot_steady _ _ s).trans (startVolatile_steady _ _ _ _ _)

theorem decideOwnCredit_steady (k : CreditKind) (slot : Nat) (c : CardId) (a : Nat) (ref : Option Nat) (s : State) :
    Steady s (decideOwnCredit k slot c a ref s) := by
  unfold decideOwnCredit
  split
  · exact setOutcome_steady _ _ s
  · exact setOutcome_steady _ _ s
  · exact applyCredit_steady _ _ _ _ _ _ _ _ s

theorem runCredit_steady (k : CreditKind) (slot : Nat) (c : CardId) (a : Nat) (ref : Option Nat) (s : State) :
    Steady s (runCredit k slot c a ref s) :=
  .ite (fun _ => (putSlot_steady _ _ s).trans (decideOwnCredit_steady _ _ _ _ _ _)) fun _ =>
    (putSlot_steady _ _ s).trans (startStored_steady _ _ _ _)

theorem runEnquire_steady (slot : Nat) (c : CardId) (s : State) : Steady s (runEnquire slot c s) :=
  .ite (fun _ => (putSlot_steady _ _ s).trans (outcomeAfter_steady _ _ _ _)) fun _ =>
    (putSlot_steady _ _ s).trans (startVolatile_steady _ _ _ _ _)

theorem decideOwnFreeze_steady (slot : Nat) (c : CardId) (s : State) : Steady s (decideOwnFreeze slot c s) := by
  unfold decideOwnFreeze
  split
  · exact changeStatus_steady _ _ _ _ s
  · exact outcomeAfter_steady _ _ _ s
  · exact outcomeAfter_steady _ _ _ s

theorem runFreeze_steady (slot : Nat) (c : CardId) (s : State) : Steady s (runFreeze slot c s) :=
  .ite (fun _ => (putSlot_steady _ _ s).trans (decideOwnFreeze_steady _ _ _)) fun _ =>
    (putSlot_steady _ _ s).trans (startVolatile_steady _ _ _ _ _)

theorem decideUnfreeze_steady (slot : Nat) (c : CardId) (ref : Option Nat) (s : State) :
    Steady s (decideUnfreeze slot c ref s) := by
  unfold decideUnfreeze
  split
  · exact setOutcome_steady _ _ s
  · split
    · exact setOutcome_steady _ _ s
    · exact changeStatus_steady _ _ _ _ s

theorem runUnfreeze_steady (slot : Nat) (c : CardId) (ref : Option Nat) (s : State) :
    Steady s (runUnfreeze slot c ref s) := (putSlot_steady _ _ s).trans (decideUnfreeze_steady _ _ _ _)

theorem runRangeLock_steady (n low high : Nat) (a : Bool) (s : State) : Steady s (runRangeLock n low high a s) := by
  have locked (ls : Tab RangeLock) : Steady s { s with custody := { s.custody with locks := ls } } := .of_bearings rfl
  exact ((locked _).trans (claim_steady _ _)).trans (acceptFrame_steady _ _ _ _ _)

/-! ### SLOT_FREE -/

theorem releaseFreed_steady (h : HoldRef) (serial : Nat) (s : State) : Steady s (releaseFreed h serial s) := by
  unfold releaseFreed
  split
  · exact .refl s
  · exact .ite (fun _ => .ite (fun _ => releaseHold_steady _ _ _ s) fun _ => .of_bearings rfl) fun _ => .refl s

theorem releaseDetached_steady (sl : Slot) (h : HoldRef) (s : State) : Steady s (releaseDetached sl h s) :=
  .ite (fun _ => startVolatile_steady _ _ _ _ s) fun _ => .refl s

theorem freedEffect_steady (sl : Slot) (s : State) : Steady s (freedEffect sl s) := by
  unfold freedEffect
  split
  · split
    · exact .of_bearings rfl
    · exact .refl s
  · split
    · refine Steady.trans ?_ (reexamine_steady _ _)
      exact .ite (fun _ => releaseFreed_steady _ _ s) fun _ => releaseDetached_steady _ _ s
    · exact .refl s
  · split
    · exact dropTrack_steady _ _ s
    · exact .refl s
  all_goals exact .refl s

theorem runSlotFree_steady (slot : Nat) (s : State) : Steady s (runSlotFree slot s) := by
  unfold runSlotFree
  split
  · exact .refl s
  · have freed : Steady s (forsake slot (freeSlot slot s)) := .of_bearings rfl
    exact freed.trans (freedEffect_steady _ _)

end

end Sys2Proof.Machine
end

section
/-! What follows the station state among the cursors, the link's events and the hand-overs. -/

namespace Sys2Proof.Machine

section
variable {s t : State}

/-! ### Cursors and notices -/

theorem putCursor_steady (n : Nat) (c : Cursor) (s : State) : Steady s (putCursor n c s) := .of_bearings rfl

theorem post_steady (k : NoticeKind) (x : Subject) (c : Nat) (s : State) : Steady s (post k x c s) := .of_bearings rfl

theorem notices_steady (u : Notices) (s : State) : Steady s { s with notices := u } := .of_bearings rfl

theorem cursorNotice_steady (n : Nat) (c : Cursor) (k : NoticeKind) (s : State) : Steady s (cursorNotice n c k s) :=
  .ite (fun _ => post_steady _ _ _ s) fun _ => .refl s

theorem endCursor_steady (n : Nat) (c : Cursor) (s : State) : Steady s (endCursor n c s) :=
  (putCursor_steady _ _ s).trans (cursorNotice_steady _ _ _ _)

theorem pauseCursor_steady (n : Nat) (c : Cursor) (s : State) : Steady s (pauseCursor n c s) :=
  (putCursor_steady _ _ s).trans (cursorNotice_steady _ _ _ _)

theorem lookNext_steady (n : Nat) (s : State) : Steady s (lookNext n s).2 := by
  unfold lookNext
  dsimp only
  split
  · unfold lookForward
    dsimp only
    split <;> exact putCursor_steady _ _ s
  · unfold lookBackward
    split
    · exact putCursor_steady _ _ s
    · exact endCursor_steady _ _ s

theorem streamOn_steady (st : CursorStream) (i : ReadItem) (s : State) : Steady s (streamOn st i s) := .of_bearings rfl

theorem streamLook_steady (st : CursorStream) (m : CursorMode) (s : State) : Steady s (streamLook st m s) := by
  have look := lookNext_steady st.cursor s
  unfold streamLook
  split <;> next he => rw [he] at look; exact look.trans (streamOn_steady _ _ _)

theorem nextRecord_steady (st : CursorStream) (s : State) : Steady s (nextRecord st s) := by
  unfold nextRecord
  refine .ite (fun _ => streamOn_steady _ _ s) fun _ => ?_
  split
  · exact streamLook_steady _ _ s
  · split
    · exact streamOn_steady _ _ s
    · exact streamLook_steady _ _ s
  · refine .ite (fun _ => ?_) fun _ => streamLook_steady _ _ s
    split <;> exact streamOn_steady _ _ s

theorem raiseMark_steady (n : Nat) (e : JournalEntry) (s : State) : Steady s (raiseMark n e s) :=
  .ite (fun _ => .of_bearings rfl) fun _ => .refl s

theorem entryRead_steady (st : CursorStream) (e : JournalEntry) (s : State) : Steady s (entryRead st e s) := by
  have marked := raiseMark_steady st.cursor e s
  unfold entryRead
  refine .ite (fun _ => (marked.trans (endCursor_steady _ _ _)).trans (nextRecord_steady _ _)) fun _ => ?_
  exact .ite (fun _ => (marked.trans (pauseCursor_steady _ _ _)).trans (nextRecord_steady _ _)) fun _ =>
    (marked.trans (putCursor_steady _ _ _)).trans (nextRecord_steady _ _)

theorem execCursorEntryRead_steadily (s : State) : Steadily s (execCursorEntryRead s) := by
  refine steadily_answer ?_
  split
  · split
    · exact entryRead_steady _ _ s
    · exact nextRecord_steady _ s
    · exact .refl s
    · exact .refl s
  · exact .refl s

theorem execCursorRecordChosen_steadily (s : State) : Steadily s (execCursorRecordChosen s) := by
  refine steadily_answer ?_
  split
  · split
    · exact nextRecord_steady _ s
    · exact nextRecord_steady _ s
    · exact nextRecord_steady _ s
    · exact .refl s
  · exact .refl s

theorem runCursorSet_steady (n i c b : Nat) (notice : Bool) (ch : Direction × EndAction × CursorMode × CursorFilter)
    (s : State) : Steady s (runCursorSet n i c b notice ch s) := by
  have marked (u : State) (m : Nat) : Steady u { u with cursors := { u.cursors with mark := m } } := .of_bearings rfl
  refine Steady.accepted (.ite (fun _ => ?_) fun _ => putCursor_steady _ _ s) _
  exact (putCursor_steady _ _ s).trans (marked _ _)

theorem execCursorSet_steadily (c i n b d e m f : Nat) (notice : Bool) (s : State) :
    Steadily s (execCursorSet c i n b d e m f notice s) := by
  refine hostCommand_steadily fun u => .ite (fun _ => reply_steady _ u) fun _ =>
    .ite (fun _ => reply_steady _ u) fun _ => ?_
  split
  · exact reply_steady _ u
  · exact runCursorSet_steady _ _ _ _ _ _ u

theorem runArchiveAck_steady (i : Nat) (s : State) : Steady s (runArchiveAck i s) := by
  have acked (j : Journal) : Steady s { s with journal := j } := .of_bearings rfl
  exact (acked _).trans (acceptFrame_steady _ _ _ _ _)

/-! ### The link's events -/

/-- The transmit queue as HALTED leaves it: nothing but the one PRESENCE (R63). -/
def presenceAlone (tx : List TxFrame) : Prop := tx.length ≤ 1 ∧ tx.all (fun f => isPresence f.payload) = true

theorem presenceAlone_cons {f g : TxFrame} {rest : List TxFrame} (h : presenceAlone (f :: rest))
    (hg : isPresence f.payload = true → isPresence g.payload = true) : presenceAlone (g :: rest) := by
  unfold presenceAlone at *
  simp only [List.all_cons, Bool.and_eq_true] at *
  exact ⟨h.1, hg h.2.1, h.2.2⟩

theorem presenceAlone_tail {f : TxFrame} {rest : List TxFrame} (h : presenceAlone (f :: rest)) : presenceAlone rest := by
  unfold presenceAlone at *
  simp only [List.all_cons, Bool.and_eq_true, List.length_cons] at *
  exact ⟨by omega, h.2.2⟩

theorem listening_iff : listening s = true ↔ s.station = .trading ∨ s.station = .halted := by simp [listening]

/-- Where the part is silent and deaf its sender is quiet (R63). -/
theorem listening_of_phase (h : LinkLaw s) (hp : s.link.phase ≠ .quiet) : listening s = true := by
  have up : ¬ (s.station = .held ∨ s.station = .recovering ∨ s.station = .idle) := fun hd => hp (h.down hd).2.2.2.1
  rw [listening_iff]
  revert up
  cases s.station <;> simp

/-- The link of a station that listens is rewritten, and a queue that holds nothing but the PRESENCE gains no other frame. -/
theorem steady_listening (l : Link) (h : LinkLaw s → listening s = true)
    (ht : presenceAlone s.link.tx → presenceAlone l.tx) : Steady s { s with link := l } where
  __ := Steady.refl s
  link := fun k =>
    { down := fun hd => by
        rcases listening_iff.1 (h k) with hs | hs <;> rw [hs] at hd <;> simp at hd
      halted := fun hh => ht (k.halted hh) }
  close := fun c => c.congr rfl rfl rfl rfl

theorem putRoster_steady (j : Nat) (e : RosterEntry) (h : listening s = true) : Steady s (putRoster j e s) :=
  steady_listening _ (fun _ => h) id

theorem tellOwner_steady (f : TxFrame) (s : State) : Steady s (tellOwner f s) := .of_bearings (by simp [bearings])

theorem execAttemptBegin_steadily (s : State) : Steadily s (execAttemptBegin s) := by
  refine steadily_answer ?_
  split
  · next f rest _ htx =>
    refine .ite (fun h => ?_) fun _ => .refl s
    refine steady_listening _ (fun _ => h) fun hp => ?_
    rw [htx] at hp
    refine presenceAlone_cons hp fun hf => ?_
    unfold filledIn
    rw [if_pos hf]
    rfl
  · exact .refl s

theorem headGone_steady (h : s.link.phase ≠ .quiet) : Steady s (headGone s) := by
  unfold headGone
  split
  · next f rest htx =>
    have gone : Steady s (withPhase .quiet [] { s with link := { s.link with tx := rest } }) :=
      steady_listening _ (listening_of_phase · h) fun hp => presenceAlone_tail (htx ▸ hp)
    exact .ite (fun _ => gone.trans (tellOwner_steady _ _)) fun _ => gone
  · exact steady_listening _ (listening_of_phase · h) id

theorem withPhase_steady (p : TxPhase) (d : List Byte) (h : s.link.phase ≠ .quiet) : Steady s (withPhase p d s) :=
  steady_listening _ (listening_of_phase · h) id

theorem execAttemptIntact_steadily (s : State) : Steadily s (execAttemptIntact s) := by
  refine steadily_answer ?_
  split
  · next h => exact headGone_steady (by rw [h]; decide)
  · next h => exact withPhase_steady _ _ (by rw [h]; decide)
  · exact .refl s
  · exact .refl s

theorem collide_steady (draw : Nat) (h : s.link.phase ≠ .quiet) : Steady s (collide draw s) := by
  unfold collide
  split
  · next f rest htx =>
    refine .ite (fun _ => ?_) fun _ => headGone_steady h
    refine steady_listening _ (listening_of_phase · h) fun hp => ?_
    rw [htx] at hp
    exact presenceAlone_cons hp id
  · exact withPhase_steady _ _ h

theorem execAttemptCollided_steadily (d : Nat) (s : State) : Steadily s (execAttemptCollided d s) := by
  refine steadily_answer ?_
  split
  · next h => exact collide_steady d (by rw [h]; decide)
  · next h => exact withPhase_steady _ _ (by rw [h]; decide)
  · exact .refl s
  · exact .refl s

theorem execBackoffEnd_steadily (s : State) : Steadily s (execBackoffEnd s) := by
  refine steadily_answer ?_
  split
  · next h => exact withPhase_steady _ _ (by rw [h]; simp)
  all_goals exact .refl s

theorem receiveFrame_steady (f : LinkFrame) (h : listening s = true) : Steady s (receiveFrame f s) := by
  have heard : Steady s (hear f.src s) := putRoster_steady _ _ h
  refine .ite (fun _ => heard.trans ?_) fun _ => heard
  exact steady_listening _ (fun _ => h) id

theorem owed_steady (cs : List Continuation) (h : s.station = .trading) :
    Steady s { s with link := { s.link with owed := cs } } := steady_link _ h

theorem offerOwed_steady (c : Continuation) (s : State) : Steady s (offerOwed c s) := by
  cases c with
  | answer d n p => exact offerAnswer_steady d n p s
  | request home n => exact offerRequestOf_steady home n s
  | none | slotOutcome | notice => exact .refl s

theorem execOwedFramePlaced_steadily (s : State) : Steadily s (execOwedFramePlaced s) := by
  refine steadily_answer (.ite (fun h => ?_) fun _ => .refl s)
  have trading := isTrading_iff.1 h
  unfold placeNextOwed
  split
  · exact owed_steady _ trading
  · exact .ite (fun _ => (owed_steady _ trading).trans (offerOwed_steady _ _)) fun _ => .refl s

theorem execSilenceTimeout_steadily (j : Nat) (s : State) : Steadily s (execSilenceTimeout j s) := by
  refine steadily_answer (.ite (fun h => ?_) fun _ => .refl s)
  exact ((putRoster_steady _ _ h.1).trans (post_steady _ _ _ _)).trans (rosterDown_steady _ _)

/-! ### Hand-overs -/

theorem handOver_steadily {kind : Payload → Bool} {take : LinkFrame → State → State}
    (h : ∀ f t, listening t = true → Steady t (take f t)) : Steadily s (handOver kind take s) := by
  refine steadily_answer ?_
  split
  · next f rest _ =>
    refine .ite (fun hl => ?_) fun _ => .refl s
    have hl : listening s = true := (Bool.and_eq_true _ _ ▸ hl).1
    have popped : Steady s { s with link := { s.link with rx := rest } } := steady_listening _ (fun _ => hl) id
    exact popped.trans (h f _ hl)
  · exact .refl s

theorem traded_steadily {kind : Payload → Bool} {serve : LinkFrame → Int → State → State}
    (h : ∀ f ext t, Steady t (serve f ext t)) : Steadily s (handOver kind (traded serve) s) :=
  handOver_steadily fun f t _ => .ite (fun _ => (raiseByStamp_steady _ t).trans (h f _ _)) fun _ => .refl t

theorem periodCheck_steady (ext : Int) (s : State) : Steady s (periodCheck ext s) :=
  .ite (fun _ => examineBegin_steady s) fun _ => .refl s

theorem decideHold_steady (f : LinkFrame) (serial a : Nat) (part : Bool) (s : State) :
    Steady s (decideHold f serial a part s) := by
  unfold decideHold
  split
  · exact offerAnswer_steady _ _ _ s
  · exact offerAnswer_steady _ _ _ s
  · split
    · exact offerAnswer_steady _ _ _ s
    · exact grantHold_steady _ _ _ _ _ _ s

theorem admitHold_steady (f : LinkFrame) (ext : Int) (serial a : Nat) (part : Bool) (s : State) :
    Steady s (admitHold f ext serial a part s) := by
  refine .ite (fun _ => offerAnswer_steady _ _ _ s) fun _ => ?_
  split
  · exact answerAfter_steady _ _ _ _ s
  · exact decideHold_steady _ _ _ _ s

theorem serveHoldReq_steady (f : LinkFrame) (ext : Int) (s : State) : Steady s (serveHoldReq f ext s) := by
  unfold serveHoldReq
  split
  · exact .ite (fun _ => .refl s) fun _ => (periodCheck_steady _ s).trans (admitHold_steady _ _ _ _ _ _)
  · exact .refl s

theorem serveCapture_steady (f : LinkFrame) (p : Nat) (g : Grant) (a : Nat) (s : State) :
    Steady s (serveCapture f p g a s) := by
  unfold serveCapture
  split
  · exact .ite (fun _ => captureHold_steady _ _ _ _ _ _ s) fun _ => .refl s
  · exact answerAfter_steady _ _ _ _ s
  · exact answerAfter_steady _ _ _ _ s

theorem serveRelease_steady (f : LinkFrame) (p : Nat) (g : Grant) (s : State) : Steady s (serveRelease f p g s) :=
  .ite (fun _ => .ite (fun _ => releaseHold_steady _ _ _ s) fun _ => .refl s) fun _ => answerAfter_steady _ _ _ _ s

theorem serveSettleReq_steady (f : LinkFrame) (ext : Int) (s : State) : Steady s (serveSettleReq f ext s) := by
  unfold serveSettleReq
  split
  · refine .ite (fun _ => .refl s) fun _ => ?_
    split
    · exact offerAnswer_steady _ _ _ s
    · exact serveCapture_steady _ _ _ _ s
  · split
    · exact offerAnswer_steady _ _ _ s
    · exact serveRelease_steady _ _ _ s
  · exact .refl s

theorem decideCredit_steady (f : LinkFrame) (k : CreditKind) (serial a : Nat) (s : State) :
    Steady s (decideCredit f k serial a s) := by
  unfold decideCredit
  split
  · exact offerAnswer_steady _ _ _ s
  · exact offerAnswer_steady _ _ _ s
  · exact applyCredit_steady _ _ _ _ _ _ _ _ s

theorem admitCredit_steady (f : LinkFrame) (ext : Int) (k : CreditKind) (serial a : Nat) (s : State) :
    Steady s (admitCredit f ext k serial a s) := by
  refine .ite (fun _ => offerAnswer_steady _ _ _ s) fun _ => ?_
  split
  · exact answerAfter_steady _ _ _ _ s
  · exact decideCredit_steady _ _ _ _ s

theorem serveCreditReq_steady (f : LinkFrame) (ext : Int) (s : State) : Steady s (serveCreditReq f ext s) := by
  unfold serveCreditReq
  split
  · exact .ite (fun _ => .refl s) fun _ => (periodCheck_steady _ s).trans (admitCredit_steady _ _ _ _ _ _)
  · exact .refl s

theorem serveStatusReq_steady (f : LinkFrame) (ext : Int) (s : State) : Steady s (serveStatusReq f ext s) := by
  unfold serveStatusReq
  split
  · exact answerAfter_steady _ _ _ _ s
  · split
    · exact answerAfter_steady _ _ _ _ s
    · exact offerAnswer_steady _ _ _ s
    · exact changeStatus_steady _ _ _ _ s
  · exact .refl s

/-! ### Answers -/

theorem takeGrant_steady (p : Nat) (t : Track) (how : HoldAnswer) (g tag : Nat) (s : State) :
    Steady s (takeGrant p t how g tag s) := by
  unfold takeGrant
  refine ((delTrack_steady p s).trans ?_).trans (reexamine_steady _ _)
  split
  · split
    · exact enterHeld_steady _ _ _ _
    · exact .refl _
  · exact .refl _

theorem releaseAbandoned_steady (p : Nat) (t : Track) (tag : Nat) (s : State) : Steady s (releaseAbandoned p t tag s) :=
  .ite (fun _ => startVolatile_steady _ _ _ _ s) fun _ => dropTrack_steady _ _ s

/-- An entry ends with an outcome for its slot, and the home's row is examined. -/
theorem entryEnded_steady (p : Nat) (t : Track) (f : Slot → OutcomeRec) (s : State) :
    Steady s (reexamine t.data.home (linkedOutcome t.slot f (delTrack p s))) :=
  ((delTrack_steady p s).trans (linkedOutcome_steady _ _ _)).trans (reexamine_steady _ _)

theorem takeHoldAns_steady (f : LinkFrame) (ext : Int) (s : State) : Steady s (takeHoldAns f ext s) := by
  unfold takeHoldAns
  split
  · exact .ite (fun _ => dropTrack_steady _ _ s) fun _ => entryEnded_steady _ _ _ s
  · exact .ite (fun _ => releaseAbandoned_steady _ _ _ s) fun _ => takeGrant_steady _ _ _ _ _ s
  · exact .refl s

theorem bookAnswer_steady (p : Nat) (t : Track) (ch : Row → Row) (d : Draft) (o : CardId → OutcomeRec) (s : State) :
    Steady s (bookAnswer p t ch d o s) := by
  have cut := (delTrack_steady p s).trans (cutLink_steady t.slot _)
  exact (((cut.trans (book_steady _ _ _ _)).trans (claim_steady _ _)).trans (acceptFrame_steady _ _ _ _ _)).trans
    (reexamine_steady _ _)

theorem refuseAnswer_steady (p : Nat) (t : Track) (o : CardId → OutcomeRec) (s : State) :
    Steady s (refuseAnswer p t o s) :=
  (((delTrack_steady p s).trans (cutLink_steady t.slot _)).trans (acceptFrame_steady _ _ _ _ _)).trans
    (reexamine_steady _ _)

theorem takeSettleAns_steady (f : LinkFrame) (ext : Int) (s : State) : Steady s (takeSettleAns f ext s) := by
  unfold takeSettleAns
  split
  · refine .ite (fun _ => .refl s) fun _ => ?_
    split
    · exact bookAnswer_steady _ _ _ _ _ s
    · exact refuseAnswer_steady _ _ _ s
  · exact entryEnded_steady _ _ _ s
  · exact .refl s

theorem takeCreditAns_steady (f : LinkFrame) (ext : Int) (s : State) : Steady s (takeCreditAns f ext s) := by
  unfold takeCreditAns
  split
  · refine .ite (fun _ => .refl s) fun _ => ?_
    split
    · exact bookAnswer_steady _ _ _ _ _ s
    · exact refuseAnswer_steady _ _ _ s
    · exact .refl s
  · exact .refl s

theorem takeStatusAns_steady (f : LinkFrame) (ext : Int) (s : State) : Steady s (takeStatusAns f ext s) := by
  unfold takeStatusAns
  split
  · exact entryEnded_steady _ _ _ s
  · exact .refl s

/-! ### PRESENCE and POSITION -/

theorem noteStation_steady (j : Nat) (halted : Bool) (p target : Nat) (h : listening s = true) :
    Steady s (noteStation j halted p target s) :=
  .ite (fun _ => putRoster_steady _ _ h) fun _ => (putRoster_steady _ _ h).trans (post_steady _ _ _ _)

theorem resendInDoubt_steady (j : Nat) (h : s.station = .trading) : Steady s (resendInDoubt j s) :=
  .foldl _ fun _ _ t ht => .ite (fun _ => offerRequest_steady _ _ (ht.station.trans h)) fun _ => .refl t

theorem resendPosition_steady (j p : Nat) (closing : Bool) (s : State) : Steady s (resendPosition j p closing s) := by
  unfold resendPosition
  split
  · exact .ite (fun _ => callSend_steady j s) fun _ => .refl s
  · exact .refl s

theorem takePresence_steady (f : LinkFrame) (h : listening s = true) : Steady s (takePresence f s) := by
  unfold takePresence
  split
  · next halted p target closing _ =>
    have noted : Steady s (noteStation f.src halted p target s) := noteStation_steady _ _ _ _ h
    refine .ite (fun ht => .ite (fun _ => noted.trans (rosterDown_steady _ _)) fun _ => ?_) fun _ => noted
    have raised := (noted.trans (raiseTarget_steady target _)).trans (raiseTarget_steady (p - 1) _)
    exact (raised.trans (resendInDoubt_steady _ (raised.station.trans (isTrading_iff.1 ht)))).trans
      (resendPosition_steady _ _ _ _)
  · exact .refl s

theorem storeMirror_steady (j : Nat) (c : CloseRow) (r : Figures) (s : State) : Steady s (storeMirror j c r s) :=
  ((putRow_steady _ _ _ s).trans (setCloseRow_steady _ _ _)).trans (acceptFrame_steady _ _ _ _ _)

theorem replyPosition_steady (j : Nat) (b : Bool) (c : CloseRow) (s : State) : Steady s (replyPosition j b c s) :=
  .ite (fun _ => callSend_steady j s) fun _ => .refl s

theorem takePosition_steady (f : LinkFrame) (ext : Int) (s : State) : Steady s (takePosition f ext s) := by
  unfold takePosition
  split
  · refine .ite (fun _ => .refl s) fun _ => .ite (fun _ => replyPosition_steady _ _ _ s) fun _ => ?_
    refine .ite (fun _ => .ite (fun _ => ?_) fun _ => .refl s) fun _ => replyPosition_steady _ _ _ s
    exact ((storeMirror_steady _ _ _ s).trans (replyPosition_steady _ _ _ _)).trans (examineCompletion_steady _)
  · exact .refl s

end

end Sys2Proof.Machine
end

section
/-! What follows the station state among the timers, the store's events and the passing of a millisecond. -/

namespace Sys2Proof.Machine

section
variable {s t : State}

/-! ### Timers -/

theorem holdBack_steady (tag : Nat) (s : State) : Steady s (holdBack tag s) := .of_bearings rfl

theorem undefer_steady (tag : Nat) (s : State) : Steady s (undefer tag s) := .of_bearings rfl

theorem execHoldExpiry_steadily (tag : Nat) (s : State) : Steadily s (execHoldExpiry tag s) := by
  refine steadily_answer ?_
  split
  · exact .ite (fun _ => .ite (fun _ => expireHold_steady _ _ s) fun _ => holdBack_steady _ s) fun _ => .refl s
  · exact .refl s

theorem execHeldBackExpiry_steadily (tag : Nat) (s : State) : Steadily s (execHeldBackExpiry tag s) := by
  refine steadily_answer ?_
  split
  · exact .ite (fun _ => expireHold_steady _ _ s) fun _ => .refl s
  · exact .refl s

theorem execHoldTimerExpiry_steadily (slot : Nat) (s : State) : Steadily s (execHoldTimerExpiry slot s) := by
  refine steadily_answer ?_
  split
  · exact .ite (fun _ => setOutcome_steady _ _ s) fun _ => .refl s
  · exact .refl s

theorem exhaust_steady (p : Nat) (t : Track) (s : State) : Steady s (exhaust p t s) := by
  unfold exhaust
  split
  · exact entryEnded_steady _ _ _ s
  · exact entryEnded_steady _ _ _ s
  · exact entryEnded_steady _ _ _ s
  · exact moveInDoubt_steady _ _ s
  · exact moveInDoubt_steady _ _ s

theorem waitOver_steady (p : Nat) (t : Track) (h : s.station = .trading) : Steady s (waitOver p t s) := by
  unfold waitOver
  split
  · exact putTrack_steady _ _ s
  · exact .ite (fun _ => offerRequest_steady _ _ h) fun _ => exhaust_steady _ _ s

theorem execAnswerWaitExpiry_steadily (home n : Nat) (s : State) : Steadily s (execAnswerWaitExpiry home n s) := by
  refine steadily_answer ?_
  split
  · exact .ite (fun h => waitOver_steady _ _ (isTrading_iff.1 h.1)) fun _ => .refl s
  · exact .refl s

theorem execInDoubtMove_steadily (home n : Nat) (s : State) : Steadily s (execInDoubtMove home n s) := by
  refine steadily_answer ?_
  split
  · exact .ite (fun _ => moveInDoubt_steady _ _ s) fun _ => .refl s
  · exact .refl s

theorem execDeferredRelease_steadily (tag : Nat) (s : State) : Steadily s (execDeferredRelease tag s) := by
  refine steadily_answer (.ite (fun _ => ?_) fun _ => .refl s)
  split
  · exact .ite (fun _ => releaseHold_steady _ _ _ s) fun _ => undefer_steady _ s
  · exact undefer_steady _ s

/-! ### The deadline -/

theorem silenceRows_steady (s : State) : Steady s (silenceRows s) := by
  refine .foldl _ fun j _ t _ => ?_
  split
  · exact .ite (fun _ => .refl t) fun _ => setCloseRow_steady _ _ t
  · exact .refl t

theorem lapseSlots_steady (p : Nat) (s : State) : Steady s (lapseSlots p s) := by
  refine .foldl _ fun e _ t _ => ?_
  split
  · exact .ite (fun _ => writeOutcome_steady _ _ _ t) fun _ => .refl t
  · exact .refl t

theorem deadlineOutcome_steady (code : OutcomeCode) (slot : Option Nat) (s : State) :
    Steady s (deadlineOutcome code slot s) := by
  unfold deadlineOutcome
  split
  · split
    · exact writeOutcome_steady _ _ _ s
    · exact .refl s
  · exact .refl s

theorem deadlineTrack_steady (p : Nat) (t : Track) (s : State) : Steady s (deadlineTrack p t s) := by
  have orphaned : Steady s
      (if t.orphan.isSome then s else post .orphaned (.work (some t.data.reqNo) (cardId t.data.home t.data.serial))
        (orphanCode t.data.kind) (deadlineOutcome .inDoubt t.slot
          (putTrack p { t with orphan := some t.data.state, slot := none, timer := none } s))) :=
    .ite (fun _ => .refl s) fun _ =>
      ((putTrack_steady _ _ s).trans (deadlineOutcome_steady _ _ _)).trans (post_steady _ _ _ _)
  unfold deadlineTrack
  split
  · exact (delTrack_steady _ s).trans (deadlineOutcome_steady _ _ _)
  · exact (delTrack_steady _ s).trans (deadlineOutcome_steady _ _ _)
  · exact (delTrack_steady _ s).trans (deadlineOutcome_steady _ _ _)
  · exact orphaned
  · exact orphaned

theorem deadlineTracks_steady (p : Nat) (s : State) : Steady s (deadlineTracks p s) :=
  .foldl _ fun _ _ t _ => .ite (fun _ => deadlineTrack_steady _ _ t) fun _ => .refl t

theorem forceExpiries_steady (p : Nat) (s : State) : Steady s (forceExpiries p s) :=
  .foldl _ fun _ _ t _ => .ite
    (fun _ => .ite (fun _ => expireEntry_steady _ _ t) fun _ => holdBack_steady _ t) fun _ => .refl t

/-- The deadline passes for a close whose completion has not run (R106, R107). -/
theorem deadlineSpent_steady (h : deadlineRuns s = true) : Steady s (deadlineSpent s) := by
  unfold deadlineSpent
  split
  · next v hv =>
    have running : v.completed = false := by
      simp only [deadlineRuns, hv, Bool.and_eq_true, Bool.not_eq_true'] at h
      exact h.2.1
    exact setView_steady hv fun _ hc => absurd hc (by simp [running])
  · exact .refl s

theorem passDeadline_steady (h : deadlineRuns s = true) : Steady s (passDeadline s) := by
  unfold passDeadline
  exact ((((((deadlineSpent_steady h).trans (silenceRows_steady _)).trans (lapseSlots_steady _ _)).trans
    (deadlineTracks_steady _ _)).trans (forceExpiries_steady _ _)).trans (examineRows_steady _)).trans
    (examineCompletion_steady _)

/-! ### Erases -/

theorem beginErase_steady (b : Nat) (s : State) : Steady s (beginErase b s) := .of_bearings rfl

theorem execEraseBegin_steadily (s : State) : Steadily s (execEraseBegin s) := by
  refine steadily_answer (.ite (fun _ => ?_) fun _ => .refl s)
  split
  · exact beginErase_steady _ s
  · exact .refl s

theorem endErase_steady (ok : Bool) (b : Nat) (s : State) : Steady s (endErase ok b s) :=
  .ite (fun _ => .of_bearings rfl) fun _ => .of_bearings rfl

theorem clearReserve_steady (n : Nat) (s : State) : Steady s (clearReserve n s) :=
  .ite (fun _ => (post_steady _ _ _ s).trans (examineBegin_steady _)) fun _ => .refl s

theorem execEraseComplete_steadily (ok : Bool) (s : State) : Steadily s (execEraseComplete ok s) := by
  refine steadily_answer ?_
  split
  · split
    · exact (endErase_steady _ _ s).trans (clearReserve_steady _ _)
    · exact (endErase_steady _ _ s).trans (clearReserve_steady _ _)
    · exact endErase_steady _ _ s
    · exact .refl s
    · exact .refl s
  · exact .refl s

/-! ### One millisecond -/

theorem eraseOn_steady (s : State) : Steady s (eraseOn s) := by
  unfold eraseOn
  split
  · exact .ite (fun _ => .of_bearings rfl) fun _ => .refl s
  · exact .refl s

theorem silencesOn_steady (h : listening s = true) : Steady s (silencesOn s) := steady_listening _ (fun _ => h) id

/-- The timers of a TRADING station go on: a deadline that has stopped stays so (R110). -/
theorem timersOn_steady (h : s.station = .trading) : Steady s (timersOn s) where
  __ := Steady.refl s
  link := fun _ => linkLaw_of_trading h
  close := fun c =>
    { view := fun hv => c.view (by simpa [timersOn] using hv)
      held := fun hs hc => by simpa [timersOn] using c.held hs hc
      deadline := fun w hw hc => by
        obtain ⟨v, hv, rfl⟩ := Option.map_eq_some_iff.1 hw
        simp [c.deadline v hv hc]
      target := c.target }

theorem tick_steady (s : State) : Steady s (tick s) := by
  have queued (u : State) (l : List Instr) : Steady u { u with pending := l } := .of_bearings rfl
  unfold tick
  split
  · exact .refl s
  · exact eraseOn_steady s
  · exact eraseOn_steady s
  · next h =>
    have silences := silencesOn_steady (listening_iff.2 (.inl h))
    exact ((silences.trans (timersOn_steady (silences.station.trans h))).trans (eraseOn_steady _)).trans (queued _ _)
  · next h => exact (silencesOn_steady (listening_iff.2 (.inr h))).trans (queued _ _)

/-! ### Every command but the events -/

theorem execStatus_steadily (b : Bool) (s : State) : Steadily s (execStatus b s) := by
  unfold execStatus
  exact hostCommand_steadily fun _ => .of_bearings rfl

theorem exec_steadily (c : Instr) (s : State) (h : ¬ isEvent c) : Steadily s (exec c s) := by
  cases c with
  | start | frameReceived | programComplete | eraseComplete | reset | resetRelease | recoveryEnd => exact absurd trivial h
  | status b => exact execStatus_steadily b s
  | close => exact execClose_steadily s
  | rosterRead => exact hostCommand_steadily fun u => reply_steady _ u
  | issue slot a rel ref => exact checkedCommand_steadily fun u => (runIssue_steady slot a rel ref u).accepted _
  | redeem slot c a part ref => exact checkedCommand_steadily fun u => (runRedeem_steady slot c a part ref u).accepted _
  | complete slot a => exact checkedCommand_steadily fun u => (runComplete_steady slot a u).accepted _
  | cancel slot => exact checkedCommand_steadily fun u => (runCancel_steady slot u).accepted _
  | topup slot c a ref => exact checkedCommand_steadily fun u => (runCredit_steady .topup slot c a ref u).accepted _
  | refund slot c a ref => exact checkedCommand_steadily fun u => (runCredit_steady .refund slot c a ref u).accepted _
  | enquire slot c => exact checkedCommand_steadily fun u => (runEnquire_steady slot c u).accepted _
  | freeze slot c => exact checkedCommand_steadily fun u => (runFreeze_steady slot c u).accepted _
  | unfreeze slot c ref b =>
    exact protectedCommand_steadily (cs := unfreezeChecks slot c b) fun t => (runUnfreeze_steady slot c ref t).accepted _
  | rangeLock n low high a b =>
    exact protectedCommand_steadily (cs := rangeLockChecks n low high a b) fun t =>
      (runRangeLock_steady n low high a t).accepted _
  | slotRead slot => exact checkedCommand_steadily fun u => reply_steady _ u
  | slotFree slot => exact checkedCommand_steadily fun u => (runSlotFree_steady slot u).accepted _
  | takeNotice =>
    refine checkedCommand_steadily fun u => ?_
    unfold runTakeNotice
    split <;> exact .of_bearings rfl
  | setMask m =>
    exact checkedCommand_steadily fun u => (notices_steady _ u).accepted _
  | positionRead g j => exact checkedCommand_steadily fun u => reply_steady _ u
  | cursorSet c i n b d e m f notice => exact execCursorSet_steadily c i n b d e m f notice s
  | cursorRead c => exact checkedCommand_steadily fun _ => .of_bearings rfl
  | archiveAck i =>
    exact checkedCommand_steadily fun u =>
      Steady.accepted (.ite (fun _ => .refl u) fun _ => runArchiveAck_steady i u) _
  | badCommand op => exact hostCommand_steadily fun u => reply_steady _ u
  | cursorEntryRead => exact execCursorEntryRead_steadily s
  | noticeRecordClocked =>
    refine steadily_answer ?_
    split
    · exact .of_bearings rfl
    · exact .refl s
  | noticesLostCleared => exact steadily_answer (.ite (fun _ => .of_bearings rfl) fun _ => .refl s)
  | presence => exact handOver_steadily fun f _ => takePresence_steady f
  | holdReq => exact traded_steadily serveHoldReq_steady
  | settleReq => exact traded_steadily serveSettleReq_steady
  | creditReq => exact traded_steadily serveCreditReq_steady
  | statusReq => exact traded_steadily serveStatusReq_steady
  | holdAns => exact traded_steadily takeHoldAns_steady
  | settleAns => exact traded_steadily takeSettleAns_steady
  | creditAns => exact traded_steadily takeCreditAns_steady
  | statusAns => exact traded_steadily takeStatusAns_steady
  | position => exact traded_steadily takePosition_steady
  | attemptBegin => exact execAttemptBegin_steadily s
  | attemptIntact => exact execAttemptIntact_steadily s
  | attemptCollided d => exact execAttemptCollided_steadily d s
  | backoffEnd => exact execBackoffEnd_steadily s
  | presenceTimer => exact steadily_answer (offerPresence_steady s)
  | owedFramePlaced => exact execOwedFramePlaced_steadily s
  | silenceTimeout j => exact execSilenceTimeout_steadily j s
  | holdExpiry n => exact execHoldExpiry_steadily n s
  | heldBackExpiry n => exact execHeldBackExpiry_steadily n s
  | holdTimerExpiry n => exact execHoldTimerExpiry_steadily n s
  | answerWaitExpiry j n => exact execAnswerWaitExpiry_steadily j n s
  | inDoubtMove j n => exact execInDoubtMove_steadily j n s
  | deferredRelease n => exact execDeferredRelease_steadily n s
  | counterStep => exact steadily_answer (.ite (fun _ => takeStep_steady s) fun _ => .refl s)
  | closeBegin => exact steadily_answer (examineBegin_steady s)
  | closeDeadline => exact steadily_answer (.ite passDeadline_steady fun _ => .refl s)
  | closeCompletion => exact steadily_answer (examineCompletion_steady s)
  | eraseBegin => exact execEraseBegin_steadily s
  | cursorRecordChosen => exact execCursorRecordChosen_steadily s

end

end Sys2Proof.Machine
end

section
/-! The commands that move the station state, and the theorem: every step keeps the three laws. -/

namespace Sys2Proof.Machine

section
variable {s t : State}

/-- A command ends in a next state that keeps the laws of link, station and close. -/
def Agreeing (s : State) (o : Host.Outcome State Fault Refusal) : Prop := ∃ t, o = .next t ∧ (Agree s → Agree t)

theorem agreeing_answer (h : Agree s → Agree t) : Agreeing s (answer t) := ⟨t, rfl, h⟩

theorem Steadily.agreeing {o : Host.Outcome State Fault Refusal} (h : Steadily s o) : Agreeing s o := by
  obtain ⟨t, ho, ht⟩ := h
  exact ⟨t, ho, ht.agree⟩

/-! ### Entry to HALTED (R63, R171) -/

theorem haltLink_presenceAlone (h : LinkLaw s) : presenceAlone (haltLink s).tx := by
  unfold haltLink
  split
  · exact ⟨Nat.le_refl 1, rfl⟩
  · next hs =>
    by_cases hh : s.station = .halted
    · exact h.halted hh
    · have down : s.station = .held ∨ s.station = .recovering ∨ s.station = .idle := by
        revert hs hh
        cases s.station <;> simp
      rw [(h.down down).1]
      exact ⟨Nat.zero_le 1, rfl⟩

theorem enterHalted_agree (code : FaultCode) (b : Bool) (h : Agree s) : Agree (enterHalted code b s) := by
  obtain ⟨hl, -, hc⟩ := h
  have not_down : ¬ (StationState.halted = .held ∨ StationState.halted = .recovering ∨ StationState.halted = .idle) := by
    decide
  exact ⟨⟨fun hd => absurd hd not_down, fun _ => haltLink_presenceAlone hl⟩,
    ⟨iff_of_true rfl rfl, fun hh => absurd rfl hh, fun ht => absurd ht (by decide : StationState.halted ≠ .trading)⟩,
    ⟨hc.view, fun ht => absurd ht (by decide : StationState.halted ≠ .trading), hc.deadline, hc.target⟩⟩

theorem execFrameReceived_agreeing (bytes : List Byte) (s : State) : Agreeing s (execFrameReceived bytes s) := by
  refine agreeing_answer fun h => ?_
  split
  · next hl =>
    split
    · exact h
    · split
      · unfold stationClash
        split
        · exact enterHalted_agree _ _ h
        · exact h
      · exact (receiveFrame_steady _ hl.1).agree h
  · exact h

/-! ### START (R169, R170) -/

theorem writeIdentity_bearings (a : StartArgs) (s : State) :
    (writeIdentity a s).ident.isSome = true ∧ (writeIdentity a s).fault = s.fault ∧
      (writeIdentity a s).leftStored = s.leftStored := by
  unfold writeIdentity
  split
  · next h => exact ⟨by rw [h]; rfl, rfl, rfl⟩
  · simp

/-- What stands with a TRADING station once START's offers are made: no fault, no frame left STORED, its configuration and its
identity record (R169, R170). -/
theorem startOffered_station (a : StartArgs) (hi : s.station = .idle) (h : StationLaw s) :
    (startOffered a s).station = .trading ∧ StationLaw (startOffered a s) := by
  obtain ⟨hident, hfault, hleft⟩ := writeIdentity_bearings a s
  have offered := (offerPresence_clerical (startedOn a s)).trans (startOffered_clerical a s)
  have no_fault : s.fault.isSome = false := by
    rw [Bool.eq_false_iff]
    exact fun hf => absurd (h.fault.2 hf) (by rw [hi]; decide)
  have trading : (startOffered a s).station = .trading := offered.station
  refine ⟨trading, ⟨?_, fun _ => ?_, fun _ => ⟨?_, ?_⟩⟩⟩
  · rw [trading, offered.fault, show (startedOn a s).fault = s.fault from hfault, no_fault]
    decide
  · rw [offered.leftStored, show (startedOn a s).leftStored = s.leftStored from hleft]
    exact h.left (by rw [hi]; decide)
  · rw [startOffered_conf]
    rfl
  · rw [offered.ident]
    exact hident

/-- A close is taken up again at START: a TRADING station with a closing generation holds its view (R112). -/
theorem resumeClose_agree {u : State} (hs : CloseLaw s) (hu : u.station = .trading) (hl : StationLaw u)
    (hp : u.positions = s.positions) : Agree (resumeClose u) := by
  have link := linkLaw_of_trading hu
  unfold resumeClose
  split
  · next hc =>
    have view : CloseLaw (setView ⟨[], false, fullDeadline u, false⟩ u) :=
      { view := fun _ => hc
        held := fun _ _ => rfl
        deadline := fun v hv hd => by
          cases hv
          exact absurd hd Bool.false_ne_true
        target := by
          change u.positions.gen.openPeriod ≤ u.positions.target + 1
          rw [hp]
          exact hs.target }
    refine ((examineRows_steady _).trans (examineCompletion_steady _)).agree ⟨?_, ?_, view⟩
    · exact link.congr rfl rfl
    · exact ⟨hl.fault, hl.left, hl.conf⟩
  · next hc =>
    refine ⟨link, hl, ?_, fun _ h => absurd h hc, ?_, ?_⟩
    · rw [hp]; exact hs.view
    · rw [hp]; exact hs.deadline
    · rw [hp]; exact hs.target

theorem runStart_agree (a : StartArgs) (hi : s.station = .idle) (h : Agree s) : Agree (runStart a s) := by
  obtain ⟨-, hs, hc⟩ := h
  obtain ⟨trading, law⟩ := startOffered_station a hi hs
  rw [runStart_eq]
  refine (examineBegin_steady _).agree (resumeClose_agree hc trading ?_ (startOffered_positions a s))
  exact ⟨law.fault, law.left, law.conf⟩

theorem execStart_agreeing (st mall rate fee ce life limit : Nat) (s : State) :
    Agreeing s (execStart st mall rate fee ce life limit s) := by
  unfold execStart checkedCommand hostCommand
  split
  · exact agreeing_answer (reply_steady _ s).agree
  · dsimp only
    split
    · exact agreeing_answer (reply_steady _ s).agree
    · next h =>
      exact agreeing_answer fun ha => (reply_steady _ _).agree (runStart_agree _ (startChecks_pass h).1 ha)

/-! ### The end of a program (R111, R158, R162) -/

/-- CLOSE_END stored ends the closing generation and its view together (R111). -/
theorem closeEndStored_steady (f : Frame) (s : State) : Steady s (closeEndStored f s) := by
  unfold closeEndStored
  split
  · next g _ =>
    refine Steady.trans ?_ (show Steady _ (retire _) from .of_bearings rfl)
    exact { Steady.refl s with
      link := fun l => l.congr rfl rfl
      close := fun c => ⟨nofun, fun _ => nofun, nofun, c.target⟩ }
  · exact .refl s

theorem archiveStored_steady (f : Frame) (s : State) : Steady s (archiveStored f s) := by
  unfold archiveStored
  split
  · exact .of_bearings rfl
  · exact .refl s

theorem storedEffect_steady (f : Frame) (s : State) : Steady s (storedEffect f s) := by
  unfold storedEffect
  split
  · exact closeEndStored_steady f s
  · exact archiveStored_steady f s
  · exact .refl s

theorem releaseUnshown_steady (h : HoldRef) (serial : Nat) (s : State) : Steady s (releaseUnshown h serial s) := by
  unfold releaseUnshown
  split
  · exact .refl s
  · exact .ite (fun _ => .refl s) fun _ => .ite (fun _ => releaseHold_steady _ _ _ s) fun _ => .of_bearings rfl

theorem announce_steady (freed : Bool) (c : Continuation) (s : State) : Steady s (announce freed c s) := by
  cases c with
  | none => exact .refl s
  | answer d n p => exact offerAnswer_steady _ _ _ s
  | request home n st p => exact offerRequestOf_steady _ _ s
  | notice n => exact post_steady _ _ _ s
  | slotOutcome slot n holds o =>
    change Steady s (announceOutcome freed slot holds o s)
    unfold announceOutcome
    split
    · exact releaseUnshown_steady _ _ s
    · exact .refl s
    · exact enterHeld_steady _ _ _ s
    · exact setOutcome_steady _ _ s

theorem frameStored_steady (p : PendingFrame) (s : State) : Steady s (frameStored p s) := by
  have marked : Steady s (markStored p.frame.number s) := .of_bearings rfl
  have announced := (marked.trans (storedEffect_steady p.frame _)).trans
    (announce_steady p.slotFreed p.frame.continuation _)
  unfold frameStored
  dsimp only
  have presence (u : State) : Steady u (if offersPresence p.frame.format then offerPresence u else u) :=
    .ite (fun _ => offerPresence_steady u) fun _ => .refl u
  have released := (announced.trans (presence _)).trans (releaseWaits_steady p.frame.number _)
  exact .ite (fun _ => released.trans (examineBegin_steady _)) fun _ => released

theorem startErase_steady (s : State) : Steady s (startErase s) := by
  unfold startErase
  split
  · exact .of_bearings rfl
  · exact .refl s

theorem programDone_agree (p : Program) (h : Agree s) : Agree (programDone p s) := by
  unfold programDone
  split
  · split
    · exact (frameStored_steady _ s).agree h
    · exact h
  · exact (Steady.of_bearings rfl : Steady s (frameDone _ s)).agree h
  · unfold controlStored
    split
    · exact (startErase_steady s).agree h
    · split
      · exact enterHalted_agree _ _ h
      · exact h
    · exact h
  · exact h
  · exact h
  · exact h

/-! ### Recovery (R172 to R174) -/

/-- Recovery's programs and scans change neither the link nor the positions. -/
theorem scanAndComplete_steady (s : State) : Steady s (scanAndComplete s) := by
  have same := (scanAndComplete_recovers s).rest
  exact .of_bearings (congrArg bearings same :)

theorem recoveryProgramDone_steady (p : Program) (s : State) : Steady s (recoveryProgramDone p s) := by
  unfold recoveryProgramDone
  split
  · exact .of_bearings rfl
  · exact startErase_steady s
  · exact scanAndComplete_steady s
  all_goals exact .refl s

theorem recoveryFails_steady (s : State) : Steady s (recoveryFails s) := .of_bearings rfl

theorem execProgramComplete_agreeing (r : ProgramResult) (s : State) : Agreeing s (execProgramComplete r s) := by
  refine agreeing_answer fun h => ?_
  split
  · next p rest _ =>
    have ended : Agree (programEnds p rest r s) := (Steady.of_bearings rfl : Steady s (programEnds p rest r s)).agree h
    have works : Agree (if r = .completed then programDone p (programEnds p rest r s)
        else enterHalted .programFailed false (programEnds p rest r s)) := by
      split
      · exact programDone_agree p ended
      · exact enterHalted_agree _ _ ended
    unfold endProgram
    dsimp only
    split
    · exact works
    · exact works
    · split
      · exact (recoveryProgramDone_steady p _).agree ended
      · exact (recoveryFails_steady _).agree ended
    · exact ended
    · exact h
  · exact h

/-- The state of a part held in reset meets the laws (R168, R175). -/
theorem execReset_agreeing (s : State) : Agreeing s (execReset s) := by
  have no_fault : StationState.held = .halted ↔ (none : Option FaultCode).isSome = true := by decide
  exact agreeing_answer fun _ => ⟨⟨fun _ => ⟨rfl, rfl, rfl, rfl, rfl⟩, nofun⟩, ⟨no_fault, fun _ => rfl, nofun⟩,
    ⟨nofun, nofun, nofun, Nat.zero_le 1⟩⟩

/-- Reading the control record takes a part held in reset to RECOVERING (R168, R172). -/
theorem controlRead_agree (hs : s.station = .held) (h : Agree s) : Agree (controlRead s) := by
  obtain ⟨hl, hst, hc⟩ := h
  refine ⟨⟨fun _ => hl.down (.inl hs), nofun⟩, ⟨?_, fun _ => hst.left (by rw [hs]; decide), nofun⟩,
    ⟨hc.view, nofun, hc.deadline, hc.target⟩⟩
  have no_fault : ¬ s.fault.isSome = true := fun hf => absurd (hst.fault.2 hf) (by rw [hs]; decide)
  exact iff_of_false (by change StationState.recovering ≠ .halted; decide) no_fault

theorem execResetRelease_agreeing (s : State) : Agreeing s (execResetRelease s) := by
  refine agreeing_answer fun h => ?_
  split
  · next hs =>
    cases he : erasingBlock (takenCopy s.control.store).1.content.blocks with
    | some b =>
      rw [beginRecovery_erases he]
      exact (beginErase_steady b _).agree (controlRead_agree hs h)
    | none =>
      rw [beginRecovery_scans he]
      exact (scanAndComplete_steady _).agree (controlRead_agree hs h)
  · exact h

/-- The working copy recovery builds: the link still silent, the target one below the open period, no view (R94, R174). -/
theorem buildWorking_agree (hs : s.station = .recovering) (h : Agree s) : Agree (buildWorking s) := by
  obtain ⟨hl, hst, -⟩ := h
  refine ⟨hl.congr rfl rfl, ⟨hst.fault, hst.left, fun ht => ?_⟩, ⟨nofun, fun ht => ?_, nofun, Nat.le_add_of_sub_le le_rfl⟩⟩
  · exact absurd (hs.symm.trans ht) (by decide)
  · exact absurd (hs.symm.trans ht) (by decide)

theorem endRecovery_agree (owed : List Continuation) (hs : s.station = .recovering) (h : Agree s) :
    Agree (endRecovery owed s) := by
  obtain ⟨hl, hst, hc⟩ := h
  rw [endRecovery_eq]
  refine ⟨⟨fun _ => hl.down (.inr (.inl hs)), nofun⟩, ⟨?_, fun _ => hst.left (by rw [hs]; decide), nofun⟩,
    ⟨hc.view, nofun, hc.deadline, hc.target⟩⟩
  have no_fault : ¬ s.fault.isSome = true := fun hf => absurd (hst.fault.2 hf) (by rw [hs]; decide)
  exact iff_of_false (by change StationState.idle ≠ .halted; decide) no_fault

theorem execRecoveryEnd_agreeing (s : State) : Agreeing s (execRecoveryEnd s) := by
  refine agreeing_answer fun h => ?_
  split
  · next r hr =>
    have hs := (recoveryDone_spec hr).2.1
    have built := buildWorking_agree hs h
    dsimp only
    split
    · obtain ⟨hl, hst, hc⟩ := enterHalted_agree ‹_› false built
      exact ⟨hl.congr rfl rfl, ⟨hst.fault, fun hh => absurd rfl hh, hst.conf⟩, hc.congr rfl rfl rfl rfl⟩
    · exact endRecovery_agree _ hs built
  · exact h

/-! ### The step -/

theorem exec_agreeing (c : Instr) (s : State) : Agreeing s (exec c s) := by
  by_cases he : isEvent c
  · cases c with
    | start st mall rate fee ce life limit => exact execStart_agreeing st mall rate fee ce life limit s
    | frameReceived bytes => exact execFrameReceived_agreeing bytes s
    | programComplete r => exact execProgramComplete_agreeing r s
    | eraseComplete ok => exact (execEraseComplete_steadily ok s).agreeing
    | reset => exact execReset_agreeing s
    | resetRelease => exact execResetRelease_agreeing s
    | recoveryEnd => exact execRecoveryEnd_agreeing s
    | _ => exact absurd he id
  · exact (exec_steadily c s he).agreeing

theorem step_agree (h : step s = .next t) (ha : Agree s) : Agree t := by
  rcases step_cases h with ⟨c, rest, -, hx⟩ | ⟨-, rfl⟩
  · obtain ⟨u, hu, hk⟩ := exec_agreeing c { s with pending := rest }
    obtain rfl := Host.Outcome.next.inj (hu.symm.trans hx)
    exact hk ((Steady.of_bearings rfl : Steady s { s with pending := rest }).agree ha)
  · exact (tick_steady s).agree ha

end

end Sys2Proof.Machine

namespace Sys2Proof

open Machine

/-- Settles O56: each command either follows the station state, keeping what stands with it, or is one of the few that move it,
and those set the link, the fault code and the close view as the laws ask. -/
theorem stationLinkAndCloseAgree : Obligations.StationLinkAndCloseAgree := by
  intro s t hl hs hc h
  exact step_agree h ⟨hl, hs, hc⟩

end Sys2Proof
end

section
/-! Link frames as bytes: numbers, flags, codes and payloads read back from what the encoder writes (R44, R45, R194). -/

namespace Sys2Proof.Machine

open Laws.ArgLength (toBytes_length boolByte_length)

/-! ### Fields -/

theorem foldl_toBytes (n v acc : Nat) :
    (toBytes n v).foldl (fun acc b => acc * 256 + b.toNat) acc = acc * 256 ^ n + v % 256 ^ n := by
  induction n generalizing acc with
  | zero => simp [toBytes, Nat.mod_one]
  | succ n ih =>
    have digit : (acc * 256 + (BitVec.ofNat 8 (v / 256 ^ n)).toNat) = acc * 256 + v / 256 ^ n % 256 := by simp
    rw [toBytes, List.foldl_cons, ih, digit, pow_succ 256 n, Nat.mod_mul (x := v)]
    generalize v / 256 ^ n % 256 = d
    generalize v % 256 ^ n = r
    ring

/-- Bytes spell the number they were written from, if it fits (R186). -/
theorem ofBytes_toBytes {n v : Nat} (h : v < 256 ^ n) : ofBytes (toBytes n v) = v := by
  rw [ofBytes, foldl_toBytes, Nat.mod_eq_of_lt h]
  omega

/-- The field that stands first. -/
@[simp] theorem fieldAt_here {n v : Nat} (rest : List Byte) (h : v < 256 ^ n) : fieldAt (toBytes n v ++ rest) 0 n = v := by
  rw [fieldAt, List.drop_zero, List.take_left' (toBytes_length n v), ofBytes_toBytes h]

/-- A field further on. -/
@[simp] theorem fieldAt_skip (bs rest : List Byte) {k : Nat} (n : Nat) (h : bs.length ≤ k) :
    fieldAt (bs ++ rest) k n = fieldAt rest (k - bs.length) n := by
  rw [fieldAt, List.drop_append, List.drop_eq_nil_of_le h, List.nil_append, fieldAt]

/-- The field that stands alone. -/
@[simp] theorem fieldAt_alone {n v : Nat} (h : v < 256 ^ n) : fieldAt (toBytes n v) 0 n = v := by
  simpa using fieldAt_here [] h

/-- A yes-or-no byte reads back (R186). -/
@[simp] theorem fieldAt_boolByte (b : Bool) : (fieldAt (boolByte b) 0 1 != 0) = b := by
  cases b <;> rfl

/-! ### Codes -/

theorem holdReasonOf_reasonCode {r : Option Reason} (h : r ≠ some .overCeiling) (k : r ≠ some .locked) :
    holdReasonOf (reasonCode r) = some r := by
  rcases r with _ | r
  · rfl
  · cases r with
    | overCeiling => exact absurd rfl h
    | locked => exact absurd rfl k
    | _ => rfl

theorem creditReasonOf_reasonCode {r : Option Reason} (h : r ≠ some .insufficient) (k : r ≠ some .locked) :
    creditReasonOf (reasonCode r) = some r := by
  rcases r with _ | r
  · rfl
  · cases r with
    | insufficient => exact absurd rfl h
    | locked => exact absurd rfl k
    | _ => rfl

@[simp] theorem reasonCode_lt (r : Option Reason) : reasonCode r < 256 := by
  rcases r with _ | r
  · decide
  · cases r <;> decide

@[simp] theorem holdAnswerOf_code (o : HoldAnswer) : holdAnswerCode o < 256 ∧ holdAnswerOf (holdAnswerCode o) = some o := by
  cases o <;> decide

@[simp] theorem actionOf_code (a : SettleAction) : actionCode a < 256 ∧ actionOf (actionCode a) = some a := by
  cases a <;> decide

@[simp] theorem settleAnswerOf_code (o : SettleAnswer) :
    settleAnswerCode o < 256 ∧ settleAnswerOf (settleAnswerCode o) = some o := by
  cases o <;> decide

@[simp] theorem creditKindOf_code (k : CreditKind) : creditKindCode k < 256 ∧ creditKindOf (creditKindCode k) = some k := by
  cases k <;> decide

@[simp] theorem creditAnswerOf_code (o : CreditAnswer) :
    creditAnswerCode o < 256 ∧ creditAnswerOf (creditAnswerCode o) = some o := by
  cases o <;> decide

@[simp] theorem statusActionOf_code (a : StatusAction) :
    statusActionCode a < 256 ∧ statusActionOf (statusActionCode a) = some a := by
  cases a <;> decide

@[simp] theorem viewOf_code (v : CardView) : viewCode v < 256 ∧ viewOf (viewCode v) = some v := by
  cases v <;> decide

/-! ### Payloads -/

/-- A payload's bytes are as many as its kind has (R194). -/
theorem payloadBytes_length (p : Payload) : payloadLength (kindCode p) = some (payloadBytes p).length := by
  cases p <;> simp [payloadBytes, kindCode, payloadLength, figureBytes, toBytes_length, boolByte_length]

/-- A payload that fits reads back from its bytes (R45, R194). -/
theorem decodePayload_payloadBytes {p : Payload} (h : p.fits = true) :
    decodePayload (kindCode p) (payloadBytes p) = some p := by
  cases p with
  | presence halted period target closing =>
    simp [Payload.fits] at h
    cases halted <;>
      simp [decodePayload, kindCode, payloadBytes, toBytes_length, h, presenceOf]
  | holdAns o amount tag r =>
    simp [Payload.fits] at h
    simp [decodePayload, kindCode, payloadBytes, toBytes_length, h, holdReasonOf_reasonCode]
  | creditAns o r =>
    simp [Payload.fits] at h
    simp [decodePayload, kindCode, payloadBytes, toBytes_length, h, creditReasonOf_reasonCode]
  | position period f haveYours =>
    simp [Payload.fits] at h
    simp [decodePayload, kindCode, payloadBytes, figureBytes, figuresAt, toBytes_length, h]
  | _ =>
    simp [Payload.fits] at h
    simp [decodePayload, kindCode, payloadBytes, toBytes_length, h]

/-! ### Frames -/

theorem kindCode_lt (p : Payload) : kindCode p < 256 := by cases p <;> simp [kindCode]

theorem payloadBytes_length_lt (p : Payload) : (payloadBytes p).length < 256 := by
  cases p <;> simp [payloadBytes, figureBytes, toBytes_length, boolByte_length]

/-- A valid header's stations fit a byte (R44). -/
theorem headerValid_lt {f : LinkFrame} (h : headerValid f = true) : f.src < 256 ∧ f.dst < 256 := by
  obtain ⟨src, dst, stamp, reqNo, payload⟩ := f
  cases payload <;> simp only [headerValid, Bool.and_eq_true, decide_eq_true_eq] at h ⊢ <;> omega

theorem crcShift_lt (crc : Nat) : crcShift crc < 65536 := by
  have half : crc * 2 % 65536 < 2 ^ 16 := Nat.mod_lt _ (by decide)
  unfold crcShift
  split
  · exact Nat.xor_lt_two_pow half (by decide)
  · exact half

/-- A CRC fits its two bytes (R193). -/
theorem crc16_lt (bs : List Byte) : crc16 bs < 65536 := by
  induction bs using List.reverseRecOn with
  | nil => decide
  | append_singleton bs b _ =>
    rw [crc16, List.foldl_append, List.foldl_cons, List.foldl_nil]
    exact crcShift_lt _

/-- Bytes with their CRC behind them pass the frame check (R52, R194). -/
theorem frameCheckOk_withCrc (bs : List Byte) : frameCheckOk (bs ++ toBytes 2 (crc16 bs)) = true := by
  simp [frameCheckOk, toBytes_length, crc16_lt]

theorem frameMall_encodeFrame {mall : Nat} (f : LinkFrame) (h : mall < 65536) : frameMall (encodeFrame mall f) = mall := by
  simp [frameMall, encodeFrame, frameBody, h]

/-- A frame that fits is read back from its bytes, whatever the mall (R44, R45, R194). -/
theorem decodeFrame_encodeFrame (mall : Nat) {f : LinkFrame} (h : f.fits = true) :
    decodeFrame (encodeFrame mall f) = some f := by
  simp only [LinkFrame.fits, Bool.and_eq_true, decide_eq_true_eq] at h
  obtain ⟨⟨⟨hv, hst⟩, hn⟩, hp⟩ := h
  obtain ⟨hsrc, hdst⟩ := headerValid_lt hv
  have kind : fieldAt (encodeFrame mall f) 4 1 = kindCode f.payload := by
    simp [encodeFrame, frameBody, toBytes_length, kindCode_lt]
  have payload : ((encodeFrame mall f).drop 9).take (payloadBytes f.payload).length = payloadBytes f.payload := by
    simp [encodeFrame, frameBody, List.drop_append, List.drop_eq_nil_of_le, toBytes_length]
  have len : (encodeFrame mall f).length = 11 + (payloadBytes f.payload).length ∧
      fieldAt (encodeFrame mall f) 8 1 = (payloadBytes f.payload).length := by
    simp [encodeFrame, frameBody, toBytes_length, payloadBytes_length_lt]
    omega
  have header : fieldAt (encodeFrame mall f) 2 1 = f.src ∧ fieldAt (encodeFrame mall f) 3 1 = f.dst ∧
      fieldAt (encodeFrame mall f) 5 1 = f.stamp ∧ fieldAt (encodeFrame mall f) 6 2 = f.reqNo := by
    simp [encodeFrame, frameBody, toBytes_length, hsrc, hdst, hst, hn]
  unfold decodeFrame
  rw [kind, payloadBytes_length]
  dsimp only
  rw [if_pos len, payload, decodePayload_payloadBytes hp, header.1, header.2.1, header.2.2.1, header.2.2.2]
  exact if_pos hv

end Sys2Proof.Machine

namespace Sys2Proof

open Machine

/-- Settles O9: every field is read at the place it was written, and the check is the CRC of what stands before it. -/
theorem linkFramesRoundTrip : Obligations.LinkFramesRoundTrip := by
  intro mall f hf hm
  exact ⟨decodeFrame_encodeFrame mall hf, frameCheckOk_withCrc _, frameMall_encodeFrame f hm⟩

end Sys2Proof
end

section
/-! Frames received and frames sent: the tests of a frame that arrives, hand-overs in HALTED, and the attempts of the head of the
transmit queue (R47 to R49, R52 to R55, R63). -/

namespace Sys2Proof.Machine

section
variable {s t : State} {bytes : List Byte}

/-! ### A frame arrives (R52, R53) -/

theorem drivesAttempt_iff : drivesAttempt s = true ↔ s.link.phase = .attempting ∨ s.link.phase = .abandoned := by
  unfold drivesAttempt
  cases s.link.phase <;> simp

theorem drivesAttempt_eq_false (ha : s.link.phase ≠ .attempting) (hb : s.link.phase ≠ .abandoned) :
    drivesAttempt s = false := Bool.eq_false_iff.2 fun h => (drivesAttempt_iff.1 h).elim ha hb

/-- The tests a frame passes before its fields are looked at (R52). -/
def reachesTests (s : State) (bytes : List Byte) : Prop :=
  listening s = true ∧ drivesAttempt s = false ∧ frameCheckOk bytes = true ∧ frameMall bytes = ownMall s

theorem exec_frameReceived_dropped (h : ¬ reachesTests s bytes) : exec (.frameReceived bytes) s = .next s := by
  refine congrArg Host.Outcome.next (if_neg fun hc => h ?_)
  simpa [reachesTests] using hc

theorem exec_frameReceived_invalid (h : decodeFrame bytes = none) : exec (.frameReceived bytes) s = .next s := by
  refine congrArg Host.Outcome.next ?_
  rw [h]
  exact ite_self s

theorem exec_frameReceived_valid {f : LinkFrame} (h : reachesTests s bytes) (hf : decodeFrame bytes = some f) :
    exec (.frameReceived bytes) s = .next (if f.src = ownStation s then stationClash s else receiveFrame f s) := by
  refine congrArg Host.Outcome.next ?_
  rw [if_pos (by simpa [reachesTests] using h), hf]

theorem receiveFrame_queued {f : LinkFrame} (hd : f.dst = 0 ∨ f.dst = ownStation s) (room : s.link.rx.length < 16) :
    receiveFrame f s = { s with link := { s.link with
      roster := tabPutD RosterEntry.blank s.link.roster f.src { rosterEntry s f.src with silence := 0 },
      rx := s.link.rx ++ [f] } } := if_pos ⟨hd, room⟩

theorem receiveFrame_heard {f : LinkFrame} (h : (f.dst ≠ 0 ∧ f.dst ≠ ownStation s) ∨ 16 ≤ s.link.rx.length) :
    receiveFrame f s = { s with link := { s.link with
      roster := tabPutD RosterEntry.blank s.link.roster f.src { rosterEntry s f.src with silence := 0 } } } := by
  refine if_neg fun ⟨hd, room⟩ => ?_
  rcases h with ⟨h0, h1⟩ | h
  · exact hd.elim h0 h1
  · exact absurd room (Nat.not_lt.2 h)

theorem stationClash_trading (h : s.station = .trading) : stationClash s = enterHalted .stationClash true s :=
  if_pos (isTrading_iff.2 h)

theorem stationClash_halted (h : s.station = .halted) : stationClash s = s :=
  if_neg fun ht => absurd ((isTrading_iff.1 ht).symm.trans h) (by decide)

/-- The link of a TRADING station that enters HALTED while its sender is not attempting: one PRESENCE, and a quiet sender
(R63). -/
theorem haltLink_trading (h : s.station = .trading) (hp : drivesAttempt s = false) :
    haltLink s = { s.link with
      tx := [⟨0, stampOf (openPeriod s), 0,
        .presence true (openPeriod s) s.positions.target s.positions.gen.closing, 0⟩]
      phase := .quiet } := by
  unfold haltLink
  rw [if_pos h]
  unfold drivesAttempt at hp
  cases hph : s.link.phase <;> rw [hph] at hp <;> first | rfl | exact absurd hp (by decide)

/-! ### Hand-overs of a station that listens (R54, R55) -/

theorem handOver_listening {kind : Payload → Bool} {take : LinkFrame → State → State} {f : LinkFrame}
    {rest : List LinkFrame} (hl : listening s = true) (hrx : s.link.rx = f :: rest) (hk : kind f.payload = true) :
    handOver kind take s = .next (take f (taken rest s)) := by
  unfold handOver
  rw [hrx]
  dsimp only
  rw [hl, hk]
  rfl

theorem traded_not_trading {serve : LinkFrame → Int → State → State} (f : LinkFrame) (h : s.station ≠ .trading) :
    traded serve f s = s := if_neg fun ht => h (isTrading_iff.1 ht)

/-- A frame that is no PRESENCE is discarded as a HALTED station hands it over (R55). -/
theorem discards_halted {f : LinkFrame} {rest : List LinkFrame} (h : s.station = .halted) (hrx : s.link.rx = f :: rest)
    (hp : isPresence f.payload = false) : discards (handOverOf f.payload) rest s := by
  obtain ⟨kind, serve, hk, hx⟩ := exec_handOverOf hp
  have deaf : (taken rest s).station ≠ .trading := by
    rw [show (taken rest s).station = .halted from h]
    decide
  unfold discards
  rw [hx, handOver_listening (listening_iff.2 (.inr h)) hrx hk, traded_not_trading f deaf]
  rfl

/-! ### Attempts (R47 to R49) -/

theorem exec_attemptBegin {tf : TxFrame} {txs : List TxFrame} (ht : s.station = .trading) (htx : s.link.tx = tf :: txs)
    (hp : s.link.phase = .quiet) :
    exec .attemptBegin s = .next { s with link := { s.link with
      tx := filledIn s tf :: txs,
      phase := .attempting,
      driving := encodeFrame (ownMall s) (onTheWire s (filledIn s tf)) } } := by
  refine congrArg Host.Outcome.next ?_
  rw [hp, htx]
  exact if_pos (listening_iff.2 (.inl ht))

theorem exec_attemptIntact (hp : s.link.phase = .attempting) : exec .attemptIntact s = .next (headGone s) := by
  refine congrArg Host.Outcome.next ?_
  rw [hp]

/-- The head frame of a TRADING station leaves its queue, and its owner is told (R47, R49). -/
theorem headGone_eq {tf : TxFrame} {txs : List TxFrame} (ht : s.station = .trading) (htx : s.link.tx = tf :: txs) :
    headGone s = tellOwner tf { s with link := { s.link with tx := txs, phase := .quiet, driving := [] } } := by
  unfold headGone
  rw [htx]
  exact if_pos (isTrading_iff.2 ht)

theorem tellOwner_plain {tf : TxFrame} (h : isRequest tf.payload = false) : tellOwner tf s = s :=
  if_neg (by rw [h]; decide)

theorem tellOwner_request {tf : TxFrame} {tp : Nat} {tr : Track} (h : isRequest tf.payload = true)
    (hf : findTrack s tf.dst tf.reqNo = some (tp, tr)) (ho : tr.orphan = none) :
    tellOwner tf s = putTrack tp { tr with timer := some 400 } s := by
  unfold tellOwner
  rw [if_pos h, hf]
  exact if_neg (by rw [ho]; decide)

theorem exec_attemptCollided (draw : Nat) (hp : s.link.phase = .attempting) :
    exec (.attemptCollided draw) s = .next (collide draw s) := by
  refine congrArg Host.Outcome.next ?_
  rw [hp]

theorem collide_backsOff {tf : TxFrame} {txs : List TxFrame} (draw : Nat) (htx : s.link.tx = tf :: txs)
    (h : tf.attempts < 15) :
    collide draw s = { s with link := { s.link with
      tx := { tf with attempts := tf.attempts + 1 } :: txs,
      phase := .backoff (draw % 2 ^ min (tf.attempts + 1) 6),
      driving := [] } } := by
  unfold collide
  rw [htx]
  exact if_pos (Nat.succ_lt_succ h)

theorem collide_drops {tf : TxFrame} {txs : List TxFrame} (draw : Nat) (htx : s.link.tx = tf :: txs)
    (h : 15 ≤ tf.attempts) : collide draw s = headGone s := by
  unfold collide
  rw [htx]
  exact if_neg (Nat.not_lt.2 (Nat.succ_le_succ h))

theorem exec_backoffEnd {k : Nat} (hp : s.link.phase = .backoff k) :
    exec .backoffEnd s = .next { s with link := { s.link with phase := .quiet } } := by
  refine congrArg Host.Outcome.next ?_
  rw [hp]
  rfl

/-- An abandoned attempt ends quietly, however it ends, and no other command of the sender moves it (R63). -/
theorem exec_abandoned (draw : Nat) (hp : s.link.phase = .abandoned) :
    exec .attemptIntact s = .next { s with link := { s.link with phase := .quiet, driving := [] } } ∧
      exec (.attemptCollided draw) s = .next { s with link := { s.link with phase := .quiet, driving := [] } } ∧
      exec .backoffEnd s = .next s ∧ exec .attemptBegin s = .next s := by
  refine ⟨congrArg Host.Outcome.next ?_, congrArg Host.Outcome.next ?_, congrArg Host.Outcome.next ?_,
    congrArg Host.Outcome.next ?_⟩ <;> rw [hp] <;> rfl

end

end Sys2Proof.Machine

namespace Sys2Proof

open Machine

/-- Settles O33: the tests a frame must reach drop what fails one, and what passes is heard, queued or shows a clash. -/
theorem framesAreTestedInOrder : Obligations.FramesAreTestedInOrder := by
  intro s bytes
  refine ⟨fun h1 h2 => ?_, fun hp => ?_, fun hc => ?_, fun hm => ?_, exec_frameReceived_invalid, ?_, ?_⟩
  · exact exec_frameReceived_dropped fun h => (listening_iff.1 h.1).elim h1 h2
  · exact exec_frameReceived_dropped fun h => Bool.false_ne_true (h.2.1.symm.trans (drivesAttempt_iff.2 hp))
  · exact exec_frameReceived_dropped fun h => Bool.false_ne_true (hc.symm.trans h.2.2.1)
  · exact exec_frameReceived_dropped fun h => hm h.2.2.2
  · intro hs ha hb hc hm f hf
    have quiet := drivesAttempt_eq_false ha hb
    have received := exec_frameReceived_valid ⟨listening_iff.2 hs, quiet, hc, hm⟩ hf
    refine ⟨fun hsrc hd room => ?_, fun hsrc h => ?_, fun hsrc hh => ?_, fun hsrc ht => ?_⟩
    · rw [received, if_neg hsrc, receiveFrame_queued hd room]
    · rw [received, if_neg hsrc, receiveFrame_heard h]
    · rw [received, if_pos hsrc, stationClash_halted hh]
    · rw [if_pos hsrc, stationClash_trading ht] at received
      have link := haltLink_trading ht quiet
      refine ⟨_, received, rfl, rfl, rfl, ?_, ?_, ?_, ?_, rfl, rfl, rfl, rfl, rfl, rfl, rfl, rfl, rfl, rfl⟩
      · exact (congrArg Link.tx link :)
      · exact (congrArg Link.phase link :)
      · exact (congrArg Link.rx link :)
      · exact (congrArg Link.roster link :)
  · exact fun f rest => discards_halted

/-- Settles O34: an attempt works on the head frame, and the frame that leaves the queue tells its owner. -/
theorem sendingFollowsTheQueue : Obligations.SendingFollowsTheQueue := by
  refine ⟨fun s tf txs draw ht => ⟨exec_attemptBegin ht, fun htx hp => ?_, fun k => exec_backoffEnd⟩,
    fun s draw => exec_abandoned draw⟩
  have intact := exec_attemptIntact hp
  rw [headGone_eq ht htx] at intact
  refine ⟨fun plain => ?_, fun tp tr request hf ho => ?_, fun h => ?_, fun h => ?_⟩
  · exact intact.trans (congrArg Host.Outcome.next (tellOwner_plain plain))
  · exact intact.trans (congrArg Host.Outcome.next (tellOwner_request request hf ho))
  · rw [exec_attemptCollided draw hp, collide_backsOff draw htx h]
  · rw [exec_attemptCollided draw hp, collide_drops draw htx h, exec_attemptIntact hp]

end Sys2Proof
end

section
/-! PRESENCE, owed frames and silence: what the 5 s timer, a queue with room and 15 s without a frame bring about (R50, R51, R60,
R105, R170). -/

namespace Sys2Proof.Machine

section
variable {s : State}

/-! ### PRESENCE (R50, R51) -/

theorem txRoom_eq_false_iff : txRoom s = false ↔ 16 ≤ s.link.tx.length := by
  rw [← Bool.not_eq_true, txRoom_iff, Nat.not_lt]

theorem offerPresence_waits (ht : s.station = .trading)
    (h : s.link.tx.any (fun x => isPresence x.payload) = true ∨ 16 ≤ s.link.tx.length) :
    offerPresence s = { s with link := { s.link with presenceTimer := 5000 } } := by
  unfold offerPresence
  rw [if_pos ht]
  dsimp only
  split
  · rfl
  · next none_waits =>
    rw [txRoom_eq_false_iff.2 (h.resolve_left none_waits)]
    rfl

theorem offerPresence_placed (ht : s.station = .trading)
    (none_waits : s.link.tx.any (fun x => isPresence x.payload) = false) (room : s.link.tx.length < 16) :
    offerPresence s = { s with link := { s.link with
      presenceTimer := 5000, tx := s.link.tx ++ [presenceFrame s 0] } } := by
  unfold offerPresence
  rw [if_pos ht]
  dsimp only
  rw [none_waits, txRoom_iff.2 room]
  rfl

/-- The PRESENCE of a TRADING station (R51). -/
theorem presenceFrame_trading (ht : s.station = .trading) (n : Nat) :
    presenceFrame s n = ⟨0, stampOf (openPeriod s), 0,
      .presence false (openPeriod s) s.positions.target s.positions.gen.closing, n⟩ := by
  unfold presenceFrame
  rw [ht]
  rfl

/-! ### Owed frames (R50, R162, R170) -/

/-- The link with other frames owed. -/
def owing (cs : List Continuation) (s : State) : State := { s with link := { s.link with owed := cs } }

theorem exec_owedFramePlaced {c : Continuation} {cs : List Continuation} (ht : s.station = .trading)
    (ho : s.link.owed = c :: cs) (alive : owedAlive s c = true) :
    exec .owedFramePlaced s =
      .next (if txRoom s then offerOwed c (owing cs s) else s) := by
  have standing : (s.link.owed.dropWhile fun c => !owedAlive s c) = c :: cs := by simp [ho, alive]
  have placed : exec .owedFramePlaced s = .next (placeNextOwed s) :=
    congrArg Host.Outcome.next (if_pos (isTrading_iff.2 ht))
  rw [placed, placeNextOwed, standing]
  rfl

/-- A request offered to a queue that has room (R50, R68). -/
theorem offerRequest_room (p : Nat) (tr : Track) (room : txRoom s = true) :
    offerRequest p tr s = { s with
      link := { s.link with tx := s.link.tx ++ [requestFrame tr] }
      tracker := ⟨tabPut s.tracker.entries p
        { tr with attempts := if tr.data.state = .sent then tr.attempts + 1 else tr.attempts, timer := none },
        s.tracker.counter⟩ } := if_pos room

/-- The request of an entry that is there and not orphan is offered by a TRADING station (R162, R164). -/
theorem offerRequestOf_found {home n p : Nat} {tr : Track} (ht : s.station = .trading)
    (hf : findTrack s home n = some (p, tr)) (ho : tr.orphan = none) :
    offerRequestOf home n s = offerRequest p tr s := by
  unfold offerRequestOf
  rw [hf]
  exact if_neg (by simp [ho, ht])

/-! ### Silence (R60, R105) -/

theorem exec_silenceTimeout_over {j : Nat} (hl : listening s = true) (h1 : 1 ≤ j) (h2 : j ≤ 63) (ho : j ≠ ownStation s)
    (h : silenceOver (rosterEntry s j) = true) : exec (.silenceTimeout j) s = .next (goAbsent j s) :=
  congrArg Host.Outcome.next (if_pos ⟨hl, h1, h2, ho, h⟩)

theorem exec_silenceTimeout_not {j : Nat} (h : j = ownStation s ∨ silenceOver (rosterEntry s j) = false) :
    exec (.silenceTimeout j) s = .next s :=
  congrArg Host.Outcome.next (if_neg fun ⟨_, _, _, ho, hs⟩ =>
    h.elim ho fun hn => Bool.false_ne_true (hn.symm.trans hs))

theorem silenceOver_eq_false {e : RosterEntry} (h : e.state = .absent ∨ e.silence + 1 < 15000) :
    silenceOver e = false := Bool.eq_false_iff.2 fun hs => by
  obtain ⟨hp, hm⟩ := silenceOver_iff.1 hs
  exact h.elim hp fun hlt => absurd hm (Nat.not_le.2 hlt)

theorem rosterDown_none {j : Nat} (h : s.positions.view = none) : rosterDown j s = s := by rw [rosterDown, h]

theorem rosterDown_of_not {j : Nat} {v : CloseView} (hv : s.positions.view = some v)
    (h : ¬ (s.station = .trading ∧ !v.completed ∧ (closeRow v j).state = .awaiting ∧ (closingRow s j).fig = .zero)) :
    rosterDown j s = s := by
  rw [rosterDown, hv]
  exact if_neg h

theorem rosterDown_not_trading {j : Nat} (h : s.station ≠ .trading) : rosterDown j s = s := by
  cases hv : s.positions.view with
  | none => exact rosterDown_none hv
  | some v => exact rosterDown_of_not hv fun hd => h hd.1

/-- The view with a row rewritten (R98). -/
theorem setCloseRow_eq {v : CloseView} (hv : s.positions.view = some v) (j : Nat) (c : CloseRow) :
    setCloseRow j c s = { s with positions := { s.positions with
      view := some { v with rows := tabPutD CloseRow.blank v.rows j c } } } := by
  rw [setCloseRow, hv]
  rfl

theorem rosterDown_empties {j : Nat} {v : CloseView} (ht : s.station = .trading) (hv : s.positions.view = some v)
    (hc : v.completed = false) (ha : (closeRow v j).state = .awaiting) (hz : (closingRow s j).fig = .zero) :
    rosterDown j s = examineCompletion { s with positions := { s.positions with
      view := some { v with rows := tabPutD CloseRow.blank v.rows j ⟨.empty, (closeRow v j).final⟩ } } } := by
  rw [← setCloseRow_eq hv, rosterDown, hv]
  exact if_pos ⟨ht, by simp [hc], ha, hz⟩

end

end Sys2Proof.Machine

namespace Sys2Proof

open Machine

/-- Settles O35: the timer's offer and the first frame owed, each with and without room in the queue. -/
theorem presenceAndOwedFrames : Obligations.PresenceAndOwedFrames := by
  intro s ht
  have timer : exec .presenceTimer s = .next (offerPresence s) := rfl
  refine ⟨fun h => ?_, fun none_waits room => ?_, fun d n p cs ho => ?_, fun d n st p cs tp tr ho hf orphan room => ?_⟩
  · rw [timer, offerPresence_waits ht h]
  · rw [timer, offerPresence_placed ht none_waits room, presenceFrame_trading ht]
  · have owed := exec_owedFramePlaced ht ho rfl
    refine ⟨fun room => ?_, fun full => ?_⟩
    · rw [owed, if_pos (txRoom_iff.2 room)]
      refine congrArg Host.Outcome.next ((offerAnswer_eq (s := owing cs s) ht d n p).trans ?_)
      rw [if_pos (show (owing cs s).link.tx.length < 16 from room)]
      rfl
    · rw [owed, txRoom_eq_false_iff.2 full]
      rfl
  · have alive : owedAlive s (.request d n st p) = true := by simp [owedAlive, hf, orphan]
    rw [exec_owedFramePlaced ht ho alive, if_pos (txRoom_iff.2 room)]
    have found := offerRequestOf_found (s := owing cs s) ht hf orphan
    exact congrArg Host.Outcome.next (found.trans (offerRequest_room tp tr (txRoom_iff.2 room)))

/-- Settles O36: an entry whose silence is over goes ABSENT and is read by the clearing unit; no other does. -/
theorem silenceMakesAStationAbsent : Obligations.SilenceMakesAStationAbsent := by
  intro s j hs h1 h2
  refine ⟨fun ho ha hsil => ?_, fun h => ?_, fun v u ht hv => ⟨fun h => ?_, rosterDown_empties ht hv⟩, fun u h => ?_⟩
  · exact ⟨_, exec_silenceTimeout_over (listening_iff.2 hs) h1 h2 ho (silenceOver_iff.2 ⟨ha, hsil⟩), rfl, rfl, rfl⟩
  · exact exec_silenceTimeout_not (h.imp id silenceOver_eq_false)
  · refine rosterDown_of_not hv fun ⟨_, hc, ha, hz⟩ => ?_
    rcases h with h | h | h
    · simp [h] at hc
    · exact h ha
    · exact h hz
  · rcases h with h | h
    · exact rosterDown_none h
    · exact rosterDown_not_trading (by rw [h]; decide)

end Sys2Proof
end

section
/-! Foreign work: a volatile tracker entry made and its request offered, and the refusals of a home that is not heard and of a
full tracker (R62, R67, R72 to R74, R79, R82). -/

namespace Sys2Proof.Machine

/-- A written content is the one found when it alone passes the test. -/
theorem tabFind_tabPut_only {α : Type} {f : α → Bool} {v : α} (hv : f v = true) (k : Nat) :
    ∀ {t : Tab α}, (∀ q ∈ t, f q.2 = false) → tabFind f (tabPut t k v) = some (k, v)
  | [], _ => by simp [tabFind, tabPut, hv]
  | (i, a) :: t, ht => by
    have head : f a = false := ht (i, a) List.mem_cons_self
    have tail := tabFind_tabPut_only hv k (t := t) fun q hq => ht q (List.mem_cons_of_mem _ hq)
    unfold tabPut
    split
    · simp [tabFind, hv]
    · split
      · simp [tabFind, hv]
      · simpa [tabFind, head] using tail

section
variable {s : State} {slot : Nat} {card : CardId}

/-! ### The request goes out (R67, R68) -/

/-- The number of a new entry is given, with no counter step taken (R166). -/
theorem giveNumber_eq (h : (nextNumber s).2 = false) :
    giveNumber s = ((nextNumber s).1, { s with tracker := { s.tracker with counter := (nextNumber s).1 } }) := by
  unfold giveNumber
  dsimp only
  rw [h]
  rfl

theorem setLink_eq {sl : Slot} (h : getSlot s slot = some sl) (home n : Nat) :
    setLink (some slot) home n s = putSlot slot { sl with link := some (home, n) } s := by
  unfold setLink
  dsimp only
  rw [h]

/-- A request offered by its key, the entry of that key known (R162). -/
theorem offerRequest_eq (p : Nat) (tr : Track) (s : State) : offerRequest p tr s = offeredEntry p tr s := by
  unfold offerRequest offeredEntry
  by_cases room : s.link.tx.length < 16
  · rw [if_pos (txRoom_iff.2 room), if_pos room, if_pos room]
    rfl
  · rw [if_neg (mt txRoom_iff.1 room), if_neg room, if_neg room]
    rfl

/-- A new entry whose number no entry holds is the one its key finds (R69). -/
theorem findTrack_new {place n : Nat} {tr : Track} {u : State} (hu : u.tracker.entries = tabPut s.tracker.entries place tr)
    (hl : lastClosed u = lastClosed s) (hn : tr.data.reqNo = n) (live : lastClosed s < tr.data.period)
    (unheld : numberHeld s n = false) : findTrack u tr.data.home n = some (place, tr) := by
  unfold findTrack
  rw [hu, hl]
  refine tabFind_tabPut_only ?_ place fun q hq => ?_
  · simp [hn, trackFree, live]
  · have := List.any_eq_false.1 unheld q hq
    simp only [Bool.and_eq_true, decide_eq_true_eq, Bool.not_eq_true'] at this
    simp only [Bool.and_eq_false_iff, decide_eq_false_iff_not, Bool.not_eq_false']
    by_cases hr : q.2.data.reqNo = n
    · exact .inr (by simpa [hr] using this)
    · exact .inl (.inr hr)

/-- The entry new work makes, its number given. -/
def newEntry (d : TrackRec) (slot : Nat) (part : Bool) (s : State) : Track :=
  newTrack { d with reqNo := (nextNumber s).1 } (some slot) part

/-- The state with a new entry made and linked to its slot, its request not offered yet. -/
def entryMade (place : Nat) (d : TrackRec) (slot : Nat) (sl : Slot) (part : Bool) (s : State) : State :=
  { s with
    tracker := ⟨tabPut s.tracker.entries place (newEntry d slot part s), (nextNumber s).1⟩
    slots := tabPut s.slots slot { sl with link := some (d.home, (nextNumber s).1) } }

/-- A volatile entry whose number needs no step is made and its request offered (R67). -/
theorem startVolatile_eq {sl : Slot} {d : TrackRec} (place : Nat) (part : Bool) (ht : s.station = .trading)
    (hsl : getSlot s slot = some sl) (unstepped : (nextNumber s).2 = false)
    (covered : unstored (coversNumber (nextNumber s).1) s = []) (unheld : numberHeld s (nextNumber s).1 = false)
    (live : lastClosed s < d.period) :
    startVolatile place d (some slot) part s =
      offeredEntry place (newEntry d slot part s) (entryMade place d slot sl part s) := by
  have made : setLink (some slot) d.home (giveNumber s).1
      (putTrack place (newTrack { d with reqNo := (giveNumber s).1 } (some slot) part) (giveNumber s).2) =
        entryMade place d slot sl part s := by
    rw [giveNumber_eq unstepped]
    exact setLink_eq (s := putTrack place (newEntry d slot part s)
      { s with tracker := { s.tracker with counter := (nextNumber s).1 } }) hsl _ _
  have found : findTrack (entryMade place d slot sl part s) d.home (nextNumber s).1 =
      some (place, newEntry d slot part s) := findTrack_new (tr := newEntry d slot part s) rfl rfl rfl live unheld
  have stored : unstored (coversNumber (nextNumber s).1) (entryMade place d slot sl part s) = [] := covered
  unfold startVolatile
  dsimp only
  rw [made, giveNumber_eq unstepped]
  dsimp only
  unfold offerOrWait
  rw [stored]
  dsimp only
  rw [offerRequestOf_found (s := entryMade place d slot sl part s) ht found rfl, offerRequest_eq]

/-- New foreign work that passes its checks sends its request (R67, R74, R79, R82). -/
theorem sendsNewEntry_of {c : Instr} {sl : Slot} {d : TrackRec} {part : Bool} {p : Payload} (ht : s.station = .trading)
    (unstepped : (nextNumber s).2 = false) (covered : unstored (coversNumber (nextNumber s).1) s = [])
    (unheld : numberHeld s (nextNumber s).1 = false) (live : lastClosed s < d.period) (sent : d.state = .sent)
    (hp : requestPayload (newEntry d slot part s) = p)
    (h : exec c s = .next (accepted [] (startVolatile (freeTrackPlace s) d (some slot) part (putSlot slot sl s)))) :
    sendsNewEntry c slot sl d part p s := by
  have linked : getSlot (putSlot slot sl s) slot = some sl := tabGet_tabPut_self _ _ _
  have started := startVolatile_eq (s := putSlot slot sl s) (freeTrackPlace s) part ht linked unstepped covered unheld live
  have frame : requestFrame (newEntry d slot part s) = ⟨d.home, stampOf d.period, (nextNumber s).1, p, 0⟩ := by
    rw [← hp]
    rfl
  have counted : (newEntry d slot part s).data.state = .sent := sent
  unfold sendsNewEntry
  rw [h, started, show newEntry d slot part (putSlot slot sl s) = newEntry d slot part s from rfl]
  unfold offeredEntry
  rw [frame, if_pos counted]
  simp only [entryMade, putSlot, tabPut_tabPut]
  rfl

/-! ### Each command as its checks and its work (R2) -/

theorem exec_redeem (slot : Nat) (card : CardId) (amount : Nat) (part : Bool) (ref : Option Nat) (s : State) :
    exec (.redeem slot card amount part ref) s = checkedCommand s (redeemChecks slot card amount s)
      fun s => accepted [] (runRedeem slot card amount part ref s) := rfl

theorem exec_enquire (slot : Nat) (card : CardId) (s : State) :
    exec (.enquire slot card) s = checkedCommand s (enquireChecks slot card s)
      fun s => accepted [] (runEnquire slot card s) := rfl

theorem exec_freeze (slot : Nat) (card : CardId) (s : State) :
    exec (.freeze slot card) s = checkedCommand s (freezeChecks slot card s)
      fun s => accepted [] (runFreeze slot card s) := rfl

theorem exec_cancel (slot : Nat) (s : State) :
    exec (.cancel slot) s = checkedCommand s (cancelChecks slot s) fun s => accepted [] (runCancel slot s) := rfl

/-! ### The checks of foreign work (R72) -/

theorem homeChecks_absent {home : Nat} (h : rosterPresent s home = false) (cs : List (Bool × PortStatus)) :
    firstFail (homeChecks s home ++ cs) = some .homeAbsent := firstFail_of_fail h

theorem homeChecks_full {home : Nat} (h : rosterPresent s home = true) (full : 32 ≤ trackCount s)
    (cs : List (Bool × PortStatus)) : firstFail (homeChecks s home ++ cs) = some .trackerFull :=
  firstFail_of_pass h (firstFail_of_fail (decide_eq_false (Nat.not_lt.2 full)))

theorem homeChecks_eq {home : Nat} (h : rosterPresent s home = true) (room : trackCount s < 32)
    (cs : List (Bool × PortStatus)) : firstFail (homeChecks s home ++ cs) = firstFail cs :=
  firstFail_of_pass h (firstFail_of_pass (decide_eq_true room) rfl)

/-- A number that needs no step is ready (R166). -/
theorem numberReady_of (h : (nextNumber s).2 = false) : numberReady 0 s = true := by simp [numberReady, h]

theorem not_isOwn (h : card.ss ≠ ownStation s) : ¬ isOwn s card = true := fun ho => h (decide_eq_true_iff.1 ho)

theorem amountInRange_of {a : Nat} (hleast : 1 ≤ a) (hmost : a ≤ 9999999) : amountInRange a = true :=
  Bool.and_eq_true_iff.2 ⟨decide_eq_true hleast, decide_eq_true hmost⟩

section
variable (ht : s.station = .trading) (hn : slot < 8) (hfree : getSlot s slot = none) (hv : cardValid card = true)
  (foreign : card.ss ≠ ownStation s)
include ht hn hfree hv foreign

theorem redeemChecks_foreign {amount : Nat} (ha : amountInRange amount = true) :
    firstFail (redeemChecks slot card amount s) = firstFail (homeChecks s card.ss ++
      [(!insideReserve s, .journalFull), (redeemInLimit s card.ss amount, .limit), (numberReady 0 s, .storeBusy)]) := by
  unfold redeemChecks
  rw [List.append_assoc, newWorkChecks_eq ht hn hfree, if_neg (not_isOwn foreign)]
  exact firstFail_of_pass hv (firstFail_of_pass ha rfl)

theorem creditCommandChecks_foreign (kind : CreditKind) {amount : Nat} (ha : amountInRange amount = true) :
    firstFail (creditCommandChecks kind slot card amount s) = firstFail (homeChecks s card.ss ++
      [(!insideReserve s, .journalFull), (creditInLimit s card.ss kind amount, .limit), (frameFree s, .storeBusy),
       (numberReady 1 s, .storeBusy)]) := by
  unfold creditCommandChecks
  rw [List.append_assoc, newWorkChecks_eq ht hn hfree, if_neg (not_isOwn foreign)]
  exact firstFail_of_pass hv (firstFail_of_pass ha rfl)

theorem enquireChecks_foreign :
    firstFail (enquireChecks slot card s) = firstFail (homeChecks s card.ss ++ [(numberReady 0 s, .storeBusy)]) := by
  unfold enquireChecks
  rw [List.append_assoc, newWorkChecks_eq ht hn hfree, if_neg (not_isOwn foreign)]
  exact firstFail_of_pass hv rfl

theorem freezeChecks_foreign :
    firstFail (freezeChecks slot card s) =
      firstFail (homeChecks s card.ss ++ [(!insideReserve s, .journalFull), (numberReady 0 s, .storeBusy)]) := by
  unfold freezeChecks
  rw [List.append_assoc, newWorkChecks_eq ht hn hfree, if_neg (not_isOwn foreign)]
  exact firstFail_of_pass hv rfl

/-- Foreign work whose home's checks fail with a status is refused with it (R62, R72). -/
theorem foreignWork_refused {p : PortStatus} {amount : Nat} (ha : amountInRange amount = true) (part : Bool)
    (ref : Option Nat) (kind : CreditKind) (h : ∀ cs, firstFail (homeChecks s card.ss ++ cs) = some p) :
    exec (.redeem slot card amount part ref) s = refusedWith (statusCode p) s ∧
      exec (creditCommand kind slot card amount ref) s = refusedWith (statusCode p) s ∧
      exec (.enquire slot card) s = refusedWith (statusCode p) s ∧
      exec (.freeze slot card) s = refusedWith (statusCode p) s := by
  have up := not_held_of_trading ht
  refine ⟨?_, ?_, ?_, ?_⟩
  · rw [exec_redeem]
    exact checkedCommand_refusedWith up ((redeemChecks_foreign ht hn hfree hv foreign ha).trans (h _))
  · rw [exec_creditCommand]
    exact checkedCommand_refusedWith up ((creditCommandChecks_foreign ht hn hfree hv foreign kind ha).trans (h _))
  · rw [exec_enquire]
    exact checkedCommand_refusedWith up ((enquireChecks_foreign ht hn hfree hv foreign).trans (h _))
  · rw [exec_freeze]
    exact checkedCommand_refusedWith up ((freezeChecks_foreign ht hn hfree hv foreign).trans (h _))

variable (hpres : rosterPresent s card.ss = true) (room : trackCount s < 32) (unstepped : (nextNumber s).2 = false)
include hpres room unstepped

theorem exec_foreignRedeem {amount : Nat} (part : Bool) (ref : Option Nat) (ha : amountInRange amount = true)
    (reserve : 512 < freeCount s.journal) (limit : redeemInLimit s card.ss amount = true) :
    exec (.redeem slot card amount part ref) s =
      .next (accepted [] (startVolatile (freeTrackPlace s)
        ⟨.hold, card.ss, 0, openPeriod s, card.serial, amount, none, .sent⟩ (some slot) part
        (putSlot slot { newSlot .authorising .redeem card amount ref with allowPartial := part } s))) := by
  have checks : firstFail (redeemChecks slot card amount s) = none := by
    rw [redeemChecks_foreign ht hn hfree hv foreign ha, homeChecks_eq hpres room]
    exact firstFail_of_pass (by rw [insideReserve_eq_false_iff.2 reserve]; rfl)
      (firstFail_of_pass limit (firstFail_of_pass (numberReady_of unstepped) rfl))
  rw [exec_redeem, checkedCommand_run _ (not_held_of_trading ht) checks, runRedeem, if_neg (not_isOwn foreign)]

theorem exec_foreignEnquire :
    exec (.enquire slot card) s =
      .next (accepted [] (startVolatile (freeTrackPlace s) (statusRec s .enquire card) (some slot) false
        (putSlot slot (newSlot .enquiring .enquire card 0 none) s))) := by
  have checks : firstFail (enquireChecks slot card s) = none := by
    rw [enquireChecks_foreign ht hn hfree hv foreign, homeChecks_eq hpres room]
    exact firstFail_of_pass (numberReady_of unstepped) rfl
  rw [exec_enquire, checkedCommand_run _ (not_held_of_trading ht) checks, runEnquire, if_neg (not_isOwn foreign)]

theorem exec_foreignFreeze (reserve : 512 < freeCount s.journal) :
    exec (.freeze slot card) s =
      .next (accepted [] (startVolatile (freeTrackPlace s) (statusRec s .freeze card) (some slot) false
        (putSlot slot (newSlot .enquiring .freeze card 0 none) s))) := by
  have checks : firstFail (freezeChecks slot card s) = none := by
    rw [freezeChecks_foreign ht hn hfree hv foreign, homeChecks_eq hpres room]
    exact firstFail_of_pass (by rw [insideReserve_eq_false_iff.2 reserve]; rfl)
      (firstFail_of_pass (numberReady_of unstepped) rfl)
  rw [exec_freeze, checkedCommand_run _ (not_held_of_trading ht) checks, runFreeze, if_neg (not_isOwn foreign)]

end

/-- CANCEL of a foreign hold whose home is heard makes its RELEASE entry (R79). -/
theorem exec_foreignCancel {sl : Slot} {h : HoldRef} (ht : s.station = .trading) (hn : slot < 8)
    (hh : heldSlot s slot = some (sl, h)) (foreign : sl.card.ss ≠ ownStation s)
    (hpres : rosterPresent s sl.card.ss = true) (room : trackCount s < 32) (unstepped : (nextNumber s).2 = false) :
    exec (.cancel slot) s =
      .next (accepted [] (startVolatile (freeTrackPlace s) (releaseRec sl.card.ss sl.card.serial h.tag h.period) (some slot)
        false (putSlot slot (settlingSlot sl .cancel sl.amount) s))) := by
  have home : heldHome s slot = sl.card.ss := by rw [heldHome, hh]; rfl
  have checks : firstFail (cancelChecks slot s) = none := by
    unfold cancelChecks
    rw [heldChecks_eq ht hn hh, heldOwn_of_heldSlot hh, if_neg (not_isOwn foreign), home, homeChecks_eq hpres room]
    exact firstFail_of_pass (numberReady_of unstepped) rfl
  rw [exec_cancel, checkedCommand_run _ (not_held_of_trading ht) checks, runCancel, hh]
  dsimp only
  rw [if_neg (not_isOwn foreign)]

end

end Sys2Proof.Machine

namespace Sys2Proof

open Machine

/-- Settles O19: the checks of foreign work pass and its entry is made and offered, or the home's checks refuse it. -/
theorem foreignWorkSendsItsRequest : Obligations.ForeignWorkSendsItsRequest := by
  refine ⟨fun s slot ht hn room unstepped covered unheld => ⟨?_, ?_⟩, ?_⟩
  · intro card amount part ref hfree hv foreign hpres live
    refine ⟨fun hleast hmost reserve limit => ?_, ?_, fun reserve => ?_⟩
    · exact sendsNewEntry_of ht unstepped covered unheld live rfl rfl (exec_foreignRedeem ht hn hfree hv foreign hpres room
        unstepped part ref (amountInRange_of hleast hmost) reserve limit)
    · exact sendsNewEntry_of ht unstepped covered unheld live rfl rfl
        (exec_foreignEnquire ht hn hfree hv foreign hpres room unstepped)
    · exact sendsNewEntry_of ht unstepped covered unheld live rfl rfl
        (exec_foreignFreeze ht hn hfree hv foreign hpres room unstepped reserve)
  · intro sl h hh foreign hpres live
    exact sendsNewEntry_of ht unstepped covered unheld live rfl rfl
      (exec_foreignCancel ht hn hh foreign hpres room unstepped)
  · intro s slot amount card part ref kind ht hn hfree hv foreign hleast hmost
    have refused := fun p => foreignWork_refused (p := p) ht hn hfree hv foreign (amountInRange_of hleast hmost) part ref kind
    exact ⟨fun absent => refused .homeAbsent (homeChecks_absent absent),
      fun hpres full => refused .trackerFull (homeChecks_full hpres full)⟩

end Sys2Proof
end


section
/-! How a close begins and completes, and what its stored frames bring about (R96, R97, R109 to R111, R122). -/
namespace Sys2Proof.Machine

section
variable {s t : State} {v : CloseView}

/-! ### Close begin (R96, R97) -/

/-- A close whose conditions hold begins with its CLOSE_BEGIN frame (R97). -/
theorem examineBegin_of (h : canBegin s = true) :
    examineBegin s = examineCompletion (examineRows { closeBegun s with
      control := withFrame .closeBegin [.generation (closeBegun s).positions.gen] []
        (.notice ⟨.closeBegun, .number (openPeriod s), 0⟩) s }) := by
  have free : frameFree s = true := (canBegin_iff.1 h).2.2.2.2.2
  have accepted := acceptFrame_eq (fm := .closeBegin) (ps := []) (c := .notice ⟨.closeBegun, .number (openPeriod s), 0⟩)
    (ts := [.generation (closeBegun s).positions.gen]) (s := s) (t := closeBegun s) rfl free rfl
  rw [examineBegin, if_pos h, beginClose_eq, accepted]

/-- A target below the open period begins no close (R96). -/
theorem canBegin_of_target (h : s.positions.target < openPeriod s) : canBegin s = false :=
  Bool.eq_false_iff.2 fun b => absurd (canBegin_iff.1 b).2.2.1 (Nat.not_le.2 h)

/-! ### Close completion (R109, R110) -/

theorem canComplete_iff :
    canComplete s v = true ↔ s.station = .trading ∧ s.positions.gen.closing = true ∧ v.completed = false ∧
      ((counterparts s).all fun j => rowSettled (closeRow v j).state) = true ∧ v.ownFinal = true ∧
      tabAny (fun g => grantOpen g && !grantFree (lastClosed s) g && g.period = closingPeriod s) s.requests.grants = false ∧
      frameFree s = true := by
  simp only [canComplete, Bool.and_eq_true, Bool.not_eq_true', decide_eq_true_eq, and_assoc]

theorem examineCompletion_not (hv : s.positions.view = some v) (h : canComplete s v = false) : examineCompletion s = s := by
  rw [examineCompletion, hv]
  exact if_neg (by simp [h])

theorem examineCompletion_of (hv : s.positions.view = some v) (h : canComplete s v = true) :
    examineCompletion s = runCompletion s v := by
  rw [examineCompletion, hv]
  exact if_pos h

/-- A claim as the journal and the notices it leaves (R131, R135). -/
theorem claim_eq (ds : List Draft) (s : State) :
    claim ds s = ((claimRun ds s.journal).1, { s with
      journal := (claimRun ds s.journal).2
      notices := if reserveSlots < freeCount s.journal ∧ freeCount (claimRun ds s.journal).2 ≤ reserveSlots then
          postNotice ⟨.journalReserve, .none, freeCount (claimRun ds s.journal).2⟩ s.notices
        else s.notices }) := by
  unfold claim
  split
  · next enters => simp only [if_pos enters]; rfl
  · next stays => simp only [if_neg stays]

/-- The first entry of a run carries the next index (R129). -/
theorem claimRun_head (d : Draft) (ds : List Draft) (j : Journal) :
    (((claimRun (d :: ds) j).1.map (·.2)).head?.map (·.index)) = some j.next := rfl

theorem statementRun_head (s : State) (v : CloseView) :
    (statementRun s v).head? = some ⟨.statement, closingPeriod s, .head (statementHead s v)⟩ := rfl

/-- The run takes 64 slots at most: the 63 rows and the head leave the orphans what is left (R122). -/
theorem statementRun_length (s : State) (v : CloseView) :
    (exceptionRows s v).length + 1 ≤ (statementRun s v).length ∧ (statementRun s v).length ≤ 64 := by
  have rows : (exceptionRows s v).length ≤ 63 :=
    calc (exceptionRows s v).length ≤ (counterparts s).length := List.length_filter_le _ _
      _ ≤ ((List.range 63).map (· + 1)).length := List.length_filter_le _ _
      _ = 63 := by rw [List.length_map, List.length_range]
  have orphans : (listedOrphans s v).length ≤ 64 - (1 + (exceptionRows s v).length) := List.length_take_le _ _
  have run : (statementRun s v).length = (exceptionRows s v).length + 1 + (listedOrphans s v).length := by
    simp only [statementRun, List.length_append, List.length_cons, List.length_map]
  omega

/-- The CLOSE_END frame carries the statement run and the generation record without its closing period (R110). -/
theorem runCompletion_eq (free : frameFree s = true) :
    runCompletion s v = { s with
      positions := { s.positions with view := some { v with deadline := none, completed := true } }
      journal := (claimRun (statementRun s v) s.journal).2
      notices := (if 512 < freeCount s.journal ∧ freeCount (claimRun (statementRun s v) s.journal).2 ≤ 512 then
          postNotice ⟨.journalReserve, .none, freeCount (claimRun (statementRun s v) s.journal).2⟩ s.notices
        else s.notices)
      control := withFrame .closeEnd
        [.journal ((claimRun (statementRun s v) s.journal).1.map fun k => k.2),
         .generation ⟨s.positions.gen.openSide, s.positions.gen.openPeriod, false, closingPeriod s⟩]
        ((claimRun (statementRun s v) s.journal).1.map fun k => k.1)
        (.notice ⟨.closeDone, .number (closingPeriod s), s.journal.next⟩) s } := by
  have index : ((((claimRun (statementRun s v) s.journal).1.map (·.2)).head?.map (·.index)).getD 0) = s.journal.next := rfl
  unfold runCompletion
  dsimp only
  rw [claim_eq]
  dsimp only
  rw [index]
  exact congrArg (setView { v with deadline := none, completed := true })
    (acceptFrame_eq (s := s) (by rfl) free (by rfl))

/-! ### A stored CLOSE_BEGIN and CLOSE_END (R97, R111, R137) -/

/-- With no wait standing, a stored frame releases none (R164). -/
theorem releaseWaits_none (n : Nat) (h : s.control.waits = []) : releaseWaits n s = s := by
  unfold releaseWaits
  rw [h]
  show { s with control := { s.control with waits := [] } } = s
  rw [← h]

theorem endProgram_trading (p : Program) (rest : List Program) (ht : s.station = .trading) :
    endProgram p rest .completed s = programDone p (programEnds p rest .completed s) := by
  rw [endProgram, ht]
  rfl

/-- In TRADING the program at the head of the queue ends with what it brings about (R158). -/
theorem exec_programComplete_trading {p : Program} {rest : List Program} (hq : s.control.queue = p :: rest)
    (ht : s.station = .trading) :
    exec (.programComplete .completed) s = .next (programDone p { s with control := programmed p rest s }) := by
  show answer _ = _
  rw [hq]
  exact congrArg Host.Outcome.next (endProgram_trading p rest ht)

/-- A frame's program that ends in TRADING stores the frame (R162). -/
theorem exec_frameProgram {slot : Nat} {frm : Frame} {rest : List Program} {pf : PendingFrame}
    (hq : s.control.queue = .frame slot frm :: rest) (hf : (s.control.frames.find? fun k => k.slot = slot) = some pf)
    (ht : s.station = .trading) :
    exec (.programComplete .completed) s =
      .next (frameStored pf { s with control := programmed (.frame slot frm) rest s }) := by
  have found : ({ s with control := programmed (.frame slot frm) rest s } : State).control.frames.find?
      (fun k => k.slot = slot) = some pf := hf
  rw [exec_programComplete_trading hq ht, programDone, found]

/-- Storing a close's frame, no wait standing, posts its notice and offers a PRESENCE (R51, R97, R111). -/
theorem frameStored_close {pf : PendingFrame} {n : NoticeRec} (hp : offersPresence pf.frame.format = true)
    (hc : pf.frame.continuation = .notice n)
    (hw : (storedEffect pf.frame (markStored pf.frame.number s)).control.waits = []) :
    frameStored pf s =
      (if pf.frame.format = .closeEnd then examineBegin else id)
        (offerPresence (post n.kind n.subject n.code (storedEffect pf.frame (markStored pf.frame.number s)))) := by
  have waits : (offerPresence (post n.kind n.subject n.code
      (storedEffect pf.frame (markStored pf.frame.number s)))).control.waits = [] := by
    simpa using hw
  unfold frameStored
  dsimp only
  rw [hc, if_pos hp, show announce pf.slotFreed (.notice n) = post n.kind n.subject n.code from rfl,
    releaseWaits_none _ waits]
  split <;> rfl

end

end Sys2Proof.Machine

namespace Sys2Proof

open Machine

/-- Settles O49: each clause by the conditions of R96 and R109, or by what the stored frame's format brings about. -/
theorem closesBeginAndComplete : Obligations.ClosesBeginAndComplete := by
  refine fun s ht => ⟨fun stays => ?_, fun opened reached room reserve free => ?_, fun v hv => ⟨fun stays => ?_, ?_⟩, ?_, ?_⟩
  · have no : canBegin s = false := by
      rcases stays with closing | low | rest
      · exact canBegin_of_no (.inl closing)
      · exact canBegin_of_target low
      · exact canBegin_of_no (.inr rest)
    exact congrArg Host.Outcome.next (examineBegin_of_not no)
  · have can : canBegin s = true :=
      canBegin_iff.2 ⟨ht, opened, reached, room, insideReserve_eq_false_iff.2 reserve, free⟩
    exact congrArg Host.Outcome.next (examineBegin_of can)
  · have no : canComplete s v = false := by
      refine Bool.eq_false_iff.2 fun can => ?_
      obtain ⟨-, -, uncompleted, settled, final, -, free⟩ := canComplete_iff.1 can
      rcases stays with h | h | h | h
      · simp [uncompleted] at h
      · simp [final] at h
      · exact absurd (frameFree_iff.1 free) (Nat.not_lt.2 h)
      · obtain ⟨j, hj, unsettled⟩ := List.any_eq_true.1 h
        simp [List.all_eq_true.1 settled j hj] at unsettled
    exact congrArg Host.Outcome.next (examineCompletion_not hv no)
  · intro closing uncompleted final free settled ended
    have can : canComplete s v = true := by
      refine canComplete_iff.2 ⟨ht, closing, uncompleted, settled, final, ?_, free⟩
      exact List.any_eq_false.2 fun p hp => by
        simpa only [Bool.not_eq_true, Bool.not_eq_true'] using List.all_eq_true.1 ended p hp
    refine ⟨congrArg Host.Outcome.next ((examineCompletion_of hv can).trans (runCompletion_eq free)),
      statementRun_head s v, statementRun_length s v⟩
  · intro slot frm rest pf gen n hq hf format carries hc hw
    have effect (u : State) : storedEffect pf.frame u = retire { u with positions := { u.positions with
        gen := { u.positions.gen with closing := false, lastClosed := gen.lastClosed }, view := none } } := by
      rw [storedEffect, format]
      dsimp only
      rw [closeEndStored, carries]
    rw [exec_frameProgram hq hf ht, frameStored_close (by rw [format]; rfl) hc (by rw [effect]; exact hw), effect,
      if_pos format]
    rfl
  · intro slot frm rest pf n hq hf format hc hw
    have effect (u : State) : storedEffect pf.frame u = u := by rw [storedEffect, format]
    rw [exec_frameProgram hq hf ht, frameStored_close (by rw [format]; rfl) hc (by rw [effect]; exact hw), effect,
      if_neg (by rw [format]; decide)]
    rfl

end Sys2Proof
end


section
/-! A PRESENCE handed over: the roster entry, the notices that what it calls for posts, the requests offered again, and the
POSITION called for (R59, R61, R62, R83, R101, R103). -/

namespace Sys2Proof.Machine

section
variable {s t u : State} {j : Nat}

/-! ### Work that leaves the till slots alone and of the notices only posts some -/

/-- The till slots are as they were, and notices were posted, if anything. -/
structure Told (s t : State) : Prop where
  slots : t.slots = s.slots
  notices : ∃ more : List NoticeRec, t.notices = more.foldl (fun u n => postNotice n u) s.notices

theorem Told.of_eq (hs : t.slots = s.slots) (hn : t.notices = s.notices) : Told s t := ⟨hs, [], hn⟩

theorem Told.refl (s : State) : Told s s := .of_eq rfl rfl

theorem Told.trans (h : Told s t) (k : Told t u) : Told s u where
  slots := k.slots.trans h.slots
  notices := by
    obtain ⟨first, hfirst⟩ := h.notices
    obtain ⟨later, hlater⟩ := k.notices
    exact ⟨first ++ later, by rw [hlater, hfirst, List.foldl_append]⟩

theorem Told.ite {c : Prop} [Decidable c] {a b : State} (ha : c → Told s a) (hb : ¬ c → Told s b) :
    Told s (if c then a else b) := by
  split
  · next h => exact ha h
  · next h => exact hb h

/-- What each step of a fold posts, the fold posts. -/
theorem Told.foldl {α : Type} {f : State → α → State} (h : ∀ t a, Told t (f t a)) (l : List α) (s : State) :
    Told s (l.foldl f s) := by
  induction l generalizing s with
  | nil => exact .refl s
  | cons a l ih => exact (h s a).trans (ih _)

theorem OnlyOffers.told (h : OnlyOffers s t) : Told s t := .of_eq h.slots h.notices

theorem post_told (kind : NoticeKind) (x : Subject) (c : Nat) (s : State) : Told s (post kind x c s) :=
  ⟨rfl, [⟨kind, x, c⟩], rfl⟩

theorem claim_told (ds : List Draft) (s : State) : Told s (claim ds s).2 := by
  have claimed : Told s { s with journal := (claimRun ds s.journal).2 } := .of_eq rfl rfl
  exact .ite (fun _ => claimed.trans (post_told _ _ _ _)) fun _ => claimed

theorem acceptFrame_told (fm : FrameFormat) (ts : List Target) (ps : List Nat) (c : Continuation) (s : State) :
    Told s (acceptFrame fm ts ps c s) := .of_eq (by simp) (by simp)

theorem setCloseRow_told (j : Nat) (c : CloseRow) (s : State) : Told s (setCloseRow j c s) := .of_eq (by simp) (by simp)

theorem callSend_told (j : Nat) (s : State) : Told s (callSend j s) := .of_eq (by simp) (by simp)

theorem callSendPresent_told (j : Nat) (s : State) : Told s (callSendPresent j s) :=
  .ite (fun _ => callSend_told j s) fun _ => .refl s

theorem postAfter_told (ns : List Nat) (n : NoticeRec) (s : State) : Told s (postAfter ns n s) := by
  cases ns with
  | nil => exact post_told _ _ _ s
  | cons => exact .of_eq rfl rfl

theorem leavePending_told (j : Nat) (s : State) : Told s (leavePending j s) := by
  unfold leavePending
  dsimp only
  split
  · exact .ite (fun _ => (setCloseRow_told _ _ s).trans (callSendPresent_told _ _)) fun _ =>
      ((setCloseRow_told _ _ s).trans (postAfter_told _ _ _)).trans (callSendPresent_told _ _)
  · exact .ite (fun _ => setCloseRow_told _ _ s) fun _ => (setCloseRow_told _ _ s).trans (callSendPresent_told _ _)

theorem examineRow_told (j : Nat) (s : State) : Told s (examineRow j s) := by
  unfold examineRow
  split
  · exact .refl s
  · refine .ite (fun _ => .refl s) fun _ => .ite (fun _ => .ite (fun _ => .of_eq rfl rfl) fun _ => .refl s) fun _ =>
      .ite (fun _ => .refl s) fun _ => .ite (fun _ => ?_) fun _ => .refl s
    split
    · exact leavePending_told j s
    · exact setCloseRow_told _ _ s

theorem examineRows_told (s : State) : Told s (examineRows s) := .foldl (fun t j => examineRow_told j t) _ s

theorem runCompletion_told (s : State) (v : CloseView) : Told s (runCompletion s v) :=
  ((claim_told _ s).trans (acceptFrame_told _ _ _ _ _)).trans (.of_eq rfl rfl)

theorem examineCompletion_told (s : State) : Told s (examineCompletion s) := by
  unfold examineCompletion
  split
  · exact .ite (fun _ => runCompletion_told s _) fun _ => .refl s
  · exact .refl s

theorem rosterDown_told (j : Nat) (s : State) : Told s (rosterDown j s) := by
  unfold rosterDown
  split
  · exact .ite (fun _ => (setCloseRow_told _ _ s).trans (examineCompletion_told _)) fun _ => .refl s
  · exact .refl s

theorem examineBegin_told (s : State) : Told s (examineBegin s) := by
  have begun : Told s (closeBegun s) := .of_eq rfl rfl
  refine .ite (fun _ => ?_) fun _ => .refl s
  rw [beginClose_eq]
  exact ((begun.trans (acceptFrame_told _ _ _ _ _)).trans (examineRows_told _)).trans (examineCompletion_told _)

theorem raiseTarget_told (p : Nat) (s : State) : Told s (raiseTarget p s) := by
  have raised : Told s (targeted p s) := .of_eq rfl rfl
  have offered : Told (targeted p s) (offerPresence (targeted p s)) := (offerPresence_onlyOffers _).told
  exact .ite (fun _ => (raised.trans offered).trans (examineBegin_told _)) fun _ => .refl s

theorem presenceRaises_told (period target : Nat) (s : State) : Told s (presenceRaises period target s) :=
  (raiseTarget_told target s).trans (raiseTarget_told _ _)

theorem resendInDoubt_onlyOffers (j : Nat) (s : State) : OnlyOffers s (resendInDoubt j s) := by
  unfold resendInDoubt
  generalize s.tracker.entries = l
  induction l generalizing s with
  | nil => exact .refl s
  | cons p l ih =>
    refine OnlyOffers.trans ?_ (ih _)
    dsimp only
    split
    · exact offerRequest_onlyOffers _ _ s
    · exact .refl s

theorem resendPosition_told (j period : Nat) (closing : Bool) (s : State) : Told s (resendPosition j period closing s) := by
  unfold resendPosition
  split
  · exact .ite (fun _ => callSend_told j s) fun _ => .refl s
  · exact .refl s

/-! ### The close target (R94) -/

theorem rosterDown_onlyView (j : Nat) (s : State) : OnlyView s (rosterDown j s) := by
  unfold rosterDown
  split
  · split
    · exact (setCloseRow_onlyView _ _ s).trans (examineCompletion_onlyView _)
    · exact .refl s
  · exact .refl s

theorem resendPosition_positions (j period : Nat) (closing : Bool) (s : State) :
    (resendPosition j period closing s).positions = s.positions := by
  unfold resendPosition
  split
  · split <;> simp
  · rfl

/-- A raise to a target already held is none (R94). -/
theorem raiseTarget_of_le {p : Nat} (h : p ≤ s.positions.target) : raiseTarget p s = s :=
  if_neg fun r => Nat.not_lt.2 h r.2

theorem raiseTarget_target (p : Nat) (ht : s.station = .trading) :
    (raiseTarget p s).positions.target = max s.positions.target p := by
  by_cases h : s.positions.target < p
  · rw [raiseTarget, if_pos ⟨ht, h⟩, examineBegin_target, (offerPresence_onlyOffers _).positions]
    exact (Nat.max_eq_right h.le).symm
  · rw [raiseTarget_of_le (Nat.not_lt.1 h), Nat.max_eq_left (Nat.not_lt.1 h)]

theorem presenceRaises_target (period target : Nat) (ht : s.station = .trading) :
    (presenceRaises period target s).positions.target = max s.positions.target (max target (period - 1)) := by
  unfold presenceRaises
  rw [raiseTarget_target _ ((raiseTarget_clerical target s).station.trans ht), raiseTarget_target _ ht, Nat.max_assoc]

theorem presenceRaises_none {period target : Nat} (low : target ≤ s.positions.target)
    (below : period - 1 ≤ s.positions.target) : presenceRaises period target s = s := by
  rw [presenceRaises, raiseTarget_of_le low, raiseTarget_of_le below]

/-! ### The roster step (R59) -/

theorem tabGetD_tabPutD {α : Type} [DecidableEq α] (blank : α) (t : Tab α) (k : Nat) (v : α) :
    tabGetD (tabPutD blank t k v) k blank = v := by
  unfold tabGetD tabPutD
  split
  · next h => rw [tabGet_tabDel_self, h]; rfl
  · rw [tabGet_tabPut_self]; rfl

/-- The state with the roster entry of a PRESENCE's station rewritten, its notice posted when the state changes (R59). -/
theorem noteStation_eq (j : Nat) (halted : Bool) (period target : Nat) (s : State) :
    noteStation j halted period target s = { s with
      link := { s.link with
        roster := tabPutD RosterEntry.blank s.link.roster j
          { rosterEntry s j with
            state := if halted then .halted else .present, lastPeriod := period, target := target } }
      notices := if (rosterEntry s j).state = (if halted then Presence.halted else Presence.present) then s.notices
        else postNotice ⟨if halted then .stationHalted else .stationPresent, .number j, 0⟩ s.notices } := by
  unfold noteStation
  dsimp only
  by_cases same : (rosterEntry s j).state = (if halted then Presence.halted else Presence.present)
  · rw [if_pos same, if_pos same]
    rfl
  · rw [if_neg same, if_neg same]
    cases halted <;> rfl

/-- What a PRESENCE calls for once the roster has it: the clearing unit reads it, and in TRADING the raises and the resends
follow (R61, R62, R105). -/
def presenceNews (j : Nat) (halted : Bool) (period target : Nat) (closing : Bool) (s : State) : State :=
  if s.station = .trading then
    if halted = true then rosterDown j s
    else resendPosition j period closing (resendInDoubt j (presenceRaises period target s))
  else s

/-- A PRESENCE handed over rewrites the roster and calls for what it calls for (R55, R59). -/
theorem exec_presence {f : LinkFrame} {rest : List LinkFrame} {halted closing : Bool} {period target : Nat}
    (hl : listening s = true) (hrx : s.link.rx = f :: rest) (hp : f.payload = .presence halted period target closing) :
    exec .presence s = .next (presenceNews f.src halted period target closing
      (noteStation f.src halted period target (taken rest s))) := by
  have kind : isPresence f.payload = true := by rw [hp]; rfl
  have station : (noteStation f.src halted period target (taken rest s)).station = s.station := by rw [noteStation_eq]; rfl
  have took : takePresence f (taken rest s) = if isTrading (taken rest s) then
      if halted = true then rosterDown f.src (noteStation f.src halted period target (taken rest s))
      else resendPosition f.src period closing (resendInDoubt f.src
        (presenceRaises period target (noteStation f.src halted period target (taken rest s))))
      else noteStation f.src halted period target (taken rest s) := by
    rw [takePresence, hp]
  refine (handOver_listening (take := takePresence) hl hrx kind).trans (congrArg Host.Outcome.next (took.trans ?_))
  rw [presenceNews, station]
  exact if_congr decide_eq_true_iff rfl rfl

theorem presenceNews_clerical (j : Nat) (halted : Bool) (period target : Nat) (closing : Bool) (s : State) :
    Clerical s (presenceNews j halted period target closing s) := by
  unfold presenceNews
  split
  · split
    · exact rosterDown_clerical j s
    · exact ((presenceRaises_clerical _ _ s).trans (resendInDoubt_clerical _ _)).trans (resendPosition_clerical _ _ _ _)
  · exact .refl s

theorem presenceNews_told (j : Nat) (halted : Bool) (period target : Nat) (closing : Bool) (s : State) :
    Told s (presenceNews j halted period target closing s) :=
  .ite (fun _ => .ite (fun _ => rosterDown_told j s) fun _ =>
    ((presenceRaises_told _ _ s).trans (resendInDoubt_onlyOffers _ _).told).trans (resendPosition_told _ _ _ _))
    fun _ => .refl s

/-- Only the PRESENCE of a TRADING station raises the target, and only of a TRADING one (R61, R94). -/
theorem presenceNews_target (j : Nat) (halted : Bool) (period target : Nat) (closing : Bool) (s : State) :
    (presenceNews j halted period target closing s).positions.target =
      if s.station = .trading ∧ halted = false then max s.positions.target (max target (period - 1))
      else s.positions.target := by
  unfold presenceNews
  by_cases ht : s.station = .trading
  · cases halted
    · rw [if_pos ht, if_neg Bool.false_ne_true, resendPosition_positions, (resendInDoubt_onlyOffers _ _).positions,
        presenceRaises_target _ _ ht, if_pos ⟨ht, rfl⟩]
    · rw [if_pos ht, if_pos rfl, (rosterDown_onlyView j s).target, if_neg fun h => Bool.noConfusion h.2]
  · rw [if_neg ht, if_neg fun h => ht h.1]

/-! ### Requests offered again (R50, R83) -/

/-- A tracker entry once the due ones have been offered, `k` of them finding room (R83). -/
def resentEntry (due : Tab Track) (k : Nat) (p : Nat × Track) : Nat × Track :=
  if due.contains p then (p.1, { p.2 with timer := if (due.take k).contains p then none else some 400 }) else p

/-- The state once the due entries have been offered: those that find room join the transmit queue (R83). -/
def resent (due : Tab Track) (s : State) : State :=
  { s with
    link := { s.link with
      tx := s.link.tx ++ (due.take (16 - s.link.tx.length)).map fun p => requestFrame p.2 }
    tracker := { s.tracker with entries := s.tracker.entries.map (resentEntry due (16 - s.link.tx.length)) } }

theorem resent_nil (s : State) : resent [] s = s := by
  have same : s.tracker.entries.map (resentEntry [] (16 - s.link.tx.length)) = s.tracker.entries :=
    List.map_id'' (fun _ => rfl) _
  unfold resent
  rw [same, List.take_nil, List.map_nil, List.append_nil]

theorem resentEntry_fst (due : Tab Track) (k : Nat) (p : Nat × Track) : (resentEntry due k p).1 = p.1 := by
  unfold resentEntry
  split <;> rfl

theorem tabPut_cons {α : Type} (q : Nat × α) (t : Tab α) (k : Nat) (v : α) :
    tabPut (q :: t) k v =
      if k < q.1 then (k, v) :: q :: t else if k = q.1 then (k, v) :: t else q :: tabPut t k v := rfl

/-- A write to a place of a mapped table is the map with that place's entry changed. -/
theorem tabPut_map_of_mem {α : Type} {f g : Nat × α → Nat × α} {p : Nat × α} {v : α} (keys : ∀ q, (f q).1 = q.1)
    (here : g p = (p.1, v)) :
    ∀ {t : Tab α}, tabWf t = true → p ∈ t → (∀ q ∈ t, q ≠ p → g q = f q) → tabPut (t.map f) p.1 v = t.map g
  | q :: t, wf, mem, away => by
    have above : ∀ r ∈ t, q.1 < r.1 := fun r hr => List.rel_of_pairwise_cons ((tabWf_iff _).1 wf) hr
    have wft : tabWf t = true := tabWf_sublist (List.sublist_cons_self q t) wf
    rw [List.map_cons, List.map_cons]
    rcases List.mem_cons.1 mem with rfl | mem
    · have tail : t.map f = t.map g := List.map_congr_left fun r hr =>
        (away r (List.mem_cons_of_mem _ hr) fun e => Nat.lt_irrefl _ (e ▸ above r hr)).symm
      rw [here, ← tail, tabPut_cons, keys, if_neg (Nat.lt_irrefl _), if_pos rfl]
    · have ih := tabPut_map_of_mem keys here wft mem fun r hr => away r (List.mem_cons_of_mem _ hr)
      have low := above p mem
      have other : g q = f q := away q List.mem_cons_self fun e => Nat.lt_irrefl _ (e ▸ low)
      rw [other, ← ih, tabPut_cons, keys, if_neg (Nat.lt_asymm low), if_neg (Nat.ne_of_gt low)]

/-- A frame is queued for an entry as before, or it is one of those offered (R83). -/
theorem requestQueued_resent (due : Tab Track) (s : State) (tr : Track) :
    requestQueued (resent due s) tr = (requestQueued s tr || (due.take (16 - s.link.tx.length)).any fun q =>
      isRequest (requestFrame q.2).payload && q.2.data.home = tr.data.home && q.2.data.reqNo = tr.data.reqNo) := by
  unfold requestQueued
  rw [resent, List.any_append, List.any_map]
  rfl

/-- After some were offered an entry is due as before, unless one of those offered has its key (R83). -/
theorem resendDue_resent (due : Tab Track) (s : State) (j : Nat) (tr : Track) :
    resendDue (resent due s) j tr = (resendDue s j tr && !(due.take (16 - s.link.tx.length)).any fun q =>
      isRequest (requestFrame q.2).payload && q.2.data.home = tr.data.home && q.2.data.reqNo = tr.data.reqNo) := by
  unfold resendDue
  rw [requestQueued_resent, Bool.not_or, ← Bool.and_assoc]
  rfl

/-- One more due entry finds room when those before it left some. -/
theorem take_concat {α : Type} (d : List α) (p : α) (k : Nat) :
    (d ++ [p]).take k = d.take k ++ if d.length < k then [p] else [] := by
  rw [List.take_append]
  split
  · next room => rw [List.take_of_length_le (l := [p]) (by simp only [List.length_cons, List.length_nil]; omega)]
  · next full => rw [Nat.sub_eq_zero_of_le (Nat.not_lt.1 full), List.take_zero]

theorem resent_room (due : Tab Track) (s : State) :
    (resent due s).link.tx.length < 16 ↔ due.length < 16 - s.link.tx.length := by
  simp only [resent, List.length_append, List.length_map, List.length_take]
  omega

theorem resentEntry_concat_self {d : Tab Track} {p : Nat × Track} (k : Nat) (fresh : p ∉ d) :
    resentEntry (d ++ [p]) k p = (p.1, { p.2 with timer := if d.length < k then none else some 400 }) := by
  have offered : ((d ++ [p]).take k).contains p = decide (d.length < k) := by
    have none_before : p ∉ d.take k := fun h => fresh (List.mem_of_mem_take h)
    rw [take_concat]
    split <;> simp_all
  unfold resentEntry
  rw [if_pos (by simp), offered]
  simp only [decide_eq_true_eq]

theorem resentEntry_concat_ne (d : Tab Track) {p q : Nat × Track} (k : Nat) (h : q ≠ p) :
    resentEntry (d ++ [p]) k q = resentEntry d k q := by
  have offered : ((d ++ [p]).take k).contains q = (d.take k).contains q := by
    rw [take_concat]
    split <;> simp [h]
  unfold resentEntry
  rw [offered, show (d ++ [p]).contains q = d.contains q by simp [h]]

/-- An entry IN_DOUBT offered after others (R50, R83). -/
theorem offerRequest_resent {d : Tab Track} {p : Nat × Track} (wf : tabWf s.tracker.entries = true)
    (mem : p ∈ s.tracker.entries) (fresh : p ∉ d) (doubt : p.2.data.state = .inDoubt) :
    offerRequest p.1 p.2 (resent d s) = resent (d ++ [p]) s := by
  have tx : (if (resent d s).link.tx.length < 16 then (resent d s).link.tx ++ [requestFrame p.2] else (resent d s).link.tx) =
      (resent (d ++ [p]) s).link.tx := by
    simp only [resent_room]
    simp only [resent, take_concat, List.map_append, ← List.append_assoc]
    split <;> simp
  have entries : tabPut (resent d s).tracker.entries p.1
      { p.2 with
        attempts := if p.2.data.state = .sent then p.2.attempts + 1 else p.2.attempts
        timer := if (resent d s).link.tx.length < 16 then none else some 400 } =
      (resent (d ++ [p]) s).tracker.entries := by
    refine tabPut_map_of_mem (resentEntry_fst d _) ?_ wf mem fun q _ h => resentEntry_concat_ne d _ h
    simp only [resentEntry_concat_self _ fresh, resent_room, doubt]
    rfl
  rw [offerRequest_eq]
  unfold offeredEntry
  rw [tx, entries]
  rfl

/-- The due entries offered again in table order, no two with one number (R83). -/
theorem resendInDoubt_eq (wf : tabWf s.tracker.entries = true)
    (apart : ((resendsDue s j).map fun p => p.2.data.reqNo).Nodup) :
    resendInDoubt j s = resent (resendsDue s j) s := by
  have steps : ∀ l pre : Tab Track, s.tracker.entries = pre ++ l →
      l.foldl (fun s p => if resendDue s j p.2 then offerRequest p.1 p.2 s else s)
        (resent (pre.filter fun p => resendDue s j p.2) s) = resent (resendsDue s j) s := by
    intro l
    induction l with
    | nil => exact fun pre h => by rw [resendsDue, h, List.append_nil]; rfl
    | cons p l ih =>
      intro pre h
      have mem : p ∈ s.tracker.entries := by simp [h]
      refine Eq.trans (congrArg (fun t => l.foldl _ t) ?_) (ih (pre ++ [p]) (by simp [h]))
      dsimp only
      rw [List.filter_append, List.filter_singleton, resendDue_resent]
      cases due : resendDue s j p.2 with
      | false => simp
      | true =>
        have before : ∀ q ∈ pre.filter (fun p => resendDue s j p.2), q.2.data.reqNo ≠ p.2.data.reqNo := by
          intro q hq
          rw [resendsDue, h, List.filter_append, List.map_append, List.nodup_append] at apart
          exact apart.2.2 _ (List.mem_map_of_mem hq) _
            (List.mem_map_of_mem (List.mem_filter.2 ⟨List.mem_cons_self, due⟩))
        have unoffered : ((pre.filter fun p => resendDue s j p.2).take (16 - s.link.tx.length)).any (fun q =>
            isRequest (requestFrame q.2).payload && q.2.data.home = p.2.data.home && q.2.data.reqNo = p.2.data.reqNo) =
              false := by
          refine List.any_eq_false.2 fun q hq => ?_
          simp [before q (List.mem_of_mem_take hq)]
        have doubt : p.2.data.state = .inDoubt := by
          simp only [resendDue, Bool.and_eq_true, decide_eq_true_eq] at due
          exact due.1.1.1.1.2
        rw [unoffered]
        exact offerRequest_resent wf mem (fun hp => before p hp rfl) doubt
  have all := steps s.tracker.entries [] rfl
  rwa [List.filter_nil, resent_nil] at all

/-- The POSITION of a row called for when the row awaits it (R103). -/
theorem resendPosition_eq (j period : Nat) (closing : Bool) (s : State) :
    resendPosition j period closing s =
      if (s.positions.view.any fun v => !v.completed && (closeRow v j).state = .awaiting) = true ∧ closing = true ∧
        period = openPeriod s then callSend j s else s := by
  unfold resendPosition
  cases hv : s.positions.view with
  | none => simp
  | some v => exact if_congr (by simp [and_assoc]) rfl rfl

/-! ### POSITION sends (R101) -/

theorem mem_sendFrames {n : Nat} :
    n ∈ sendFrames j s ↔ ∃ pf ∈ s.control.frames, pf.stored = false ∧ pf.frame.number = n ∧
      (writesRow (closingSide s) j pf.frame = true ∨
        (writesGen pf.frame = true ∧
          ((s.positions.view.any fun v => v.completed) = false ∨ pf.frame.format ≠ .closeEnd))) := by
  have view : (s.positions.view.map (·.completed)).getD false = s.positions.view.any fun v => v.completed := by
    cases s.positions.view <;> rfl
  simp only [sendFrames, unstored, view, List.mem_map, List.mem_filter]
  refine exists_congr fun pf => ?_
  cases s.positions.view.any fun v => v.completed <;> simp <;> tauto

/-- A POSITION of the closing period is placed when the queue has room (R50, R101). -/
theorem placePosition_closing (ht : s.station = .trading) (opened : 1 ≤ openPeriod s) :
    placePosition j (closingPeriod s) s = { s with link := { s.link with
      tx := if s.link.tx.length < 16 then
          s.link.tx ++ [⟨j, stampOf (openPeriod s), 0,
            .position (closingPeriod s) (closingRow s j).fig (closingRow s j).haveYours, 0⟩]
        else s.link.tx } } := by
  have period : closingPeriod s + 1 = openPeriod s := Nat.sub_add_cancel opened
  unfold placePosition
  by_cases room : s.link.tx.length < 16
  · rw [if_pos ⟨ht, period, txRoom_iff.2 room⟩, if_pos room]
    rfl
  · rw [if_neg fun h => room (txRoom_iff.1 h.2.2), if_neg room]

/-- Waits that hold back something else stay as a send is joined to the one of its row. -/
theorem map_joinSend_other {p : Nat} (frames : List Nat) {ws : List Wait}
    (h : (ws.all fun w => w.item ≠ .positionSend j p) = true) : ws.map (joinSend j p frames) = ws :=
  (List.map_congr_left (g := id) fun w hw =>
    joinSend_other frames (of_decide_eq_true (List.all_eq_true.1 h w hw))).trans (List.map_id ws)

theorem callSend_joins {lw rw : List Wait} {fs : List Nat}
    (hw : s.control.waits = lw ++ ⟨fs, .positionSend j (closingPeriod s)⟩ :: rw)
    (other : ((lw ++ rw).all fun w => w.item ≠ .positionSend j (closingPeriod s)) = true) :
    callSend j s = { s with control := { s.control with
      waits := lw ++ ⟨fs ++ (sendFrames j s).filter (fun n => !fs.contains n),
        .positionSend j (closingPeriod s)⟩ :: rw } } := by
  have waiting : sendWaiting s j (closingPeriod s) = true := by simp [sendWaiting, hw]
  rw [List.all_append, Bool.and_eq_true] at other
  obtain ⟨_, joined⟩ | ⟨no, -⟩ | ⟨no, -⟩ := callSend_cases j s
  · rw [joined, hw, List.map_append, List.map_cons, map_joinSend_other _ other.1, map_joinSend_other _ other.2, joinSend,
      if_pos rfl]
  · rw [waiting] at no
    exact absurd no.symm Bool.false_ne_true
  · rw [waiting] at no
    exact absurd no.symm Bool.false_ne_true

end

end Sys2Proof.Machine

namespace Sys2Proof

open Machine

/-- Settles O37: the roster step is read off `noteStation`, what follows it off the work that the roster's news calls for. -/
theorem presenceUpdatesTheRoster : Obligations.PresenceUpdatesTheRoster := by
  refine ⟨fun s noted f rest halted period target closing hrx hp _ hnoted => ?_, fun s j ht opened => ⟨?_, ?_, ?_⟩⟩
  · have step : noteStation f.src halted period target (taken rest s) = noted :=
      (noteStation_eq _ _ _ _ _).trans hnoted.symm
    have handed := fun hs => exec_presence (listening_iff.2 hs) hrx hp
    have station : noted.station = s.station := by rw [hnoted]
    rw [step] at handed
    refine ⟨fun hh => ?_, fun ht down => ?_, fun hs => ?_, fun ht up low below wf apart => ?_⟩
    · rw [handed (.inr hh), presenceNews, if_neg (by rw [station, hh]; decide)]
    · rw [handed (.inl ht), presenceNews, if_pos (station.trans ht), if_pos down]
    · have kept := presenceNews_clerical f.src halted period target closing noted
      have told := presenceNews_told f.src halted period target closing noted
      have raised := presenceNews_target f.src halted period target closing noted
      refine ⟨_, handed hs, kept.rx.trans ?_, ?_, kept.custody.trans ?_, kept.requests.trans ?_, told.slots.trans ?_,
        kept.ident.trans ?_, kept.port.trans ?_, told.notices, raised.trans ?_⟩
      case refine_2 => rw [rosterEntry, kept.roster, hnoted]; exact tabGetD_tabPutD _ _ _ _
      all_goals rw [hnoted]
    · rw [handed (.inl ht), presenceNews, if_pos (station.trans ht), if_neg (by rw [up]; exact Bool.false_ne_true)]
      have positions : noted.positions = s.positions := by rw [hnoted]
      have due : resendsDue noted f.src = resendsDue s f.src := by rw [hnoted]; rfl
      have quiet : presenceRaises period target noted = noted :=
        presenceRaises_none (by rw [positions]; exact low) (by rw [positions]; exact below)
      have again : resendInDoubt f.src noted = resentTo f.src s noted := by
        rw [resendInDoubt_eq (by rw [hnoted]; exact wf) (by rw [due]; exact apart), due, hnoted]
        rfl
      have samePeriod : openPeriod (resentTo f.src s noted) = openPeriod s := congrArg (·.gen.openPeriod) positions
      rw [quiet, again, resendPosition_eq, samePeriod, show (resentTo f.src s noted).positions = s.positions from positions]
  · exact fun n => mem_sendFrames
  · intro idle
    obtain ⟨waiting, -⟩ | ⟨-, busy, waits⟩ | ⟨-, quiet, placed⟩ := callSend_cases j s
    · rw [idle] at waiting
      exact absurd waiting Bool.false_ne_true
    · exact ⟨fun h => absurd h busy, fun _ => waits⟩
    · exact ⟨fun _ => placed.trans (placePosition_closing ht opened), fun h => absurd quiet h⟩
  · exact fun lw fs rw hw other => callSend_joins hw other

end Sys2Proof
end

section
/-! Answers handed over to the request tracker: the entry an answer is taken for, and what the slot it serves shows (R65, R69). -/
namespace Sys2Proof.Machine

section
variable {s : State} {f : LinkFrame} {rest : List LinkFrame} {x : Int} {tp n : Nat} {tr : Track} {sl : Slot}

/-! ### Slots that show an outcome (R65) -/

theorem onHold_iff : onHold sl = true ↔ sl.state = .held ∨ sl.state = .settling := by simp [onHold]

theorem slotLeft_onHold (h : sl.state = .held ∨ sl.state = .settling) (s : State) : slotLeft sl s = reexamine sl.card.ss s :=
  if_pos (onHold_iff.2 h)

theorem slotLeft_free (h : sl.state ≠ .held) (k : sl.state ≠ .settling) (s : State) : slotLeft sl s = s :=
  if_neg fun on => (onHold_iff.1 on).elim h k

/-- The state with a slot's outcome written and its notice posted, before the clearing unit is told (R65). -/
def outcomeShown (n : Nat) (sl : Slot) (o : OutcomeRec) (s : State) : State :=
  { s with
    slots := tabPut s.slots n (slotOutcome sl o)
    notices := postNotice ⟨.slotOutcome, .number n, outcomeCode o.code⟩ s.notices }

theorem setOutcome_eq (h : getSlot s n = some sl) (o : OutcomeRec) :
    setOutcome n o s = slotLeft sl (outcomeShown n sl o s) := by
  rw [setOutcome, h]
  rfl

theorem linkedOutcome_eq (h : getSlot s n = some sl) (o : Slot → OutcomeRec) :
    linkedOutcome (some n) o s = slotLeft sl (outcomeShown n sl (o sl) s) := by
  rw [← setOutcome_eq h, linkedOutcome, h]

theorem enterHeld_eq (h : getSlot s n = some sl) (r : HoldRef) (o : OutcomeRec) :
    enterHeld n r o s = { s with
      slots := tabPut s.slots n { sl with
        state := .held, hold := some r, timer := some (holdLifeMs s), link := none, outcome := some o }
      notices := postNotice ⟨.slotOutcome, .number n, outcomeCode o.code⟩ s.notices } := by
  rw [enterHeld, h]
  rfl

/-! ### The entry an answer is taken for (R69) -/

section
variable {k : TrackKind}

theorem answersKind_hold {how : HoldAnswer} {g tag : Nat} {r : Option Reason} (h : k ≠ .hold) :
    answersKind (.holdAns how g tag r) k = false := by
  cases k with
  | hold => exact absurd rfl h
  | _ => rfl

theorem answersKind_capture {out : SettleAnswer} {g : Nat} (h : k ≠ .capture) :
    answersKind (.settleAns out .capture g) k = false := by
  cases k with
  | capture => exact absurd rfl h
  | _ => rfl

theorem answersKind_release {out : SettleAnswer} {g : Nat} (h : k ≠ .release) :
    answersKind (.settleAns out .release g) k = false := by
  cases k with
  | release => exact absurd rfl h
  | _ => rfl

theorem answersKind_credit {ca : CreditAnswer} {r : Option Reason} (h : k ≠ .credit .topup ∧ k ≠ .credit .refund) :
    answersKind (.creditAns ca r) k = false := by
  cases k with
  | credit kind => cases kind <;> simp_all
  | _ => rfl

theorem answersKind_status {vw : CardView} {av hd : Nat} (h : k ≠ .status .enquire ∧ k ≠ .status .freeze) :
    answersKind (.statusAns vw av hd) k = false := by
  cases k with
  | status action => cases action <;> simp_all
  | _ => rfl

end

theorem matchAnswer_none (h : findTrack s f.src f.reqNo = none) : matchAnswer s f x = none := by rw [matchAnswer, h]

theorem matchAnswer_not (h : findTrack s f.src f.reqNo = some (tp, tr))
    (no : answersKind f.payload tr.data.kind = false ∨ x < tr.data.period ∨ tr.orphan.isSome = true) :
    matchAnswer s f x = none := by
  rw [matchAnswer, h]
  refine if_neg ?_
  rintro ⟨kind, period, alive⟩
  rcases no with other | later | orphan
  · exact Bool.false_ne_true (other.symm.trans kind)
  · exact absurd period (Int.not_le.2 later)
  · rw [Option.isNone_iff_eq_none.1 alive] at orphan
    exact Bool.false_ne_true orphan

theorem matchAnswer_some (h : findTrack s f.src f.reqNo = some (tp, tr)) (kind : answersKind f.payload tr.data.kind = true)
    (period : (tr.data.period : Int) ≤ x) (alive : tr.orphan = none) : matchAnswer s f x = some (tp, tr) := by
  rw [matchAnswer, h]
  exact if_pos ⟨kind, period, by rw [alive]; rfl⟩

/-! ### Each hand-over as what the tracker takes (R54 to R57) -/

section
variable (ht : s.station = .trading) (hrx : s.link.rx = f :: rest) (h : raisesNothing f s = true)
include ht hrx h

theorem exec_holdAns (hk : isHoldAns f.payload = true) :
    exec .holdAns s = .next (takeHoldAns f (extendStamp (openPeriod s) f.stamp) (taken rest s)) := served_eq ht hrx h hk

theorem exec_settleAns (hk : isSettleAns f.payload = true) :
    exec .settleAns s = .next (takeSettleAns f (extendStamp (openPeriod s) f.stamp) (taken rest s)) := served_eq ht hrx h hk

theorem exec_creditAns (hk : isCreditAns f.payload = true) :
    exec .creditAns s = .next (takeCreditAns f (extendStamp (openPeriod s) f.stamp) (taken rest s)) := served_eq ht hrx h hk

theorem exec_statusAns (hk : isStatusAns f.payload = true) :
    exec .statusAns s = .next (takeStatusAns f (extendStamp (openPeriod s) f.stamp) (taken rest s)) := served_eq ht hrx h hk

/-! An answer that is taken for no entry is discarded (R69). -/

variable (no : matchAnswer (taken rest s) f (extendStamp (openPeriod s) f.stamp) = none)
include no

theorem discards_holdAns (hk : isHoldAns f.payload = true) : discards .holdAns rest s := by
  rw [discards, exec_holdAns ht hrx h hk, takeHoldAns, no]
  rfl

theorem discards_settleAns (hk : isSettleAns f.payload = true) : discards .settleAns rest s := by
  rw [discards, exec_settleAns ht hrx h hk, takeSettleAns, no]
  rfl

theorem discards_creditAns (hk : isCreditAns f.payload = true) : discards .creditAns rest s := by
  rw [discards, exec_creditAns ht hrx h hk, takeCreditAns, no]
  rfl

theorem discards_statusAns (hk : isStatusAns f.payload = true) : discards .statusAns rest s := by
  rw [discards, exec_statusAns ht hrx h hk, takeStatusAns, no]
  rfl

end

/-! ### SETTLE_ANS to a release, and STATUS_ANS (R79, R82) -/

theorem takeSettleAns_release {out : SettleAnswer} {g : Nat} (hp : f.payload = .settleAns out .release g)
    (hm : matchAnswer s f x = some (tp, tr)) : takeSettleAns f x s = takeReleased tp tr s := by
  rw [takeSettleAns, hm, hp]

theorem takeStatusAns_eq {vw : CardView} {av hd : Nat} (hp : f.payload = .statusAns vw av hd)
    (hm : matchAnswer s f x = some (tp, tr)) :
    takeStatusAns f x s = reexamine tr.data.home
      (linkedOutcome tr.slot (fun sl => statusAnsOutcome vw av hd sl.card) (delTrack tp s)) := by
  rw [takeStatusAns, hm, hp]

theorem statusAnsOutcome_eq (vw : CardView) (av hd : Nat) (c : CardId) :
    statusAnsOutcome vw av hd c =
      if vw = .busy then ⟨.declined, 0, c, none, some .busy, none, 0⟩ else ⟨.status, 0, c, some av, none, some vw, hd⟩ := by
  cases vw <;> rfl

theorem statusAnsOutcome_code (vw : CardView) (av hd : Nat) (c : CardId) :
    outcomeCode (statusAnsOutcome vw av hd c).code = if vw = .busy then 3 else 13 := by
  cases vw <;> rfl

end

end Sys2Proof.Machine

namespace Sys2Proof

open Machine

/-- Settles O44: the entry an answer names is left, and its slot shows what was answered. -/
theorem releaseAndStatusAnswers : Obligations.ReleaseAndStatusAnswers := by
  refine fun s f rest tp tr ht hrx quiet => ⟨fun out g hp => ?_, fun vw av hd hp => ?_, fun hf period alive => ⟨?_, ?_⟩⟩
  · have unmatched := fun no => discards_settleAns ht hrx quiet no (by rw [hp]; rfl)
    exact ⟨fun gone => unmatched (matchAnswer_none gone), fun hf other => unmatched
      (matchAnswer_not hf (other.imp_left fun kind => by rw [hp]; exact answersKind_release kind))⟩
  · have unmatched := fun no => discards_statusAns ht hrx quiet no (by rw [hp]; rfl)
    exact ⟨fun gone => unmatched (matchAnswer_none gone), fun hf other => unmatched
      (matchAnswer_not hf (other.imp_left fun kind => by rw [hp]; exact answersKind_status kind))⟩
  · intro out g kind hp
    have matched : matchAnswer (taken rest s) f (extendStamp (openPeriod s) f.stamp) = some (tp, tr) :=
      matchAnswer_some hf (by rw [hp, kind]; rfl) period alive
    have taking := (exec_settleAns ht hrx quiet (by rw [hp]; rfl)).trans
      (congrArg Host.Outcome.next (takeSettleAns_release hp matched))
    refine ⟨fun unlinked => ?_, fun slot sl linked hs settling => ?_⟩
    · rw [taking, takeReleased, unlinked]
      rfl
    · have stands : getSlot (delTrack tp (taken rest s)) slot = some sl := hs
      rw [taking, takeReleased, linked, linkedOutcome_eq stands, slotLeft_onHold (.inr settling)]
      rfl
  · intro action vw av hd kind hp
    have matched : matchAnswer (taken rest s) f (extendStamp (openPeriod s) f.stamp) = some (tp, tr) :=
      matchAnswer_some hf (by rw [hp, kind]; rfl) period alive
    have taking := (exec_statusAns ht hrx quiet (by rw [hp]; rfl)).trans
      (congrArg Host.Outcome.next (takeStatusAns_eq hp matched))
    refine ⟨fun unlinked => ?_, fun slot sl linked hs enquiring => ?_⟩
    · rw [taking, unlinked]
      rfl
    · have stands : getSlot (delTrack tp (taken rest s)) slot = some sl := hs
      rw [taking, linked, linkedOutcome_eq stands, slotLeft_free (by simp [enquiring]) (by simp [enquiring]), outcomeShown,
        statusAnsOutcome_code, statusAnsOutcome_eq]
      rfl

end Sys2Proof
end

section
/-! SETTLE_ANS to a capture, and CREDIT_ANS: what books at the acquirer, and what frees its entry alone (R70, R78, R81). -/
namespace Sys2Proof.Machine

section
variable {s : State} {f : LinkFrame} {rest : List LinkFrame} {x : Int} {tp : Nat} {tr : Track}

/-! ### The end of a stored entry (R70) -/

theorem cutLink_eq (tr : Track) (s : State) : cutLink tr.slot s = { s with slots := slotsCut tr s } := by
  unfold cutLink slotsCut
  cases tr.slot with
  | none => rfl
  | some n =>
    dsimp only
    cases getSlot s n <;> rfl

theorem resolution_eq (tr : Track) (s : State) (o : CardId → OutcomeRec) :
    resolution tr s o = announces tr (servedSlot tr s) o := by
  unfold resolution announces servedSlot
  cases tr.slot with
  | none => rfl
  | some n =>
    dsimp only [Option.bind_some]
    cases getSlot s n <;> rfl

/-- An entry freed, its slot's link cut. -/
def entryFreed (tp : Nat) (tr : Track) (s : State) : State :=
  { s with tracker := { s.tracker with entries := tabDel s.tracker.entries tp }, slots := slotsCut tr s }

theorem cutLink_delTrack (tp : Nat) (tr : Track) (s : State) : cutLink tr.slot (delTrack tp s) = entryFreed tp tr s :=
  cutLink_eq tr (delTrack tp s)

/-- An answer that books: row, journal entry and freed entry, in one frame. -/
theorem bookAnswer_eq {side : Side} (hg : generationOf s tr.data.period = some side) (free : frameFree s = true)
    (ch : Row → Row) (d : Draft) (o : CardId → OutcomeRec) :
    bookAnswer tp tr ch d o s = reexamine tr.data.home { entryFreed tp tr s with
      positions := (putRow side tr.data.home (ch (readRow s side tr.data.period tr.data.home)) s).positions
      journal := claimedJournal s
      notices := claimedNotices s
      control := withFrame .acqBook
        [.tracker tp none, .row side tr.data.home (ch (readRow s side tr.data.period tr.data.home)),
          .journal [⟨s.journal.next, d.kind, d.period, d.body⟩]]
        [writePoint s.journal] (announces tr (servedSlot tr s) o) s } := by
  unfold bookAnswer
  dsimp only
  rw [cutLink_delTrack, resolution_eq, book_of (s := s) (t := entryFreed tp tr s) rfl hg, claim_one]
  dsimp only
  rw [acceptFrame_eq (s := s)]
  · rfl
  · rfl
  · exact free
  · rfl

/-- An answer that books nothing: the freed entry in its frame. -/
theorem refuseAnswer_eq (free : frameFree s = true) (o : CardId → OutcomeRec) :
    refuseAnswer tp tr o s = reexamine tr.data.home { entryFreed tp tr s with
      control := withFrame .trackerStore [.tracker tp none] [] (announces tr (servedSlot tr s) o) s } := by
  unfold refuseAnswer
  dsimp only
  rw [cutLink_delTrack, resolution_eq, acceptFrame_eq (s := s) (t := entryFreed tp tr s) rfl free rfl]

section
variable {c : Instr} (free : frameFree s = true)
include free

theorem booksAnswer_of {side : Side} {ch : Row → Row} {kind : JournalKind} {body : PlainBody} {o : CardId → OutcomeRec}
    (hg : generationOf s tr.data.period = some side)
    (hx : exec c s = .next (bookAnswer tp tr ch ⟨kind, tr.data.period, .plain body⟩ o (taken rest s))) :
    booksAnswer c rest tp tr (slotsCut tr s) side (ch (readRow s side tr.data.period tr.data.home)) kind body
      (announces tr (servedSlot tr s) o) s := by
  rw [booksAnswer, hx, bookAnswer_eq (s := taken rest s) hg free, putRow_positions (s := s) (t := taken rest s) rfl]
  rfl

theorem freesEntry_of {o : CardId → OutcomeRec} (hx : exec c s = .next (refuseAnswer tp tr o (taken rest s))) :
    freesEntry c rest tp tr (slotsCut tr s) (announces tr (servedSlot tr s) o) s := by
  rw [freesEntry, hx, refuseAnswer_eq (s := taken rest s) free]
  rfl

end

/-! ### SETTLE_ANS and CREDIT_ANS (R78, R81) -/

section
variable {out : SettleAnswer} {g : Nat} (hm : matchAnswer s f x = some (tp, tr))
include hm

theorem takeSettleAns_full (hp : f.payload = .settleAns out .capture g) (full : frameFree s = false) :
    takeSettleAns f x s = s := by
  rw [takeSettleAns, hm, hp]
  exact if_pos (by rw [full]; rfl)

theorem takeSettleAns_done (hp : f.payload = .settleAns .done .capture g) (free : frameFree s = true) :
    takeSettleAns f x s = bookCapture tp tr g s := by
  rw [takeSettleAns, hm, hp]
  exact if_neg (by rw [free]; exact Bool.false_ne_true)

theorem takeSettleAns_tooLate (hp : f.payload = .settleAns .tooLate .capture g) (free : frameFree s = true) :
    takeSettleAns f x s = refuseAnswer tp tr (outcomeOf .captureRefused) s := by
  rw [takeSettleAns, hm, hp]
  exact if_neg (by rw [free]; exact Bool.false_ne_true)

variable {ca : CreditAnswer} {r : Option Reason}

theorem takeCreditAns_full (hp : f.payload = .creditAns ca r) (full : frameFree s = false) : takeCreditAns f x s = s := by
  rw [takeCreditAns, hm, hp]
  exact if_pos (by rw [full]; rfl)

theorem takeCreditAns_applied {kind : CreditKind} (hk : tr.data.kind = .credit kind) (hp : f.payload = .creditAns .applied r)
    (free : frameFree s = true) : takeCreditAns f x s = bookCredit tp tr kind s := by
  rw [takeCreditAns, hm, hp]
  dsimp only
  rw [if_neg (by rw [free]; exact Bool.false_ne_true), hk]

theorem takeCreditAns_declined (hp : f.payload = .creditAns .declined r) (free : frameFree s = true) :
    takeCreditAns f x s = refuseAnswer tp tr (fun id => declinedOutcome id r) s := by
  rw [takeCreditAns, hm, hp]
  exact if_neg (by rw [free]; exact Bool.false_ne_true)

end

end

end Sys2Proof.Machine

namespace Sys2Proof

open Machine

/-- Settles O43: the answers that name no entry are discarded, the others carried out by the end of a stored entry. -/
theorem moneyAnswersBook : Obligations.MoneyAnswersBook := by
  refine fun s f rest tp tr side ht hrx quiet =>
    ⟨fun out g hp => ?_, fun ca r hp => ?_, fun hf period alive hg => ⟨?_, ?_, ?_, ?_⟩⟩
  · have unmatched := fun no => discards_settleAns ht hrx quiet no (by rw [hp]; rfl)
    exact ⟨fun gone => unmatched (matchAnswer_none gone), fun hf other => unmatched
      (matchAnswer_not hf (other.imp_left fun kind => by rw [hp]; exact answersKind_capture kind))⟩
  · have unmatched := fun no => discards_creditAns ht hrx quiet no (by rw [hp]; rfl)
    exact ⟨fun gone => unmatched (matchAnswer_none gone), fun hf other => unmatched
      (matchAnswer_not hf (other.imp_left fun kind => by rw [hp]; exact answersKind_credit kind))⟩
  all_goals
    have matched := fun kind => matchAnswer_some (s := taken rest s) (f := f) hf kind period alive
  · intro g kind hp
    have hm := matched (by rw [hp, kind]; rfl)
    have taking := exec_settleAns ht hrx quiet (by rw [hp]; rfl)
    refine ⟨fun full => taking.trans ?_, fun free => booksAnswer_of free hg (taking.trans ?_)⟩
    · rw [takeSettleAns_full hm hp full]; rfl
    · rw [takeSettleAns_done hm hp free]; rfl
  · intro g kind hp
    have hm := matched (by rw [hp, kind]; rfl)
    have taking := exec_settleAns ht hrx quiet (by rw [hp]; rfl)
    refine ⟨fun full => taking.trans ?_, fun free => freesEntry_of free (taking.trans ?_)⟩
    · rw [takeSettleAns_full hm hp full]; rfl
    · rw [takeSettleAns_tooLate hm hp free]; rfl
  · intro kind r hk hp
    have hm := matched (by rw [hp, hk]; rfl)
    have taking := exec_creditAns ht hrx quiet (by rw [hp]; rfl)
    refine ⟨fun full => taking.trans ?_, fun free => booksAnswer_of free hg (taking.trans ?_)⟩
    · rw [takeCreditAns_full hm hp full]; rfl
    · rw [takeCreditAns_applied hm hk hp free]; rfl
  · intro kind r hk hp
    have hm := matched (by rw [hp, hk]; rfl)
    have taking := exec_creditAns ht hrx quiet (by rw [hp]; rfl)
    refine ⟨fun full => taking.trans ?_, fun free => freesEntry_of free (taking.trans ?_)⟩
    · rw [takeCreditAns_full hm hp full]; rfl
    · rw [takeCreditAns_declined hm hp free]; rfl

end Sys2Proof
end

section
/-! Hold timers, answer waits and the waiting move to IN_DOUBT (R68, R71, R76, R83, R86). -/
namespace Sys2Proof.Machine

section
variable {s : State} {home reqNo tp slot : Nat} {tr : Track} {sl : Slot}

/-! ### Hold timers (R76) -/

theorem lapsedOutcome_eq (s : State) (sl : Slot) : lapsedOutcome s sl = ⟨.holdLapsed, 0, sl.card,
    if sl.card.ss = ownStation s then availableOf s sl.card.serial else none, none, none, 0⟩ := by
  unfold lapsedOutcome
  by_cases own : sl.card.ss = ownStation s
  · rw [if_pos (isOwn_of own), if_pos own]; rfl
  · rw [if_neg (not_isOwn own), if_neg own]; rfl

theorem exec_holdTimerExpiry_held (ht : s.station = .trading) (hs : getSlot s slot = some sl) (held : sl.state = .held) :
    exec (.holdTimerExpiry slot) s = .next (setOutcome slot (lapsedOutcome s sl) s) := by
  show execHoldTimerExpiry slot s = _
  rw [execHoldTimerExpiry, hs]
  exact congrArg Host.Outcome.next (if_pos ⟨isTrading_iff.2 ht, held⟩)

theorem exec_holdTimerExpiry_not (hs : getSlot s slot = some sl) (h : sl.state ≠ .held) :
    exec (.holdTimerExpiry slot) s = .next s := by
  show execHoldTimerExpiry slot s = _
  rw [execHoldTimerExpiry, hs]
  exact congrArg Host.Outcome.next (if_neg fun held => h held.2)

/-! ### The move to IN_DOUBT (R71, R86) -/

theorem moveInDoubt_eq (free : frameFree s = true) :
    moveInDoubt tp tr s = { s with
      slots := slotsCut tr s
      tracker := ⟨tabPut s.tracker.entries tp
        { tr with data := { tr.data with state := .inDoubt }, timer := none, slot := none, moveWaiting := false },
        s.tracker.counter⟩
      control := withFrame .trackerStore [.tracker tp (some { tr.data with state := .inDoubt })] []
        (if tr.slot = none then .none else announces tr (servedSlot tr s) (outcomeOf .inDoubt)) s } := by
  have announced : (match tr.slot with | some _ => resolution tr s (outcomeOf .inDoubt) | none => .none) =
      if tr.slot = none then .none else announces tr (servedSlot tr s) (outcomeOf .inDoubt) := by
    rw [resolution_eq]
    cases tr.slot <;> rfl
  rw [← announced, moveInDoubt, if_pos free]
  dsimp only
  rw [cutLink_eq, acceptFrame_eq (s := s)]
  · rfl
  · rfl
  · exact free
  · rfl

theorem moveInDoubt_full (full : frameFree s = false) :
    moveInDoubt tp tr s = putTrack tp { tr with timer := none, moveWaiting := true } s := by
  rw [moveInDoubt, if_neg (by rw [full]; exact Bool.false_ne_true)]

theorem exec_inDoubtMove (ht : s.station = .trading) (hf : findTrack s home reqNo = some (tp, tr)) :
    exec (.inDoubtMove home reqNo) s =
      .next (if tr.moveWaiting = true ∧ frameFree s = true then moveInDoubt tp tr s else s) := by
  show execInDoubtMove home reqNo s = _
  rw [execInDoubtMove, hf]
  simp only [isTrading_iff.2 ht, true_and]
  rfl

/-! ### Answer waits (R68, R71, R83) -/

theorem exec_answerWaitExpiry (ht : s.station = .trading) (hf : findTrack s home reqNo = some (tp, tr)) :
    exec (.answerWaitExpiry home reqNo) s =
      .next (if tr.timer.isSome = true ∧ tr.orphan.isNone = true then waitOver tp tr s else s) := by
  show execAnswerWaitExpiry home reqNo s = _
  rw [execAnswerWaitExpiry, hf]
  simp only [isTrading_iff.2 ht, true_and]
  rfl

theorem waitOver_inDoubt (h : tr.data.state = .inDoubt) : waitOver tp tr s = putTrack tp { tr with timer := none } s := by
  rw [waitOver, h]

theorem waitOver_again (h : tr.data.state = .sent) (few : tr.attempts < 4) : waitOver tp tr s = offeredEntry tp tr s := by
  rw [waitOver, h]
  exact (if_pos few).trans (offerRequest_eq tp tr s)

theorem waitOver_exhausted (h : tr.data.state = .sent) (many : 4 ≤ tr.attempts) : waitOver tp tr s = exhaust tp tr s := by
  rw [waitOver, h]
  exact if_neg (Nat.not_lt.2 many)

theorem exhaust_moves (h : tr.data.kind = .capture ∨ tr.data.kind = .credit .topup ∨ tr.data.kind = .credit .refund) :
    exhaust tp tr s = moveInDoubt tp tr s := by
  rw [exhaust]
  rcases h with h | h | h <;> rw [h]

theorem exhaust_unlinked (hc : tr.data.kind ≠ .capture) (ht : tr.data.kind ≠ .credit .topup)
    (hr : tr.data.kind ≠ .credit .refund) (unlinked : tr.slot = none) :
    exhaust tp tr s = reexamine tr.data.home (delTrack tp s) := by
  have dropped (code : OutcomeCode) : giveUp code tp tr s = reexamine tr.data.home (delTrack tp s) := by
    rw [giveUp, unlinked]
    rfl
  unfold exhaust
  cases hk : tr.data.kind with
  | hold => exact dropped _
  | status => exact dropped _
  | release => exact dropped _
  | capture => exact absurd hk hc
  | credit kind => cases kind with
    | topup => exact absurd hk ht
    | refund => exact absurd hk hr

/-- A volatile entry given up: its linked slot shows a code, and the clearing unit is told (R71). -/
theorem giveUp_linked (code : OutcomeCode) (linked : tr.slot = some slot) (hs : getSlot s slot = some sl) :
    giveUp code tp tr s =
      reexamine tr.data.home (slotLeft sl (outcomeShown slot sl (outcomeOf code sl.card) (delTrack tp s))) := by
  have stands : getSlot (delTrack tp s) slot = some sl := hs
  rw [giveUp, linked, linkedOutcome_eq stands]

end

end Sys2Proof.Machine

namespace Sys2Proof

open Machine

/-- Settles O47: a wait that ends is read by the entry's state, its attempts and its kind. -/
theorem waitsEndByKind : Obligations.WaitsEndByKind := by
  refine fun s slot sl home reqNo tp tr ht => ⟨fun hs held => ?_, fun hs => exec_holdTimerExpiry_not hs,
    fun hf alive => ⟨fun quiet => ?_, fun timed => ?_⟩, fun hf => ⟨fun orphan => ?_, fun waits free => ?_, fun idle => ?_⟩⟩
  · rw [exec_holdTimerExpiry_held ht hs held, setOutcome_eq hs, slotLeft_onHold (.inl held), lapsedOutcome_eq]
    rfl
  · rw [exec_answerWaitExpiry ht hf, if_neg (by simp [quiet])]
  · have ended : exec (.answerWaitExpiry home reqNo) s = .next (waitOver tp tr s) := by
      rw [exec_answerWaitExpiry ht hf, if_pos ⟨timed, by rw [alive]; rfl⟩]
    refine ⟨fun doubt => ?_, fun sent few => ?_, fun sent many => ?_⟩
    · rw [ended, waitOver_inDoubt doubt]
      rfl
    · rw [ended, waitOver_again sent few, offeredEntry, if_pos sent]
    · rw [waitOver_exhausted sent many] at ended
      refine ⟨fun hc htop href unlinked => ?_, fun kind linked hs authorising => ?_,
        fun action kind linked hs enquiring => ?_, fun kind linked hs settling => ?_,
        fun kind => ⟨fun free => ?_, fun full => ?_⟩⟩
      · rw [ended, exhaust_unlinked hc htop href unlinked]
        rfl
      · rw [ended, exhaust, kind]
        dsimp only
        rw [giveUp_linked _ linked hs, slotLeft_free (by simp [authorising]) (by simp [authorising])]
        rfl
      · rw [ended, exhaust, kind]
        dsimp only
        rw [giveUp_linked _ linked hs, slotLeft_free (by simp [enquiring]) (by simp [enquiring])]
        rfl
      · rw [ended, exhaust, kind]
        dsimp only
        rw [giveUp_linked _ linked hs, slotLeft_onHold (.inr settling)]
        rfl
      · rw [movesInDoubt, ended, exhaust_moves kind, moveInDoubt_eq free]
        rfl
      · rw [ended, exhaust_moves kind, moveInDoubt_full full]
        rfl
  · rw [exec_answerWaitExpiry ht hf, if_neg]
    rintro ⟨-, alive⟩
    rw [Option.isNone_iff_eq_none.1 alive] at orphan
    exact Bool.false_ne_true orphan
  · rw [movesInDoubt, exec_inDoubtMove ht hf, if_pos ⟨waits, free⟩, moveInDoubt_eq free]
    rfl
  · rw [exec_inDoubtMove ht hf, if_neg]
    rintro ⟨waits, free⟩
    rcases idle with h | h
    · exact Bool.false_ne_true (h.symm.trans waits)
    · exact Bool.false_ne_true (h.symm.trans free)

end Sys2Proof
end

section
/-! HOLD_ANS: the slot it brings to HELD or to OUTCOME, and the detached RELEASE an abandoned entry becomes (R69, R75, R85). -/
namespace Sys2Proof.Machine

section
variable {s : State} {f : LinkFrame} {x : Int} {tp slot g tag : Nat} {tr : Track} {sl : Slot} {how : HoldAnswer}
  {r : Option Reason}

/-! ### A detached RELEASE (R79, R85) -/

/-- The state with a detached RELEASE entry made at a tracker place, and its request offered (R67, R79). -/
def releaseSent (tp home serial tag period : Nat) (s : State) : State :=
  { s with
    tracker := ⟨tabPut s.tracker.entries tp
      ⟨⟨.release, home, (nextNumber s).1, period, serial, 0, some tag, .sent⟩, 1,
        if s.link.tx.length < 16 then none else some 400, none, false, none, false, false⟩, (nextNumber s).1⟩
    link := { s.link with
      tx := if s.link.tx.length < 16 then
          s.link.tx ++ [⟨home, stampOf period, (nextNumber s).1, .settleReq .release tag serial 0, 0⟩]
        else s.link.tx } }

/-- The state with a new entry at a tracker place, its number given (R67). -/
def entryAt (place : Nat) (d : TrackRec) (slot : Option Nat) (part : Bool) (s : State) : State :=
  { s with
    tracker := ⟨tabPut s.tracker.entries place (newTrack { d with reqNo := (nextNumber s).1 } slot part),
      (nextNumber s).1⟩ }

theorem offerOrWait_covered {n : Nat} (home : Nat) (covered : unstored (coversNumber n) s = []) :
    offerOrWait home n s = offerRequestOf home n s := by rw [offerOrWait, covered]

/-- A detached entry whose number needs no step is made and its request offered (R67). -/
theorem startVolatile_detached {d : TrackRec} (place : Nat) (part : Bool) (ht : s.station = .trading)
    (unstepped : (nextNumber s).2 = false) (covered : unstored (coversNumber (nextNumber s).1) s = [])
    (unheld : numberHeld s (nextNumber s).1 = false) (live : lastClosed s < d.period) :
    startVolatile place d none part s =
      offeredEntry place (newTrack { d with reqNo := (nextNumber s).1 } none part) (entryAt place d none part s) := by
  have found : findTrack (entryAt place d none part s) d.home (nextNumber s).1 =
      some (place, newTrack { d with reqNo := (nextNumber s).1 } none part) :=
    findTrack_new (tr := newTrack { d with reqNo := (nextNumber s).1 } none part) rfl rfl rfl live unheld
  have made : startVolatile place d none part s = offerOrWait d.home (nextNumber s).1 (entryAt place d none part s) := by
    rw [startVolatile, giveNumber_eq unstepped]
    rfl
  rw [made, offerOrWait_covered (s := entryAt place d none part s) _ covered,
    offerRequestOf_found (s := entryAt place d none part s) ht found rfl, offerRequest_eq]

theorem startVolatile_release {home serial period : Nat} (ht : s.station = .trading) (unstepped : (nextNumber s).2 = false)
    (covered : unstored (coversNumber (nextNumber s).1) s = []) (unheld : numberHeld s (nextNumber s).1 = false)
    (live : lastClosed s < period) :
    startVolatile tp (releaseRec home serial tag period) none false s = releaseSent tp home serial tag period s := by
  rw [startVolatile_detached tp false ht unstepped covered unheld live, offeredEntry]
  simp only [entryAt, tabPut_tabPut]
  rfl

/-! ### What the tracker takes (R75, R85) -/

section
variable (hm : matchAnswer s f x = some (tp, tr))
include hm

theorem takeHoldAns_declined (hp : f.payload = .holdAns .declined g tag r) :
    takeHoldAns f x s = if tr.abandoned then dropTrack tp tr s else takeDecline tp tr r s := by
  rw [takeHoldAns, hm, hp]

theorem takeHoldAns_granted (hp : f.payload = .holdAns how g tag r) (granted : how ≠ .declined) :
    takeHoldAns f x s = if tr.abandoned then releaseAbandoned tp tr tag s else takeGrant tp tr how g tag s := by
  rw [takeHoldAns, hm, hp]
  cases how with
  | declined => exact absurd rfl granted
  | _ => rfl

end

theorem takeGrant_linked (linked : tr.slot = some slot) (hs : getSlot s slot = some sl) (granted : how ≠ .declined) :
    takeGrant tp tr how g tag s = reexamine tr.data.home { delTrack tp s with
      slots := tabPut s.slots slot { sl with
        state := .held, hold := some ⟨tag, tr.data.period, g⟩, timer := some (holdLifeMs s), link := none,
        outcome := some ⟨if how = .granted then .approved else .partially, g, sl.card, none, none, none, 0⟩ }
      notices := postNotice ⟨.slotOutcome, .number slot, if how = .granted then 1 else 2⟩ s.notices } := by
  have stands : getSlot (delTrack tp s) slot = some sl := hs
  rw [takeGrant, linked]
  dsimp only
  rw [stands]
  dsimp only
  rw [enterHeld_eq stands]
  cases how with
  | declined => exact absurd rfl granted
  | _ => rfl

theorem takeDecline_linked (linked : tr.slot = some slot) (hs : getSlot s slot = some sl) :
    takeDecline tp tr r s =
      reexamine tr.data.home (slotLeft sl (outcomeShown slot sl (declinedOutcome sl.card r) (delTrack tp s))) := by
  have stands : getSlot (delTrack tp s) slot = some sl := hs
  rw [takeDecline, linked, linkedOutcome_eq stands]

end

end Sys2Proof.Machine

namespace Sys2Proof

open Machine

/-- Settles O42: the entry an answer names is held, declined, dropped, or made a RELEASE. -/
theorem holdAnswerEndsTheRequest : Obligations.HoldAnswerEndsTheRequest := by
  intro s f rest tp tr how g tag r ht hrx hp quiet
  have isAns : isHoldAns f.payload = true := by rw [hp]; rfl
  have unmatched := fun no => discards_holdAns ht hrx quiet no isAns
  refine ⟨fun gone => unmatched (matchAnswer_none gone), fun hf => ⟨fun other => unmatched
    (matchAnswer_not hf (other.imp_left fun kind => by rw [hp]; exact answersKind_hold kind)), fun kind period alive => ?_⟩⟩
  have hm : matchAnswer (taken rest s) f (extendStamp (openPeriod s) f.stamp) = some (tp, tr) :=
    matchAnswer_some hf (by rw [hp, kind]; rfl) period alive
  have taking := exec_holdAns ht hrx quiet isAns
  refine ⟨fun slot sl served linked hs => ⟨fun granted => ?_, fun declined authorising => ?_⟩,
    fun abandoned declined => ?_, fun abandoned granted unstepped covered unheld live _ => ?_⟩
  · rw [taking, takeHoldAns_granted hm hp granted, if_neg (by simp [served]),
      takeGrant_linked (s := taken rest s) linked hs granted]
    rfl
  · rw [declined] at hp
    rw [taking, takeHoldAns_declined hm hp, if_neg (by simp [served]), takeDecline_linked (s := taken rest s) linked hs,
      slotLeft_free (by simp [authorising]) (by simp [authorising])]
    rfl
  · rw [declined] at hp
    rw [taking, takeHoldAns_declined hm hp, if_pos abandoned]
    rfl
  · rw [taking, takeHoldAns_granted hm hp granted, if_pos abandoned, releaseAbandoned,
      if_pos (numberReady_of (s := taken rest s) unstepped),
      startVolatile_release (s := taken rest s) ht unstepped covered unheld live]
    rfl

end Sys2Proof
end

section
/-! Foreign work by whether its request number can be given: each command as the one check that is left, and its entry (R72, R166). -/
namespace Sys2Proof.Machine

section
variable {s : State} {slot amount : Nat} {card : CardId} {sl : Slot} {h : HoldRef}

/-! ### Numbers and frame slots (R165, R166) -/

theorem numberReady_unstepped {k : Nat} (unstepped : (nextNumber s).2 = false) :
    numberReady k s = decide (k ≤ framesFree s) := by
  rw [numberReady, unstepped]
  rfl

theorem numberReady_stepped {k : Nat} (stepped : (nextNumber s).2 = true) :
    numberReady k s = decide (k + 1 ≤ framesFree s) := by
  rw [numberReady, stepped]
  rfl

theorem framesFree_pos_iff : 1 ≤ framesFree s ↔ frameFree s = true := by
  rw [frameFree_iff, framesFree, frameSlots]
  omega

theorem frameFree_of_numberReady (ready : numberReady 1 s = true) : frameFree s = true := by
  cases stepped : (nextNumber s).2 with
  | false => exact framesFree_pos_iff.1 (by simpa [numberReady_unstepped stepped] using ready)
  | true =>
    rw [numberReady_stepped stepped, decide_eq_true_iff] at ready
    exact framesFree_pos_iff.1 (by omega)

/-- A command whose checks come down to one is carried out, or refused STORE_BUSY (R165, R166). -/
theorem checkedCommand_busy {cs : List (Bool × PortStatus)} {ready : Bool} (ht : s.station = .trading)
    (hc : firstFail cs = firstFail [(ready, .storeBusy)]) (f : State → State) :
    checkedCommand s cs f = if ready = true then .next (f s) else refusedWith 0x0C s := by
  cases ready with
  | true => rw [if_pos rfl]; exact checkedCommand_run f (not_held_of_trading ht) hc
  | false => rw [if_neg Bool.false_ne_true]; exact checkedCommand_refusedWith (not_held_of_trading ht) hc

/-- The frame area's own check says nothing beside the number's (R165, R166). -/
theorem firstFail_frameFree :
    firstFail [(frameFree s, PortStatus.storeBusy), (numberReady 1 s, .storeBusy)] =
      firstFail [(numberReady 1 s, .storeBusy)] := by
  cases free : frameFree s with
  | true => rfl
  | false =>
    have : numberReady 1 s = false := by
      by_contra ready
      exact Bool.false_ne_true (free.symm.trans (frameFree_of_numberReady (Bool.not_eq_false _ ▸ ready)))
    rw [this]
    rfl

/-! ### Each command of foreign work (R72 to R74, R77, R79, R80, R82) -/

theorem exec_complete (slot amount : Nat) (s : State) :
    exec (.complete slot amount) s = checkedCommand s (completeChecks slot amount s)
      fun s => accepted [] (runComplete slot amount s) := rfl

section
variable (ht : s.station = .trading) (hn : slot < 8) (hfree : getSlot s slot = none) (hv : cardValid card = true)
  (foreign : card.ss ≠ ownStation s) (hpres : rosterPresent s card.ss = true) (room : trackCount s < 32)
include ht hn hfree hv foreign hpres room

theorem exec_enquire_foreign :
    exec (.enquire slot card) s = if numberReady 0 s = true then
      .next (accepted [] (startVolatile (freeTrackPlace s) (statusRec s .enquire card) (some slot) false
        (putSlot slot (newSlot .enquiring .enquire card 0 none) s)))
    else refusedWith 0x0C s := by
  rw [exec_enquire, checkedCommand_busy ht
    ((enquireChecks_foreign ht hn hfree hv foreign).trans (homeChecks_eq hpres room _)), runEnquire,
    if_neg (not_isOwn foreign)]

section
variable (reserve : 512 < freeCount s.journal)
include reserve

theorem exec_freeze_foreign :
    exec (.freeze slot card) s = if numberReady 0 s = true then
      .next (accepted [] (startVolatile (freeTrackPlace s) (statusRec s .freeze card) (some slot) false
        (putSlot slot (newSlot .enquiring .freeze card 0 none) s)))
    else refusedWith 0x0C s := by
  have checks : firstFail (freezeChecks slot card s) = firstFail [(numberReady 0 s, .storeBusy)] := by
    rw [freezeChecks_foreign ht hn hfree hv foreign, homeChecks_eq hpres room, insideReserve_eq_false_iff.2 reserve]
    rfl
  rw [exec_freeze, checkedCommand_busy ht checks, runFreeze, if_neg (not_isOwn foreign)]

variable (ha : amountInRange amount = true)
include ha

theorem exec_redeem_foreign (part : Bool) (ref : Option Nat) (limit : redeemInLimit s card.ss amount = true) :
    exec (.redeem slot card amount part ref) s = if numberReady 0 s = true then
      .next (accepted [] (startVolatile (freeTrackPlace s)
        ⟨.hold, card.ss, 0, openPeriod s, card.serial, amount, none, .sent⟩ (some slot) part
        (putSlot slot { newSlot .authorising .redeem card amount ref with allowPartial := part } s)))
    else refusedWith 0x0C s := by
  have checks : firstFail (redeemChecks slot card amount s) = firstFail [(numberReady 0 s, .storeBusy)] := by
    rw [redeemChecks_foreign ht hn hfree hv foreign ha, homeChecks_eq hpres room, insideReserve_eq_false_iff.2 reserve,
      limit]
    rfl
  rw [exec_redeem, checkedCommand_busy ht checks, runRedeem, if_neg (not_isOwn foreign)]

theorem exec_credit_foreign (kind : CreditKind) (ref : Option Nat) (limit : creditInLimit s card.ss kind amount = true) :
    exec (creditCommand kind slot card amount ref) s = if numberReady 1 s = true then
      .next (accepted [] (startStored (freeTrackPlace s)
        ⟨.credit kind, card.ss, 0, openPeriod s, card.serial, amount, none, .sent⟩ (some slot)
        (putSlot slot (newSlot .crediting (creditOp kind) card amount ref) s)))
    else refusedWith 0x0C s := by
  have checks : firstFail (creditCommandChecks kind slot card amount s) = firstFail [(numberReady 1 s, .storeBusy)] := by
    rw [creditCommandChecks_foreign ht hn hfree hv foreign kind ha, homeChecks_eq hpres room,
      insideReserve_eq_false_iff.2 reserve, limit]
    exact firstFail_frameFree
  rw [exec_creditCommand, checkedCommand_busy ht checks, runCredit, if_neg (not_isOwn foreign)]

end

end

section
variable (ht : s.station = .trading) (hn : slot < 8) (hh : heldSlot s slot = some (sl, h))
  (foreign : sl.card.ss ≠ ownStation s) (hpres : rosterPresent s sl.card.ss = true) (room : trackCount s < 32)
include ht hn hh foreign hpres room

theorem exec_cancel_foreign :
    exec (.cancel slot) s = if numberReady 0 s = true then
      .next (accepted [] (startVolatile (freeTrackPlace s) (releaseRec sl.card.ss sl.card.serial h.tag h.period) (some slot)
        false (putSlot slot (settlingSlot sl .cancel sl.amount) s)))
    else refusedWith 0x0C s := by
  have home : heldHome s slot = sl.card.ss := by rw [heldHome, hh]; rfl
  have checks : firstFail (cancelChecks slot s) = firstFail [(numberReady 0 s, .storeBusy)] := by
    unfold cancelChecks
    rw [heldChecks_eq ht hn hh, heldOwn_of_heldSlot hh, if_neg (not_isOwn foreign), home, homeChecks_eq hpres room]
  rw [exec_cancel, checkedCommand_busy ht checks, runCancel, hh]
  dsimp only
  rw [if_neg (not_isOwn foreign)]

theorem exec_complete_foreign (least : 1 ≤ amount) (most : amount ≤ h.g) :
    exec (.complete slot amount) s = if numberReady 1 s = true then
      .next (accepted [] (startStored (freeTrackPlace s)
        ⟨.capture, sl.card.ss, 0, h.period, sl.card.serial, amount, some h.tag, .sent⟩ (some slot)
        (putSlot slot (settlingSlot sl .complete amount) s)))
    else refusedWith 0x0C s := by
  have home : heldHome s slot = sl.card.ss := by rw [heldHome, hh]; rfl
  have range : (decide (1 ≤ amount) && (heldSlot s slot).all fun p => decide (amount ≤ p.2.g)) = true := by
    rw [hh]
    simp [least, most]
  have checks : firstFail (completeChecks slot amount s) = firstFail [(numberReady 1 s, .storeBusy)] := by
    unfold completeChecks
    rw [List.append_assoc, heldChecks_eq ht hn hh, heldOwn_of_heldSlot hh, if_neg (not_isOwn foreign), home]
    exact (firstFail_of_pass range (homeChecks_eq hpres room _)).trans firstFail_frameFree
  rw [exec_complete, checkedCommand_busy ht checks, runComplete, hh]
  dsimp only
  rw [if_neg (not_isOwn foreign)]

end

/-! ### A stored entry whose number needs no step (R67) -/

theorem setLink_putSlot (home n : Nat) (slot : Nat) (sl : Slot) {u : State} (hs : u.slots = tabPut s.slots slot sl) :
    setLink (some slot) home n u = { u with slots := tabPut s.slots slot { sl with link := some (home, n) } } := by
  have stands : getSlot u slot = some sl := by rw [getSlot, hs, tabGet_tabPut_self]
  rw [setLink_eq stands, putSlot, hs, tabPut_tabPut]

theorem queuesNewEntry_of {c : Instr} {d : TrackRec} {p : Payload} (unstepped : (nextNumber s).2 = false)
    (free : frameFree s = true) (hp : requestPayload (newTrack { d with reqNo := (nextNumber s).1 } (some slot) false) = p)
    (hx : exec c s = .next (accepted [] (startStored (freeTrackPlace s) d (some slot) (putSlot slot sl s)))) :
    queuesNewEntry c slot sl d p s := by
  subst hp
  rw [startStored] at hx
  rw [giveNumber_eq (s := putSlot slot sl s) unstepped] at hx
  dsimp only at hx
  rw [setLink_putSlot (s := s) _ _ slot sl rfl, acceptFrame_eq (s := s)] at hx
  · exact ⟨_, hx, rfl, rfl, rfl, rfl, rfl⟩
  · rfl
  · exact free
  · rfl

end

end Sys2Proof.Machine

namespace Sys2Proof

open Machine

/-- Settles O20: with its number at hand a command of foreign money makes its stored entry. -/
theorem foreignMoneyIsStoredFirst : Obligations.ForeignMoneyIsStoredFirst := by
  intro s slot amount ht hn room unstepped free least
  have ready : numberReady 1 s = true := by
    rw [numberReady_unstepped unstepped]
    exact decide_eq_true (framesFree_pos_iff.2 free)
  refine ⟨fun sl h hh foreign hpres most => ?_, fun kind card ref hfree hv foreign hpres most reserve limit => ?_⟩
  · exact queuesNewEntry_of unstepped free rfl
      ((exec_complete_foreign ht hn hh foreign hpres room least most).trans (if_pos ready))
  · exact queuesNewEntry_of unstepped free rfl
      ((exec_credit_foreign ht hn hfree hv foreign hpres room reserve (amountInRange_of least most) kind ref limit).trans
        (if_pos ready))

end Sys2Proof
end

section
/-! SLOT_FREE up to what the slot's state brings about (R84), and numbers past the working mark: the counter's step goes first
(R164, R166). -/
namespace Sys2Proof.Machine

section
variable {s : State} {slot : Nat} {sl : Slot}

/-! ### SLOT_FREE (R84) -/

/-- The state with a slot FREE and its pending outcomes forsaken (R84, R162). -/
def slotFreed (slot : Nat) (s : State) : State :=
  { s with slots := tabDel s.slots slot, control := (forsake slot s).control }

theorem exec_slotFree (slot : Nat) (s : State) :
    exec (.slotFree slot) s = checkedCommand s
      [(isTrading s, .notTrading), (slotNamed slot, .badArgument), (freeable s slot, .slotState)]
      fun s => accepted [] (runSlotFree slot s) := rfl

section
variable (ht : s.station = .trading) (hn : slot < 8)
include ht hn

theorem slotFreeChecks_eq : firstFail [(isTrading s, PortStatus.notTrading), (slotNamed slot, .badArgument),
    (freeable s slot, .slotState)] = firstFail [(freeable s slot, .slotState)] :=
  (firstFail_trading ht).trans (firstFail_of_pass (decide_eq_true hn) rfl)

theorem exec_slotFree_none (hs : getSlot s slot = none) : exec (.slotFree slot) s = .next { s with port := acceptedPort [] s } := by
  have can : freeable s slot = true := by rw [freeable, hs]; rfl
  rw [exec_slotFree, checkedCommand_run _ (not_held_of_trading ht) ((slotFreeChecks_eq ht hn).trans (by rw [can]; rfl)),
    runSlotFree, hs]
  rfl

theorem exec_slotFree_refused (hs : getSlot s slot = some sl)
    (busy : sl.state = .settling ∨ sl.state = .crediting ∨ sl.state = .issuing) :
    exec (.slotFree slot) s = refusedWith 0x04 s := by
  have cannot : freeable s slot = false := by
    rw [freeable, hs]
    rcases busy with h | h | h <;> simp [h]
  rw [exec_slotFree]
  exact checkedCommand_refusedWith (p := .slotState) (not_held_of_trading ht)
    ((slotFreeChecks_eq ht hn).trans (by rw [cannot]; rfl))

theorem exec_slotFree_freed (hs : getSlot s slot = some sl)
    (idle : sl.state ≠ .settling ∧ sl.state ≠ .crediting ∧ sl.state ≠ .issuing) :
    exec (.slotFree slot) s = .next (accepted [] (freedEffect sl (slotFreed slot s))) := by
  have can : freeable s slot = true := by
    obtain ⟨h1, h2, h3⟩ := idle
    rw [freeable, hs]
    simp [h1, h2, h3]
  rw [exec_slotFree, checkedCommand_run _ (not_held_of_trading ht) ((slotFreeChecks_eq ht hn).trans (by rw [can]; rfl)),
    runSlotFree, hs]
  rfl

/-- A HELD slot that is freed is the business of its hold's home, before the clearing unit examines the home's row (R84). -/
theorem exec_slotFree_held {h : HoldRef} (hs : getSlot s slot = some sl) (held : sl.state = .held) (hh : sl.hold = some h) :
    exec (.slotFree slot) s = .next (accepted [] (reexamine sl.card.ss
      (if isOwn s sl.card then releaseFreed h sl.card.serial (slotFreed slot s)
        else releaseDetached sl h (slotFreed slot s)))) := by
  rw [exec_slotFree_freed ht hn hs (by simp [held]), freedEffect, held]
  dsimp only
  rw [hh]
  rfl

end

theorem frames_slotFreed_length (slot : Nat) (s : State) :
    (slotFreed slot s).control.frames.length = s.control.frames.length := List.length_map _

theorem frameFree_slotFreed (slot : Nat) (s : State) : frameFree (slotFreed slot s) = frameFree s := by
  rw [frameFree, frames_slotFreed_length, frameFree]

theorem unstored_slotFreed (p : Frame → Bool) (slot : Nat) (s : State) :
    unstored p (slotFreed slot s) = unstored p s := by
  have stored (f : PendingFrame) :
      (if outcomeFor slot f.frame.continuation then { f with slotFreed := true } else f).stored = f.stored := by
    split <;> rfl
  have frame (f : PendingFrame) :
      (if outcomeFor slot f.frame.continuation then { f with slotFreed := true } else f).frame = f.frame := by
    split <;> rfl
  simp only [unstored, slotFreed, forsake, List.filter_map, List.map_map, Function.comp_def, stored, frame]

theorem heldSlot_eq_some {h : HoldRef} (hh : heldSlot s slot = some (sl, h)) :
    getSlot s slot = some sl ∧ sl.state = .held ∧ sl.hold = some h := by
  unfold heldSlot at hh
  cases hs : getSlot s slot with
  | none => rw [hs] at hh; exact absurd hh (by simp)
  | some sl' =>
    rw [hs] at hh
    dsimp only at hh
    split at hh
    · next held =>
      obtain ⟨h', hold, pair⟩ := Option.map_eq_some_iff.1 hh
      obtain ⟨rfl, rfl⟩ := Prod.mk.inj pair
      exact ⟨rfl, held, hold⟩
    · exact absurd hh (by simp)

end

/-! ### Numbers past the working mark (R166) -/

section
variable {s t : State} {i : Identity} {place slot : Nat} {d : TrackRec} {part : Bool} {sl : Slot} {c : Instr}

theorem unstored_congr (p : Frame → Bool) (h : t.control = s.control) : unstored p t = unstored p s := by
  rw [unstored, unstored, h]

/-- The frame of a step that covers a number is the one its request waits for (R166). -/
theorem unstored_stepTaken {n : Nat} (covers : coveredBy (stepMark i.highWater) n = true)
    (uncovered : unstored (coversNumber n) s = []) :
    unstored (coversNumber n) (stepTaken i s) = [s.control.nextFrame] := by
  have joins : unstored (coversNumber n) (stepTaken i s) = unstored (coversNumber n) s ++ [s.control.nextFrame] := by
    simp [unstored, stepTaken, withFrame, builtFrame, List.filter_append, coversNumber, covers]
  rw [joins, uncovered]
  rfl

/-- A new volatile entry whose number needed a step, its request not yet seen to (R67, R166). -/
def entryOnStep (place : Nat) (d : TrackRec) (slot : Option Nat) (part : Bool) (i : Identity) (s : State) : State :=
  { stepTaken i s with
    tracker := ⟨tabPut s.tracker.entries place (newTrack { d with reqNo := (nextNumber s).1 } slot part), (nextNumber s).1⟩ }

section
variable (hi : s.ident = some i) (stepped : (nextNumber s).2 = true)
include hi stepped

theorem giveNumber_stepped (free : frameFree s = true) :
    giveNumber s = ((nextNumber s).1, { stepTaken i s with tracker := { s.tracker with counter := (nextNumber s).1 } }) := by
  unfold giveNumber
  dsimp only
  rw [if_pos stepped, takeStep_eq hi free]
  rfl

variable (free : frameFree s = true) (covers : coveredBy (stepMark i.highWater) (nextNumber s).1 = true)
  (uncovered : unstored (coversNumber (nextNumber s).1) s = [])
include free covers uncovered

/-- A volatile entry whose number needs a step is made, and waits for the step's frame (R67, R166). -/
theorem startVolatile_stepped (slot : Option Nat) :
    startVolatile place d slot part s = addWait [s.control.nextFrame] (.request d.home (nextNumber s).1)
      (setLink slot d.home (nextNumber s).1 (entryOnStep place d slot part i s)) := by
  have made : startVolatile place d slot part s =
      offerOrWait d.home (nextNumber s).1 (setLink slot d.home (nextNumber s).1 (entryOnStep place d slot part i s)) := by
    rw [startVolatile, giveNumber_stepped hi stepped free]
    rfl
  have waits : unstored (coversNumber (nextNumber s).1)
      (setLink slot d.home (nextNumber s).1 (entryOnStep place d slot part i s)) = [s.control.nextFrame] :=
    (unstored_congr (s := stepTaken i s) _ (by simp [entryOnStep])).trans (unstored_stepTaken covers uncovered)
  rw [made, offerOrWait, waits]

theorem startVolatile_behindStep : startVolatile place d none part s = entryBehindStep place d none part i s := by
  rw [startVolatile_stepped hi stepped free covers uncovered]
  rfl

theorem stepsThenWaits_of
    (hx : exec c s = .next (accepted [] (startVolatile (freeTrackPlace s) d (some slot) part (putSlot slot sl s)))) :
    stepsThenWaits c slot sl d part i s := by
  rw [startVolatile_stepped (s := putSlot slot sl s) hi stepped free covers uncovered,
    setLink_putSlot (s := s) _ _ slot sl rfl] at hx
  exact hx

end

/-- A stored entry whose number needs a step: the step's frame is queued before the entry's (R67, R166). -/
theorem stepsThenStores_of {p : Payload} (hi : s.ident = some i) (stepped : (nextNumber s).2 = true)
    (two : 2 ≤ framesFree s)
    (hp : requestPayload (newTrack { d with reqNo := (nextNumber s).1 } (some slot) false) = p)
    (hx : exec c s = .next (accepted [] (startStored (freeTrackPlace s) d (some slot) (putSlot slot sl s)))) :
    stepsThenStores c slot sl d p i s := by
  have free : frameFree s = true := framesFree_pos_iff.1 (by omega)
  have second : frameFree (stepTaken i s) = true := by
    rw [framesFree, frameSlots] at two
    rw [frameFree_iff]
    simp only [stepTaken, withFrame, List.length_append, List.length_singleton]
    omega
  subst hp
  rw [startStored] at hx
  rw [giveNumber_stepped (s := putSlot slot sl s) hi stepped free] at hx
  dsimp only at hx
  rw [setLink_putSlot (s := s) _ _ slot sl rfl, acceptFrame_eq (s := stepTaken i s)] at hx
  · exact hx
  · rfl
  · exact second
  · rfl

end

end Sys2Proof.Machine
end

section
/-! Numbers past the working mark, command by command (R164, R166). -/
namespace Sys2Proof.Machine

section
variable {s : State} {i : Identity} {slot tp tag : Nat} {sl : Slot} {h : HoldRef} {tr : Track}

theorem numberReady_stepped_iff {k : Nat} (stepped : (nextNumber s).2 = true) :
    numberReady k s = true ↔ k + 1 ≤ framesFree s := by
  rw [numberReady_stepped stepped, decide_eq_true_iff]

/-- A volatile entry whose number needs a step can be made when one frame slot is free (R166). -/
theorem numberReady_volatile (stepped : (nextNumber s).2 = true) : numberReady 0 s = frameFree s := by
  rw [Bool.eq_iff_iff, numberReady_stepped_iff stepped, framesFree_pos_iff]

section
variable (hi : s.ident = some i) (stepped : (nextNumber s).2 = true)
include hi stepped

theorem releaseDetached_behindStep (room : trackCount s < 32) (free : frameFree s = true)
    (covers : coveredBy (stepMark i.highWater) (nextNumber s).1 = true)
    (uncovered : unstored (coversNumber (nextNumber s).1) s = []) :
    releaseDetached sl h s =
      entryBehindStep (freeTrackPlace s) (releaseRec sl.card.ss sl.card.serial h.tag h.period) none false i s := by
  rw [releaseDetached, trackerRoom_iff.2 room, numberReady_volatile stepped, free]
  exact startVolatile_behindStep hi stepped free covers uncovered

theorem releaseAbandoned_behindStep (free : frameFree s = true)
    (covers : coveredBy (stepMark i.highWater) (nextNumber s).1 = true)
    (uncovered : unstored (coversNumber (nextNumber s).1) s = []) :
    releaseAbandoned tp tr tag s =
      entryBehindStep tp (releaseRec tr.data.home tr.data.serial tag tr.data.period) none false i s := by
  rw [releaseAbandoned, numberReady_volatile stepped, free]
  exact startVolatile_behindStep hi stepped free covers uncovered

end

theorem releaseDetached_full (stepped : (nextNumber s).2 = true) (full : frameFree s = false) : releaseDetached sl h s = s := by
  rw [releaseDetached, numberReady_volatile stepped, full, Bool.and_false]
  rfl

theorem releaseAbandoned_full (stepped : (nextNumber s).2 = true) (full : frameFree s = false) :
    releaseAbandoned tp tr tag s = dropTrack tp tr s := by
  rw [releaseAbandoned, numberReady_volatile stepped, full]
  rfl

end

end Sys2Proof.Machine

namespace Sys2Proof

open Machine

/-- Settles O22: a command whose number needs a step has its frame slots, and its request waits for the step, or is refused. -/
theorem counterStepsGoFirst : Obligations.CounterStepsGoFirst := by
  intro s i slot ht hi hn stepped
  have busy {k : Nat} (few : framesFree s < k + 1) : ¬ numberReady k s = true := by
    rw [numberReady_stepped_iff stepped]
    omega
  have none_free (full : frameFree s = false) : ¬ numberReady 0 s = true := by
    rw [numberReady_volatile stepped, full]
    exact Bool.false_ne_true
  have one (free : frameFree s = true) : numberReady 0 s = true := (numberReady_volatile stepped).trans free
  refine ⟨fun card amount part ref kind hfree hv foreign hpres room => ⟨fun free covers uncovered => ?_, fun full => ?_,
    fun reserve least most limit => ?_⟩, fun sl h hh foreign => ⟨fun hpres room => ?_, fun room => ?_⟩, ?_⟩
  · rw [← ownStation_eq hi] at foreign
    refine ⟨?_, fun reserve => ?_, fun reserve least most limit => ?_⟩
    · exact stepsThenWaits_of hi stepped free covers uncovered
        ((exec_enquire_foreign ht hn hfree hv foreign hpres room).trans (if_pos (one free)))
    · exact stepsThenWaits_of hi stepped free covers uncovered
        ((exec_freeze_foreign ht hn hfree hv foreign hpres room reserve).trans (if_pos (one free)))
    · exact stepsThenWaits_of hi stepped free covers uncovered
        ((exec_redeem_foreign ht hn hfree hv foreign hpres room reserve (amountInRange_of least most) part ref limit).trans
          (if_pos (one free)))
  · rw [← ownStation_eq hi] at foreign
    refine ⟨?_, fun reserve => ?_, fun reserve least most limit => ?_⟩
    · exact (exec_enquire_foreign ht hn hfree hv foreign hpres room).trans (if_neg (none_free full))
    · exact (exec_freeze_foreign ht hn hfree hv foreign hpres room reserve).trans (if_neg (none_free full))
    · exact (exec_redeem_foreign ht hn hfree hv foreign hpres room reserve (amountInRange_of least most) part ref limit).trans
        (if_neg (none_free full))
  · rw [← ownStation_eq hi] at foreign
    have ran := exec_credit_foreign ht hn hfree hv foreign hpres room reserve (amountInRange_of least most) kind ref limit
    exact ⟨fun two => stepsThenStores_of hi stepped two rfl
      (ran.trans (if_pos ((numberReady_stepped_iff stepped).2 two))), fun few => ran.trans (if_neg (busy few))⟩
  · rw [← ownStation_eq hi] at foreign
    have cancel := exec_cancel_foreign ht hn hh foreign hpres room
    refine ⟨fun free covers uncovered => ?_, fun full => cancel.trans (if_neg (none_free full)), fun amount least most => ?_⟩
    · exact stepsThenWaits_of hi stepped free covers uncovered (cancel.trans (if_pos (one free)))
    · have complete := exec_complete_foreign ht hn hh foreign hpres room least most
      exact ⟨fun two => stepsThenStores_of hi stepped two rfl
        (complete.trans (if_pos ((numberReady_stepped_iff stepped).2 two))), fun few => complete.trans (if_neg (busy few))⟩
  · obtain ⟨hs, held, hold⟩ := heldSlot_eq_some hh
    have freed := exec_slotFree_held ht hn hs held hold
    rw [← ownStation_eq hi] at foreign
    rw [if_neg (not_isOwn foreign)] at freed
    refine ⟨fun free covers uncovered => ?_, fun full => ?_⟩
    · rw [freed, releaseDetached_behindStep (s := slotFreed slot s) hi stepped room ((frameFree_slotFreed ..).trans free) covers
        ((unstored_slotFreed ..).trans uncovered)]
      rfl
    · rw [freed, releaseDetached_full (s := slotFreed slot s) stepped ((frameFree_slotFreed ..).trans full)]
      rfl
  · intro f rest tp tr how g tag r hrx hp quiet granted hm hk timely live abandoned
    have hm : matchAnswer (taken rest s) f (extendStamp (openPeriod s) f.stamp) = some (tp, tr) :=
      matchAnswer_some hm (by rw [hp, hk]; rfl) timely live
    have taking := exec_holdAns ht hrx quiet (by rw [hp]; rfl)
    rw [takeHoldAns_granted hm hp granted, if_pos abandoned] at taking
    refine ⟨fun free covers uncovered => ?_, fun full => ?_⟩
    · rw [taking, releaseAbandoned_behindStep (s := taken rest s) hi stepped free covers uncovered]
      rfl
    · rw [taking, releaseAbandoned_full (s := taken rest s) stepped full]
      rfl

end Sys2Proof
end

section
/-! A program that ends in IDLE or TRADING: what its place's being written brings about, and the waits that a stored frame lets
go (R158, R162, R164). -/
namespace Sys2Proof.Machine

section
variable {s : State} {n : Nat} {pr : Program} {prs : List Program}

/-! ### The end of a program (R158) -/

theorem endProgram_up (h : s.station = .idle ∨ s.station = .trading) (result : ProgramResult) :
    endProgram pr prs result s = if result = .completed then programDone pr (programEnds pr prs result s)
      else enterHalted .programFailed false (programEnds pr prs result s) := by
  rcases h with h | h <;> simp only [endProgram, h]

theorem endProgram_halted (h : s.station = .halted) (result : ProgramResult) :
    endProgram pr prs result s = programEnds pr prs result s := by
  simp only [endProgram, h]

section
variable (hq : s.control.queue = pr :: prs)
include hq

theorem exec_queuedProgram (result : ProgramResult) :
    exec (.programComplete result) s = .next (endProgram pr prs result s) := by
  show answer _ = _
  rw [hq]
  rfl

variable (up : s.station = .idle ∨ s.station = .trading)
include up

theorem exec_programComplete_up :
    exec (.programComplete .completed) s = .next (programDone pr { s with control := programmed pr prs s }) := by
  rw [exec_queuedProgram hq, endProgram_up up, if_pos rfl]
  rfl

theorem exec_programComplete_failed (result : ProgramResult) (failed : result ≠ .completed) :
    exec (.programComplete result) s = .next (enterHalted .programFailed false (programEnds pr prs result s)) := by
  rw [exec_queuedProgram hq, endProgram_up up, if_neg failed]

end

/-! ### A row examined (R99, R100) -/

/-- What the examination of a row can do: nothing, the own row's finality, a PENDING row left, or a row's side made final. -/
theorem examineRow_cases (j : Nat) (s : State) :
    examineRow j s = s ∨
    (∃ v, j = ownStation s ∧ s.positions.view = some v ∧ examineRow j s = setView { v with ownFinal := true } s) ∨
    (∃ v, j ≠ ownStation s ∧ s.positions.view = some v ∧ (closeRow v j).state = .pending ∧
      examineRow j s = leavePending j s) ∨
    (∃ v, j ≠ ownStation s ∧ s.positions.view = some v ∧
      examineRow j s = setCloseRow j ⟨(closeRow v j).state, true⟩ s) := by
  unfold examineRow
  split
  · exact .inl rfl
  · next v hv =>
    split
    · exact .inl rfl
    · split
      · next own =>
        split
        · exact .inr (.inl ⟨v, own, hv, rfl⟩)
        · exact .inl rfl
      · next foreign =>
        dsimp only
        split
        · exact .inl rfl
        · split
          · split
            · next pending => exact .inr (.inr (.inl ⟨v, foreign, hv, pending, rfl⟩))
            · exact .inr (.inr (.inr ⟨v, foreign, hv, rfl⟩))
          · exact .inl rfl

/-! ### Waits that no frame of a number holds back (R164) -/

/-- No wait is on a frame of the number, nor on none, and no frame of the number is to be stored. -/
def Unblocked (n : Nat) (s : State) : Prop :=
  (∀ f ∈ s.control.frames, f.frame.number = n → f.stored = true) ∧ ∀ w ∈ s.control.waits, w.frames ≠ [] ∧ n ∉ w.frames

theorem Unblocked.congr {t : State} (h : Unblocked n s) (same : t.control = s.control) : Unblocked n t := by
  rw [Unblocked, same]
  exact h

theorem notMem_unstored (h : ∀ f ∈ s.control.frames, f.frame.number = n → f.stored = true) (p : Frame → Bool) :
    n ∉ unstored p s := by
  intro mem
  obtain ⟨f, hf, number⟩ := List.mem_map.1 mem
  obtain ⟨hf, pending⟩ := List.mem_filter.1 hf
  simp [h f hf number] at pending

theorem Unblocked.addWait (h : Unblocked n s) {ns : List Nat} (some : ns ≠ []) (other : n ∉ ns) (item : HeldItem) :
    Unblocked n (addWait ns item s) := by
  obtain ⟨stored, waits⟩ := h
  refine ⟨stored, fun w hw => ?_⟩
  rcases List.mem_append.1 hw with old | new
  · exact waits w old
  · rw [List.mem_singleton.1 new]
    exact ⟨some, other⟩

theorem Unblocked.joinSend (h : Unblocked n s) {ns : List Nat} (other : n ∉ ns) (j p : Nat) :
    Unblocked n { s with control := { s.control with waits := s.control.waits.map (joinSend j p ns) } } := by
  obtain ⟨stored, waits⟩ := h
  refine ⟨stored, fun w hw => ?_⟩
  obtain ⟨w', hw', rfl⟩ := List.mem_map.1 hw
  obtain ⟨held, free⟩ := waits w' hw'
  unfold Machine.joinSend
  split
  · refine ⟨by simp [held], fun mem => ?_⟩
    rcases List.mem_append.1 mem with old | new
    · exact free old
    · exact other (List.mem_filter.1 new).1
  · exact ⟨held, free⟩

theorem Unblocked.callSend (h : Unblocked n s) (j : Nat) : Unblocked n (callSend j s) := by
  have other : n ∉ sendFrames j s := by
    rw [sendFrames]
    exact notMem_unstored h.1 _
  unfold Machine.callSend
  dsimp only
  split
  · exact h.joinSend other j _
  · split
    · exact h.congr (by simp)
    · next held => exact h.addWait held other _

theorem Unblocked.callSendPresent (h : Unblocked n s) (j : Nat) : Unblocked n (callSendPresent j s) := by
  unfold Machine.callSendPresent
  split
  · exact h.callSend j
  · exact h

theorem Unblocked.postAfter (h : Unblocked n s) {ns : List Nat} (other : n ∉ ns) (r : NoticeRec) :
    Unblocked n (postAfter ns r s) := by
  unfold Machine.postAfter
  split
  · exact h.congr rfl
  · next held => exact h.addWait held other _

theorem Unblocked.setCloseRow (h : Unblocked n s) (j : Nat) (c : CloseRow) : Unblocked n (setCloseRow j c s) :=
  h.congr (by simp)

theorem Unblocked.leavePending (h : Unblocked n s) (j : Nat) : Unblocked n (leavePending j s) := by
  unfold Machine.leavePending
  dsimp only
  split
  · split
    · exact (h.setCloseRow j _).callSendPresent j
    · exact ((h.setCloseRow j _).postAfter (notMem_unstored h.1 _) _).callSendPresent j
  · split
    · exact h.setCloseRow j _
    · exact (h.setCloseRow j _).callSendPresent j

theorem Unblocked.examineRow (h : Unblocked n s) (j : Nat) : Unblocked n (examineRow j s) := by
  rcases examineRow_cases j s with same | ⟨v, -, -, own⟩ | ⟨v, -, -, -, leaves⟩ | ⟨v, -, -, marks⟩
  · rw [same]
    exact h
  · rw [own]
    exact h.congr rfl
  · rw [leaves]
    exact h.leavePending j
  · rw [marks]
    exact h.setCloseRow j _

/-! ### Waits and close completion (R109) -/

theorem acceptFrame_waits (fm : FrameFormat) (ts : List Target) (ps : List Nat) (c : Continuation) (s : State) :
    (acceptFrame fm ts ps c s).control.waits = s.control.waits := by
  unfold acceptFrame
  split <;> rfl

theorem runCompletion_waits (s : State) (v : CloseView) : (runCompletion s v).control.waits = s.control.waits :=
  (acceptFrame_waits _ _ _ _ (claim (statementRun s v) s).2).trans (by simp)

theorem examineCompletion_waits (s : State) : (examineCompletion s).control.waits = s.control.waits := by
  unfold examineCompletion
  split
  · split
    · exact runCompletion_waits ..
    · rfl
  · rfl

theorem examineRow_own_control {j : Nat} (own : j = ownStation s) : (examineRow j s).control = s.control := by
  rcases examineRow_cases j s with same | ⟨v, -, -, final⟩ | ⟨v, foreign, -⟩ | ⟨v, -, -, marks⟩
  · rw [same]
  · rw [final]
    rfl
  · exact absurd own foreign
  · rw [marks]
    simp

theorem reexamine_own_waits {j : Nat} (own : j = ownStation s) : (reexamine j s).control.waits = s.control.waits := by
  rw [reexamine, examineCompletion_waits, examineRow_own_control own]

theorem Unblocked.slotLeft_waits {sl : Slot} (h : Unblocked n s) :
    ∀ w ∈ (slotLeft sl s).control.waits, w.frames ≠ [] ∧ n ∉ w.frames := by
  unfold slotLeft
  split
  · rw [reexamine, examineCompletion_waits]
    exact (h.examineRow _).2
  · exact h.2

/-! ### The waits a stored frame lets go (R164) -/

theorem shorten_self {w : Wait} (h : n ∉ w.frames) : shorten n w = w := by
  rw [shorten, List.filter_eq_self.2]
  exact fun k hk => decide_eq_true fun (e : k = n) => h (e ▸ hk)

theorem releaseWaits_unblocked (h : ∀ w ∈ s.control.waits, w.frames ≠ [] ∧ n ∉ w.frames) : releaseWaits n s = s := by
  have same : s.control.waits.map (shorten n) = s.control.waits :=
    (List.map_congr_left fun w hw => shorten_self (h w hw).2).trans (List.map_id _)
  have none_out : (s.control.waits.filter fun w => w.frames.isEmpty) = [] :=
    List.filter_eq_nil_iff.2 fun w hw => by simpa using (h w hw).1
  have all_stay : (s.control.waits.filter fun w => !w.frames.isEmpty) = s.control.waits :=
    List.filter_eq_self.2 fun w hw => by simpa using (h w hw).1
  unfold releaseWaits
  dsimp only
  rw [same, none_out, all_stay]
  rfl

theorem shorten_isEmpty (n : Nat) (w : Wait) : (shorten n w).frames.isEmpty = w.frames.all fun k => k = n := by
  rw [Bool.eq_iff_iff]
  simp [shorten]

/-- The waits whose last frame was stored go out in the order they were made; the others keep their other frames (R164). -/
theorem releaseWaits_eq (n : Nat) (s : State) :
    releaseWaits n s = (s.control.waits.filter fun w => w.frames.all fun k => k = n).foldl (fun u w => releaseItem w.item u)
      { s with control := { s.control with
        waits := (s.control.waits.filter fun w => !w.frames.all fun k => k = n).map fun w =>
          ⟨w.frames.filter fun k => k ≠ n, w.item⟩ } } := by
  simp only [releaseWaits, List.filter_map, List.foldl_map, Function.comp_def, shorten_isEmpty]
  rfl

/-- The only wait, on one frame alone, goes out with it. -/
theorem releaseWaits_one {item : HeldItem} (hw : s.control.waits = [⟨[n], item⟩]) :
    releaseWaits n s = releaseItem item { s with control := { s.control with waits := [] } } := by
  rw [releaseWaits_eq, hw]
  simp

/-! ### A stored frame (R162) -/

theorem unblocked_markStored (n : Nat) (s : State) (hw : s.control.waits = []) : Unblocked n (markStored n s) := by
  refine ⟨fun f hf number => ?_, by simp [markStored, hw]⟩
  obtain ⟨g, -, rfl⟩ := List.mem_map.1 hf
  by_cases h : g.frame.number = n
  · rw [if_pos h]
  · rw [if_neg h] at number
    exact absurd number h

section
variable {pf : PendingFrame} (h1 : pf.frame.format ≠ .closeBegin) (h2 : pf.frame.format ≠ .closeEnd)
include h1 h2

/-- A stored frame that is no close's: its effect and its continuation, then the waits (R162, R164). -/
theorem frameStored_open : frameStored pf s = releaseWaits pf.frame.number
    (announce pf.slotFreed pf.frame.continuation (storedEffect pf.frame (markStored pf.frame.number s))) := by
  have silent : offersPresence pf.frame.format = false := by simp [offersPresence, h1, h2]
  unfold frameStored
  dsimp only
  rw [silent, if_neg h2]
  rfl

theorem frameStored_plain (h3 : pf.frame.format ≠ .archiveStore) : frameStored pf s = releaseWaits pf.frame.number
    (announce pf.slotFreed pf.frame.continuation (markStored pf.frame.number s)) := by
  have effect (u : State) : storedEffect pf.frame u = u := by
    unfold storedEffect
    split
    · next h => exact absurd h h2
    · next h => exact absurd h h3
    · rfl
  rw [frameStored_open h1 h2, effect]

end

end

end Sys2Proof.Machine
end

section
/-! What a stored frame's continuation brings about, with no other wait standing (R85, R162). -/
namespace Sys2Proof.Machine

section
variable {s : State} {n slt slot gp a place : Nat} {pr : Program} {prs : List Program} {frm : Frame} {pf : PendingFrame}
  {h : HoldRef} {o : OutcomeRec} {gr : Grant} {c : Card} {sl : Slot}

/-! ### A grant whose slot was freed (R85) -/

/-- The state once a frame's program has completed: the frame stands stored in its slot (R158, R162). -/
def frameWritten (slt : Nat) (frm : Frame) (prs : List Program) (n : Nat) (s : State) : State :=
  { s with control := programmedFrame slt frm prs n s }

theorem frameFree_frameWritten : frameFree (frameWritten slt frm prs n s) = frameFree s := by
  show decide ((s.control.frames.map _).length < frameSlots) = _
  rw [List.length_map]
  rfl

theorem findSettled_requester {requester tag serial : Nat} {period : Int}
    (hfs : findSettled s requester tag serial period = some (gp, gr)) : gr.requester = requester := by
  obtain ⟨-, requester, -⟩ := findSettled_spec hfs
  exact requester

theorem releaseHold_own_waits (gp : Nat) (k : Continuation) (own : gr.requester = ownStation s) :
    (releaseHold gp gr k s).control.waits = s.control.waits := by
  unfold releaseHold
  dsimp only
  rw [reexamine_own_waits (by simp [own, ownStation]), acceptFrame_waits]
  simp

section
variable {serial : Nat} (hfs : findSettled s (ownStation s) h.tag serial h.period = some (gp, gr))
  (hb : gr.body = .hold h.tag a .isOpen)
include hfs

theorem releaseUnshown_lapsed (lapsed : tabGet s.requests.lives h.tag = some 0) : releaseUnshown h serial s = s := by
  rw [releaseUnshown, hfs]
  exact if_pos (by simp [lapsed])

include hb

theorem releaseUnshown_live (live : tabGet s.requests.lives h.tag ≠ some 0) :
    releaseUnshown h serial s = if frameFree s = true then releaseHold gp gr .none s
      else { s with requests := { s.requests with lapsing := s.requests.lapsing ++ [h.tag] } } := by
  rw [releaseUnshown, hfs]
  exact if_neg (by simp [live, grantOpen_of hb])

theorem releaseUnshown_waits : (releaseUnshown h serial s).control.waits = s.control.waits := by
  by_cases lapsed : tabGet s.requests.lives h.tag = some 0
  · rw [releaseUnshown_lapsed hfs lapsed]
  rw [releaseUnshown_live hfs hb lapsed]
  split
  · exact releaseHold_own_waits gp .none (findSettled_requester hfs)
  · rfl

end

/-! ### The continuation of a stored frame (R162) -/

section
variable (hq : s.control.queue = .frame slt frm :: prs) (up : s.station = .idle ∨ s.station = .trading)
  (hf : (s.control.frames.find? fun k => k.slot = slt) = some pf)
  (h1 : pf.frame.format ≠ .closeBegin) (h2 : pf.frame.format ≠ .closeEnd)
include hq up hf

theorem exec_frameProgram_up : exec (.programComplete .completed) s =
    .next (frameStored pf { s with control := programmed (.frame slt frm) prs s }) := by
  have found : ({ s with control := programmed (.frame slt frm) prs s } : State).control.frames.find?
      (fun k => k.slot = slt) = some pf := hf
  rw [exec_programComplete_up hq up, programDone, found]

include h1 h2

theorem exec_frame_plain (h3 : pf.frame.format ≠ .archiveStore) : exec (.programComplete .completed) s =
    .next (releaseWaits pf.frame.number
      (announce pf.slotFreed pf.frame.continuation (frameWritten slt frm prs pf.frame.number s))) := by
  rw [exec_frameProgram_up hq up hf, frameStored_plain h1 h2 h3]
  rfl

variable (h3 : pf.frame.format ≠ .archiveStore) (hw : s.control.waits = [])
include h3 hw

/-- With no wait standing, a continuation that leaves its own waits unblocked is all a stored frame brings about. -/
theorem exec_frame_unblocked {u : State}
    (hu : announce pf.slotFreed pf.frame.continuation (frameWritten slt frm prs pf.frame.number s) = u)
    (kept : Unblocked pf.frame.number (frameWritten slt frm prs pf.frame.number s) →
      ∀ w ∈ u.control.waits, w.frames ≠ [] ∧ pf.frame.number ∉ w.frames) :
    exec (.programComplete .completed) s = .next u := by
  have written := unblocked_markStored pf.frame.number { s with control := programmed (.frame slt frm) prs s } hw
  rw [exec_frame_plain hq up hf h1 h2 h3, hu, releaseWaits_unblocked (kept written)]

/-- A continuation that touches no wait. -/
theorem exec_frame_sameWaits {u : State}
    (hu : announce pf.slotFreed pf.frame.continuation (frameWritten slt frm prs pf.frame.number s) = u)
    (same : u.control.waits = s.control.waits) : exec (.programComplete .completed) s = .next u :=
  exec_frame_unblocked hq up hf h1 h2 h3 hw hu (by simp [same, hw])

theorem exec_frame_outcome {orq : Option Nat} (hc : pf.frame.continuation = .slotOutcome slot orq none o)
    (kept : pf.slotFreed = false) (hs : getSlot s slot = some sl) : exec (.programComplete .completed) s =
      .next (slotLeft sl (outcomeShown slot sl o (frameWritten slt frm prs pf.frame.number s))) := by
  refine exec_frame_unblocked hq up hf h1 h2 h3 hw ?_ fun written => ?_
  · rw [hc, kept]
    exact setOutcome_eq (s := frameWritten slt frm prs pf.frame.number s) hs o
  · exact (written.congr (t := outcomeShown slot sl o _) rfl).slotLeft_waits

/-- The frame of a grant whose slot has been freed (R85). -/
theorem exec_frame_unshown {orq : Option Nat} (hc : pf.frame.continuation = .slotOutcome slot orq (some h) o)
    (freed : pf.slotFreed = true)
    (hfs : findSettled s (ownStation s) h.tag o.card.serial h.period = some (gp, gr))
    (hb : gr.body = .hold h.tag a .isOpen) (hcard : findCard s gr.serial = some (place, c)) :
    (tabGet s.requests.lives h.tag = some 0 →
      exec (.programComplete .completed) s = .next (frameWritten slt frm prs pf.frame.number s)) ∧
    (tabGet s.requests.lives h.tag ≠ some 0 →
      (frameFree s = true →
        exec (.programComplete .completed) s = .next (reexamine gr.requester
          (holdEnded .holdSettle .released gp gr h.tag a place c (frameWritten slt frm prs pf.frame.number s)))) ∧
      (frameFree s = false →
        exec (.programComplete .completed) s = .next { frameWritten slt frm prs pf.frame.number s with
          requests := { s.requests with lapsing := s.requests.lapsing ++ [h.tag] } })) := by
  have unshown : exec (.programComplete .completed) s =
      .next (releaseUnshown h o.card.serial (frameWritten slt frm prs pf.frame.number s)) :=
    exec_frame_sameWaits hq up hf h1 h2 h3 hw (by rw [hc, freed]; rfl)
      (releaseUnshown_waits (s := frameWritten slt frm prs pf.frame.number s) hfs hb)
  have room := frameFree_frameWritten (s := s) (slt := slt) (frm := frm) (prs := prs) (n := pf.frame.number)
  rw [unshown]
  refine ⟨fun lapsed => ?_, fun live => ?_⟩
  · rw [releaseUnshown_lapsed (s := frameWritten slt frm prs pf.frame.number s) hfs lapsed]
  rw [releaseUnshown_live (s := frameWritten slt frm prs pf.frame.number s) hfs hb live]
  refine ⟨fun free => ?_, fun full => ?_⟩
  · rw [if_pos (room.trans free), releaseHold_eq (s := frameWritten slt frm prs pf.frame.number s) hb hcard
      (room.trans free)]
    rfl
  · rw [if_neg (by simp [room, full])]
    rfl

end

end

end Sys2Proof.Machine
end

section
/-! Held items that go out (R164), and a stored ARCHIVE_STORE (R137). -/
namespace Sys2Proof.Machine

section
variable {s : State} {slt : Nat} {pr : Program} {prs : List Program} {frm : Frame} {pf : PendingFrame}

theorem offerRequestOf_gone {home n : Nat} (h : findTrack s home n = none) : offerRequestOf home n s = s := by
  rw [offerRequestOf, h]

theorem offerRequestOf_orphan {home n tp : Nat} {tr : Track} (h : findTrack s home n = some (tp, tr))
    (orphan : tr.orphan.isSome = true) : offerRequestOf home n s = s := by
  rw [offerRequestOf, h]
  exact if_pos (.inl orphan)

theorem placePosition_eq (ht : s.station = .trading) {j p : Nat} (closing : p + 1 = openPeriod s) :
    placePosition j p s = { s with link := { s.link with
      tx := if s.link.tx.length < 16 then
          s.link.tx ++ [⟨j, stampOf (openPeriod s), 0,
            .position p (readRow s (closingSide s) p j).fig (readRow s (closingSide s) p j).haveYours, 0⟩]
        else s.link.tx } } := by
  unfold placePosition
  by_cases room : s.link.tx.length < 16
  · rw [if_pos ⟨ht, closing, txRoom_iff.2 room⟩, if_pos room]
    rfl
  · rw [if_neg fun all => room (txRoom_iff.1 all.2.2), if_neg room]

theorem itemsGoOut_of (ht : s.station = .trading) : itemsGoOut s := by
  refine ⟨offerAnswer_eq ht, fun n o sl hs => setOutcome_eq hs o, fun home n tp tr found => ?_,
    fun home n gone => offerRequestOf_gone gone, fun j p closing => placePosition_eq ht closing, fun n => rfl⟩
  show offerRequestOf home n s = _
  split
  · next orphan => exact offerRequestOf_orphan found orphan
  · next live =>
    rw [offerRequestOf_found ht found (by simpa using live), offerRequest_eq]

theorem frameStored_archive {ar : Nat} (format : pf.frame.format = .archiveStore) (hc : pf.frame.continuation = .none)
    (carried : frameArchived pf.frame = some ar) (hw : s.control.waits = []) :
    frameStored pf s = retire { markStored pf.frame.number s with journal := { s.journal with archivedStored := ar } } := by
  have effect : storedEffect pf.frame (markStored pf.frame.number s) =
      retire { markStored pf.frame.number s with journal := { s.journal with archivedStored := ar } } := by
    rw [storedEffect, format]
    dsimp only
    rw [archiveStored, carried]
    rfl
  rw [frameStored_open (by simp [format]) (by simp [format]), hc, effect]
  exact releaseWaits_none _ hw

end

end Sys2Proof.Machine

namespace Sys2Proof

open Machine

/-- Settles O51: the program's place is written, and a stored frame's continuation is carried out by its kind. -/
theorem programsWriteThenAnnounce : Obligations.ProgramsWriteThenAnnounce := by
  intro s pr prs hq
  refine ⟨fun up => ⟨?_, ?_, ?_, ?_, ?_, ?_, itemsGoOut_of, ?_, ?_⟩, fun ht => ⟨?_, ?_, ?_⟩⟩
  · rintro tg rfl
    exact exec_programComplete_up hq up
  · rintro pos en rfl
    exact exec_programComplete_up hq up
  · rintro slt rfl
    exact exec_programComplete_up hq up
  · rintro slt rfl
    exact exec_programComplete_up hq up
  · rintro slt frm pf rfl hf h1 h2 h3 hw
    refine ⟨fun hc => ?_, fun odst oreq opay hc ht => ?_, fun nr hc => ?_, fun slot orq oout sl hc => ⟨fun freed => ?_,
      fun kept hs => ?_⟩, fun slot orq h oout sl hc kept hs => ?_, fun odst oreq ost tp opay tr hc ht found =>
      ⟨fun live => ?_, fun orphan => ?_⟩, fun slot orq h oout gp a place gr c hc freed ht hfs hb hcard => ?_⟩
    · exact exec_frame_sameWaits hq up hf h1 h2 h3 hw (by rw [hc]; rfl) rfl
    · exact exec_frame_sameWaits hq up hf h1 h2 h3 hw
        (by rw [hc]; exact offerAnswer_eq (s := frameWritten slt frm prs pf.frame.number s) ht odst oreq opay) rfl
    · exact exec_frame_sameWaits hq up hf h1 h2 h3 hw (by rw [hc]; rfl) rfl
    · exact exec_frame_sameWaits hq up hf h1 h2 h3 hw (by rw [hc, freed]; rfl) rfl
    · exact exec_frame_outcome hq up hf h1 h2 h3 hw hc kept hs
    · exact exec_frame_sameWaits hq up hf h1 h2 h3 hw
        (by rw [hc, kept]; exact enterHeld_eq (s := frameWritten slt frm prs pf.frame.number s) hs h oout) rfl
    · refine exec_frame_sameWaits hq up hf h1 h2 h3 hw ?_ rfl
      rw [hc, announce, offerRequestOf_found (s := frameWritten slt frm prs pf.frame.number s) ht found (by simp [live]),
        offerRequest_eq]
      rfl
    · refine exec_frame_sameWaits hq up hf h1 h2 h3 hw ?_ rfl
      rw [hc]
      exact offerRequestOf_orphan (s := frameWritten slt frm prs pf.frame.number s) found orphan
    · exact exec_frame_unshown hq up hf h1 h2 h3 hw hc freed hfs hb hcard
  · rintro slt frm pf rfl hf hc
    refine ⟨fun h1 h2 h3 => ?_, fun ar format carried hw => ?_⟩
    · have lets := exec_frame_plain hq up hf h1 h2 h3
      rw [hc, announce] at lets
      exact ⟨lets.trans (congrArg _ (releaseWaits_eq ..)), fun item one =>
        lets.trans (congrArg _ (releaseWaits_one (s := frameWritten slt frm prs pf.frame.number s) one))⟩
    · rw [exec_frameProgram_up hq up hf,
        frameStored_archive (s := { s with control := programmed (.frame slt frm) prs s }) format hc carried hw]
      rfl
  · exact exec_programComplete_failed hq up .failedUnchanged (by decide)
  · exact exec_programComplete_failed hq up .failedTorn (by decide)
  all_goals
    rw [exec_queuedProgram hq, endProgram_halted ht]
    rfl

end Sys2Proof
end

section
/-! What SLOT_FREE brings about by the state the slot was in (R84, R85). -/
namespace Sys2Proof.Machine

section
variable {s : State} {slot gp place tag a : Nat} {sl : Slot} {h : HoldRef} {gr : Grant} {c : Card} {tp : Nat} {tr : Track}

/-! ### The frames and waits a freed slot leaves (R162, R84) -/

/-- A pending frame as it stands once a slot is freed: marked, when its outcome was to be the slot's. -/
def forsaken (slot : Nat) (f : PendingFrame) : PendingFrame :=
  if outcomeFor slot f.frame.continuation then { f with slotFreed := true } else f

theorem frames_forsake (slot : Nat) (s : State) : (forsake slot s).control.frames = s.control.frames.map (forsaken slot) := rfl

@[simp] theorem forsaken_frame (slot : Nat) (f : PendingFrame) : (forsaken slot f).frame = f.frame := by
  unfold forsaken
  split <;> rfl

@[simp] theorem forsaken_slot (slot : Nat) (f : PendingFrame) : (forsaken slot f).slot = f.slot := by
  unfold forsaken
  split <;> rfl

theorem forsaken_outcome {f : PendingFrame} {orq : Option Nat} {oh : Option HoldRef} {o : OutcomeRec}
    (hc : f.frame.continuation = .slotOutcome slot orq oh o) : forsaken slot f = { f with slotFreed := true } :=
  if_pos (by rw [hc]; exact decide_eq_true rfl)

theorem forsaken_other {f : PendingFrame} (hc : outcomeFor slot f.frame.continuation = false) : forsaken slot f = f :=
  if_neg (by rw [hc]; exact Bool.false_ne_true)

theorem find_forsaken (slot slt : Nat) (s : State) :
    ((forsake slot s).control.frames.find? fun k => k.slot = slt) =
      (s.control.frames.find? fun k => k.slot = slt).map (forsaken slot) := by
  rw [frames_forsake, List.find?_map]
  simp

/-! ### The tracker entry of a freed slot (R84) -/

theorem freedEffect_unlinked (pending : sl.state = .authorising ∨ sl.state = .enquiring) (unlinked : linkedTrack s sl = none) :
    freedEffect sl s = s := by
  unfold freedEffect
  rcases pending with state | state <;> rw [state, unlinked]

theorem freedEffect_authorising (state : sl.state = .authorising) (linked : linkedTrack s sl = some (tp, tr)) :
    freedEffect sl s = putTrack tp { tr with abandoned := true, slot := none } s := by rw [freedEffect, state, linked]

theorem freedEffect_enquiring (state : sl.state = .enquiring) (linked : linkedTrack s sl = some (tp, tr)) :
    freedEffect sl s = dropTrack tp tr s := by rw [freedEffect, state, linked]

/-! ### An own hold whose slot was freed (R37, R84) -/

section
variable {serial : Nat} (hfs : findSettled s (ownStation s) h.tag serial h.period = some (gp, gr))
include hfs

theorem releaseFreed_released (hb : gr.body = .hold tag a .isOpen) (hcard : findCard s gr.serial = some (place, c))
    (free : frameFree s = true) : releaseFreed h serial s =
      reexamine (ownStation s) (holdEnded .holdSettle .released gp gr tag a place c s) := by
  rw [releaseFreed, hfs]
  dsimp only
  rw [if_pos (grantOpen_of hb), if_pos free, releaseHold_eq hb hcard free]
  exact congrArg (reexamine · _) (findSettled_requester hfs)

theorem releaseFreed_deferred (hb : gr.body = .hold tag a .isOpen) (full : frameFree s = false) :
    releaseFreed h serial s = { s with requests := { s.requests with deferred := s.requests.deferred ++ [h.tag] } } := by
  rw [releaseFreed, hfs]
  dsimp only
  rw [if_pos (grantOpen_of hb), full]
  rfl

end

theorem releaseFreed_ended {serial : Nat}
    (ended : ((findSettled s (ownStation s) h.tag serial h.period).all fun k => !grantOpen k.2) = true) :
    releaseFreed h serial s = s := by
  unfold releaseFreed
  split
  · rfl
  · next found =>
    rw [found] at ended
    exact if_neg (by simpa using ended)

/-! ### A foreign hold whose slot was freed (R84) -/

theorem releaseDetached_full_tracker (full : 32 ≤ trackCount s) : releaseDetached sl h s = s := by
  rw [releaseDetached, if_neg]
  rw [Bool.and_eq_true, trackerRoom_iff]
  omega

theorem releaseDetached_sent (ht : s.station = .trading) (unstepped : (nextNumber s).2 = false)
    (covered : unstored (coversNumber (nextNumber s).1) s = []) (unheld : numberHeld s (nextNumber s).1 = false)
    (live : lastClosed s < h.period) (room : trackCount s < 32) :
    releaseDetached sl h s = releaseSent (freeTrackPlace s) sl.card.ss sl.card.serial h.tag h.period s := by
  rw [releaseDetached, trackerRoom_iff.2 room, numberReady_of unstepped]
  exact startVolatile_release ht unstepped covered unheld live

end

end Sys2Proof.Machine

namespace Sys2Proof

open Machine

/-- Settles O23: SLOT_FREE's checks passed, what is left behind is seen to by the state the slot was in. -/
theorem slotFreeLetsGo : Obligations.SlotFreeLetsGo := by
  intro s slot sl ht hn
  refine ⟨exec_slotFree_none ht hn, fun hs => ?_⟩
  have freed {t : State} (idle : sl.state ≠ .settling ∧ sl.state ≠ .crediting ∧ sl.state ≠ .issuing)
      (effect : freedEffect sl (slotFreed slot s) = t) : exec (.slotFree slot) s = .next (accepted [] t) :=
    effect ▸ exec_slotFree_freed ht hn hs idle
  refine ⟨exec_slotFree_refused ht hn hs, fun outcome => ?_, fun pending unlinked => ?_, ?_, fun tp tr authorising linked => ?_,
    fun tp tr enquiring linked => ?_, fun h gp gr tag a place c held hold own hfs hb hcard => ⟨fun free => ?_, fun full => ?_⟩,
    fun h held hold own ended => ?_, rfl, ?_, fun n orq oh oout pf at_n => ⟨fun hc => ?_, fun hc => ?_⟩,
    fun h held hold foreign unstepped covered unheld live => ⟨fun room => ?_, fun full => ?_⟩⟩
  · exact freed (by simp [outcome]) (by rw [freedEffect, outcome])
  · exact freed (by rcases pending with state | state <;> simp [state])
      (freedEffect_unlinked (s := slotFreed slot s) pending unlinked)
  · rintro slt frm prs pf orq h oout gp a place gr c _ authorising unlinked rfl hq hf format hc hfs hb hcard hw
    have found := (find_forsaken slot slt s).trans (congrArg (Option.map (forsaken slot)) hf)
    refine ⟨freed (by simp [authorising]) (freedEffect_unlinked (s := slotFreed slot s) (.inl authorising) unlinked), ?_⟩
    have ends := exec_frame_unshown (s := { slotFreed slot s with port := acceptedPort [] s }) (slt := slt) (frm := frm)
      (prs := prs) (pf := forsaken slot pf) hq (.inr ht) found (by simp [format]) (by simp [format]) (by simp [format])
      (by simp [slotFreed, forsake, hw]) (by simpa using hc) (by rw [forsaken_outcome hc]) hfs hb hcard
    rw [forsaken_frame] at ends
    obtain ⟨lapsed, live⟩ := ends
    refine ⟨lapsed, fun alive => ?_⟩
    obtain ⟨released, deferred⟩ := live alive
    have room := frameFree_slotFreed slot s
    exact ⟨fun free => released (room.trans free), fun full => deferred (room.trans full)⟩
  · exact freed (by simp [authorising]) (freedEffect_authorising (s := slotFreed slot s) authorising linked)
  · exact freed (by simp [enquiring]) (freedEffect_enquiring (s := slotFreed slot s) enquiring linked)
  · rw [exec_slotFree_held ht hn hs held hold, if_pos (isOwn_of own), releaseFreed_released (s := slotFreed slot s) hfs hb hcard
      ((frameFree_slotFreed ..).trans free), own]
    rfl
  · rw [exec_slotFree_held ht hn hs held hold, if_pos (isOwn_of own), releaseFreed_deferred (s := slotFreed slot s) hfs hb
      ((frameFree_slotFreed ..).trans full), own]
    rfl
  · rw [exec_slotFree_held ht hn hs held hold, if_pos (isOwn_of own), releaseFreed_ended (s := slotFreed slot s) ended, own]
    rfl
  · rw [frames_forsake]
    simp
  · rw [frames_forsake, List.getElem?_map, at_n, ← forsaken_outcome hc]
    rfl
  · rw [frames_forsake, List.getElem?_map, at_n, Option.map_some, forsaken_other hc]
  · rw [exec_slotFree_held ht hn hs held hold, if_neg (not_isOwn foreign),
      releaseDetached_sent (s := slotFreed slot s) ht unstepped ((unstored_slotFreed ..).trans covered) unheld live room]
    rfl
  · rw [exec_slotFree_held ht hn hs held hold, if_neg (not_isOwn foreign),
      releaseDetached_full_tracker (s := slotFreed slot s) full]
    rfl

end Sys2Proof
end

section
/-! The close deadline, its work on the till: the fold over a table, the slots that lapse, the tracker entries (R86, R107). -/
namespace Sys2Proof.Machine

/-! ### A fold over a table -/

section
variable {α σ : Type} {t : Tab α} {k : Nat} {a : α}

/-- A place of a table in canonical form: what stands before it is what has a lower place. -/
theorem tab_split (hw : tabWf t = true) (hk : tabGet t k = some a) :
    ∃ later, t = t.filter (fun p => p.1 < k) ++ (k, a) :: later ∧ ∀ p ∈ later, p.1 ≠ k := by
  obtain ⟨earlier, later, rfl⟩ := List.append_of_mem (mem_of_tabGet hk)
  obtain ⟨-, sorted, below⟩ := List.pairwise_append.1 ((tabWf_iff _).1 hw)
  have above := (List.pairwise_cons.1 sorted).1
  refine ⟨later, ?_, fun p hp => (above p hp).ne'⟩
  have low : earlier.filter (fun p => p.1 < k) = earlier :=
    List.filter_eq_self.2 fun p hp => decide_eq_true (below p hp (k, a) List.mem_cons_self)
  have high : later.filter (fun p => p.1 < k) = [] :=
    List.filter_eq_nil_iff.2 fun p hp => by simpa using (above p hp).le
  rw [List.filter_append, low, List.filter_cons_of_neg (by simp), high, List.append_nil]

/-- A fold over a table whose steps at other places keep what holds before its place is visited, and what holds after. -/
theorem foldl_visit (hw : tabWf t = true) (hk : tabGet t k = some a) {f : σ → Nat × α → σ} {before after : σ → Prop}
    (skip : ∀ u, ∀ e ∈ t, e.1 ≠ k → before u → before (f u e)) (visit : ∀ u, before u → after (f u (k, a)))
    (stay : ∀ u, ∀ e ∈ t, e.1 ≠ k → after u → after (f u e)) {s : σ} (h : before s) : after (t.foldl f s) := by
  obtain ⟨later, split, apart⟩ := tab_split hw hk
  have listed {p : Nat × α} (hp : p ∈ later) : p ∈ t := split ▸ by simp [hp]
  rw [split, List.foldl_append, List.foldl_cons]
  refine List.foldlRecOn later f (visit _ ?_) fun u hu e he => stay u e (listed he) (apart e he) hu
  refine List.foldlRecOn _ f h fun u hu e he => ?_
  obtain ⟨he, low⟩ := List.mem_filter.1 he
  exact skip u e he (of_decide_eq_true low).ne hu

end

section
variable {s t u : State} {p slot place tp : Nat} {sl : Slot} {tr : Track} {e : Nat × Slot} {r : HoldRef}

/-! ### Work on the till alone -/

/-- The outcome of a hold that lapses is the station's own and the custody's. -/
theorem lapsedOutcome_congr (ident : t.ident = s.ident) (custody : t.custody = s.custody)
    (closed : lastClosed t = lastClosed s) (sl : Slot) : lapsedOutcome t sl = lapsedOutcome s sl := by
  have own : ownStation t = ownStation s := by rw [ownStation, ident, ownStation]
  have card (n : Nat) : availableOf t n = availableOf s n := by
    rw [availableOf, findCard, custody, closed, availableOf, findCard]
  rw [lapsedOutcome_eq, lapsedOutcome_eq, own, card]

/-- Only the slots, the tracker entries and the notices differ. -/
def TillOnly (s t : State) : Prop := { t with slots := s.slots, tracker := s.tracker, notices := s.notices } = s

theorem TillOnly.refl (s : State) : TillOnly s s := rfl

theorem TillOnly.trans (h : TillOnly s t) (k : TillOnly t u) : TillOnly s u := by
  unfold TillOnly at *
  rw [← h, ← k]

theorem TillOnly.foldl {α : Type} {f : State → α → State} (step : ∀ u a, TillOnly u (f u a)) (l : List α) (s : State) :
    TillOnly s (l.foldl f s) :=
  List.foldlRecOn l f (.refl s) fun u hu a _ => hu.trans (step u a)

section
variable (h : TillOnly s t)
include h

theorem TillOnly.ident : t.ident = s.ident := (congrArg State.ident h :)
theorem TillOnly.custody : t.custody = s.custody := (congrArg State.custody h :)
theorem TillOnly.requests : t.requests = s.requests := (congrArg State.requests h :)
theorem TillOnly.positions : t.positions = s.positions := (congrArg State.positions h :)
theorem TillOnly.control : t.control = s.control := (congrArg State.control h :)
theorem TillOnly.link : t.link = s.link := (congrArg State.link h :)
theorem TillOnly.port : t.port = s.port := (congrArg State.port h :)
theorem TillOnly.lastClosed : lastClosed t = lastClosed s := by rw [Machine.lastClosed, h.positions, Machine.lastClosed]

theorem TillOnly.lapsedOutcome (sl : Slot) : lapsedOutcome t sl = lapsedOutcome s sl :=
  lapsedOutcome_congr h.ident h.custody h.lastClosed sl

end

theorem delTrack_tillOnly (n : Nat) (s : State) : TillOnly s (delTrack n s) := rfl

theorem putTrack_tillOnly (n : Nat) (tr : Track) (s : State) : TillOnly s (putTrack n tr s) := rfl

theorem post_tillOnly (kind : NoticeKind) (x : Subject) (c : Nat) (s : State) : TillOnly s (post kind x c s) := rfl

theorem writeOutcome_tillOnly (n : Nat) (sl : Slot) (o : OutcomeRec) (s : State) : TillOnly s (writeOutcome n sl o s) := rfl

theorem getSlot_writeOutcome_self (n : Nat) (sl : Slot) (o : OutcomeRec) (s : State) :
    getSlot (writeOutcome n sl o s) n = some (slotOutcome sl o) := tabGet_tabPut_self _ _ _

theorem getSlot_writeOutcome_ne {n : Nat} (other : slot ≠ n) (sl : Slot) (o : OutcomeRec) (s : State) :
    getSlot (writeOutcome n sl o s) slot = getSlot s slot := tabGet_tabPut_ne _ _ other

/-! ### Slots that lapse (R86) -/

/-- What the deadline does to one till slot. -/
def lapseSlot (p : Nat) (s : State) (e : Nat × Slot) : State :=
  match e.2.hold with
  | some h => if e.2.state = .held ∧ h.period = p then writeOutcome e.1 e.2 (lapsedOutcome s e.2) s else s
  | none => s

theorem lapseSlots_eq (p : Nat) (s : State) : lapseSlots p s = s.slots.foldl (lapseSlot p) s := rfl

theorem lapseSlot_cases (p : Nat) (s : State) (e : Nat × Slot) :
    lapseSlot p s e = s ∨ lapseSlot p s e = writeOutcome e.1 e.2 (lapsedOutcome s e.2) s := by
  unfold lapseSlot
  split
  · split
    · exact .inr rfl
    · exact .inl rfl
  · exact .inl rfl

theorem lapseSlot_tillOnly (p : Nat) (s : State) (e : Nat × Slot) : TillOnly s (lapseSlot p s e) := by
  rcases lapseSlot_cases p s e with same | wrote
  · rw [same]
    exact .refl s
  · rw [wrote]
    exact writeOutcome_tillOnly ..

theorem lapseSlots_tillOnly (p : Nat) (s : State) : TillOnly s (lapseSlots p s) := .foldl (lapseSlot_tillOnly p) _ s

theorem getSlot_lapseSlot_ne (other : e.1 ≠ slot) : getSlot (lapseSlot p s e) slot = getSlot s slot := by
  rcases lapseSlot_cases p s e with same | wrote
  · rw [same]
  · rw [wrote, getSlot_writeOutcome_ne other.symm]

theorem getSlot_lapseSlot_held (held : sl.state = .held) (hold : sl.hold = some r) (period : r.period = p) :
    getSlot (lapseSlot p s (slot, sl)) slot = some (slotOutcome sl (lapsedOutcome s sl)) := by
  unfold lapseSlot
  rw [hold]
  dsimp only
  rw [if_pos ⟨held, period⟩, getSlot_writeOutcome_self]

/-- A slot HELD on a hold of the period lapses. -/
theorem getSlot_lapseSlots (hw : tabWf s.slots = true) (hs : getSlot s slot = some sl) (held : sl.state = .held)
    (hold : sl.hold = some r) (period : r.period = p) :
    getSlot (lapseSlots p s) slot = some (slotOutcome sl (lapsedOutcome s sl)) := by
  rw [lapseSlots_eq]
  refine foldl_visit hw hs (before := TillOnly s)
    (after := fun u => getSlot u slot = some (slotOutcome sl (lapsedOutcome s sl)))
    (fun u e _ _ hu => hu.trans (lapseSlot_tillOnly p u e)) (fun u hu => ?_)
    (fun u e _ other hu => (getSlot_lapseSlot_ne other).trans hu) (.refl s)
  rw [getSlot_lapseSlot_held held hold period, hu.lapsedOutcome]

theorem lapseSlots_tracker (p : Nat) (s : State) : (lapseSlots p s).tracker = s.tracker := by
  rw [lapseSlots_eq]
  refine List.foldlRecOn _ _ (motive := fun u : State => u.tracker = s.tracker) rfl fun u hu e _ => ?_
  rcases lapseSlot_cases p u e with same | wrote
  · rw [same, hu]
  · rw [wrote]
    simpa using hu

/-! ### Tracker entries (R86) -/

theorem deadlineOutcome_tillOnly (code : OutcomeCode) (x : Option Nat) (s : State) :
    TillOnly s (deadlineOutcome code x s) := by
  unfold deadlineOutcome
  split
  · split
    · exact writeOutcome_tillOnly ..
    · exact .refl s
  · exact .refl s

theorem deadlineOutcome_tracker (code : OutcomeCode) (x : Option Nat) (s : State) :
    (deadlineOutcome code x s).tracker = s.tracker := by
  unfold deadlineOutcome
  split
  · split <;> simp
  · rfl

theorem getSlot_deadlineOutcome (code : OutcomeCode) {x : Option Nat} (other : x ≠ some slot) (s : State) :
    getSlot (deadlineOutcome code x s) slot = getSlot s slot := by
  unfold deadlineOutcome
  split
  · split
    · exact getSlot_writeOutcome_ne (fun same => other (congrArg some same.symm)) _ _ s
    · rfl
  · rfl

/-- An entry of money under way as the deadline leaves it: orphan, with the state it had (R86). -/
def orphaned (tr : Track) : Track := { tr with orphan := some tr.data.state, slot := none, timer := none }

/-- What the deadline can do to an entry of its period: leave an orphan, drop a volatile entry, or mark a stored one. -/
theorem deadlineTrack_cases (place : Nat) (tr : Track) (s : State) :
    deadlineTrack place tr s = s ∨
    (∃ code, deadlineTrack place tr s = deadlineOutcome code tr.slot (delTrack place s)) ∨
    (∃ n : NoticeRec, deadlineTrack place tr s =
      post n.kind n.subject n.code (deadlineOutcome .inDoubt tr.slot (putTrack place (orphaned tr) s))) := by
  unfold deadlineTrack
  split
  · exact .inr (.inl ⟨_, rfl⟩)
  · exact .inr (.inl ⟨_, rfl⟩)
  · exact .inr (.inl ⟨_, rfl⟩)
  all_goals
    split
    · exact .inl rfl
    · exact .inr (.inr ⟨⟨_, _, _⟩, rfl⟩)

theorem deadlineTrack_tillOnly (place : Nat) (tr : Track) (s : State) : TillOnly s (deadlineTrack place tr s) := by
  rcases deadlineTrack_cases place tr s with same | ⟨code, dropped⟩ | ⟨n, marked⟩
  · rw [same]
    exact .refl s
  · rw [dropped]
    exact (delTrack_tillOnly place s).trans (deadlineOutcome_tillOnly ..)
  · rw [marked]
    exact ((putTrack_tillOnly place _ s).trans (deadlineOutcome_tillOnly ..)).trans (post_tillOnly ..)

theorem getSlot_deadlineTrack (place : Nat) (other : tr.slot ≠ some slot) (s : State) :
    getSlot (deadlineTrack place tr s) slot = getSlot s slot := by
  rcases deadlineTrack_cases place tr s with same | ⟨code, dropped⟩ | ⟨n, marked⟩
  · rw [same]
  · rw [dropped, getSlot_deadlineOutcome code other]
    rfl
  · rw [marked]
    exact getSlot_deadlineOutcome .inDoubt other _

theorem tabGet_deadlineTrack_ne (other : place ≠ tp) (tr : Track) (s : State) :
    tabGet (deadlineTrack place tr s).tracker.entries tp = tabGet s.tracker.entries tp := by
  rcases deadlineTrack_cases place tr s with same | ⟨code, dropped⟩ | ⟨n, marked⟩
  · rw [same]
  · rw [dropped, deadlineOutcome_tracker]
    exact tabGet_tabDel_ne _ other.symm
  · rw [marked]
    show tabGet (deadlineOutcome .inDoubt tr.slot (putTrack place (orphaned tr) s)).tracker.entries tp = _
    rw [deadlineOutcome_tracker]
    exact tabGet_tabPut_ne _ _ other.symm

theorem tabGet_deadlineTrack_stored (stored : tr.data.kind = .capture ∨ tr.data.kind = .credit .topup ∨ tr.data.kind = .credit .refund)
    (fresh : tr.orphan = none) (s : State) :
    tabGet (deadlineTrack place tr s).tracker.entries place = some (orphaned tr) := by
  have marked : (deadlineTrack place tr s).tracker =
      (deadlineOutcome .inDoubt tr.slot (putTrack place (orphaned tr) s)).tracker := by
    rcases stored with kind | kind | kind <;> simp [deadlineTrack, kind, fresh, orphaned, post]
  rw [marked, deadlineOutcome_tracker]
  exact tabGet_tabPut_self _ _ _

theorem tabGet_deadlineTrack_volatile (volatile : tr.data.kind = .hold ∨ tr.data.kind = .release ∨
    tr.data.kind = .status .enquire ∨ tr.data.kind = .status .freeze) (s : State) :
    tabGet (deadlineTrack place tr s).tracker.entries place = none := by
  have dropped : (deadlineTrack place tr s).tracker = (delTrack place s).tracker := by
    rcases volatile with kind | kind | kind | kind <;> simp [deadlineTrack, kind, deadlineOutcome_tracker]
  rw [dropped]
  exact tabGet_tabDel_self _ _

/-- What the deadline does to one tracker entry, of the period or not. -/
def trackStep (p : Nat) (s : State) (e : Nat × Track) : State :=
  if e.2.data.period = p ∧ !trackFree (lastClosed s) e.2 then deadlineTrack e.1 e.2 s else s

theorem deadlineTracks_eq (p : Nat) (s : State) : deadlineTracks p s = s.tracker.entries.foldl (trackStep p) s := rfl

theorem trackStep_cases (p : Nat) (s : State) (e : Nat × Track) :
    trackStep p s e = s ∨ trackStep p s e = deadlineTrack e.1 e.2 s := (ite_eq_or_eq ..).symm

theorem trackStep_tillOnly (p : Nat) (s : State) (e : Nat × Track) : TillOnly s (trackStep p s e) := by
  rcases trackStep_cases p s e with same | taken
  · rw [same]
    exact .refl s
  · rw [taken]
    exact deadlineTrack_tillOnly ..

theorem deadlineTracks_tillOnly (p : Nat) (s : State) : TillOnly s (deadlineTracks p s) := .foldl (trackStep_tillOnly p) _ s

/-- A slot that no entry is linked to stays as it is. -/
theorem getSlot_deadlineTracks (p : Nat) (unlinked : (s.tracker.entries.all fun e => e.2.slot ≠ some slot) = true) :
    getSlot (deadlineTracks p s) slot = getSlot s slot := by
  rw [deadlineTracks_eq]
  refine List.foldlRecOn _ _ (motive := fun u : State => getSlot u slot = getSlot s slot) rfl fun u hu e he => ?_
  rcases trackStep_cases p u e with same | taken
  · rw [same, hu]
  · rw [taken, getSlot_deadlineTrack _ (of_decide_eq_true (List.all_eq_true.1 unlinked e he)), hu]

theorem tabGet_trackStep_ne {e : Nat × Track} (other : e.1 ≠ tp) :
    tabGet (trackStep p s e).tracker.entries tp = tabGet s.tracker.entries tp := by
  rcases trackStep_cases p s e with same | taken
  · rw [same]
  · rw [taken, tabGet_deadlineTrack_ne other]

/-- An entry is left as its own step leaves it. -/
theorem tabGet_deadlineTracks (hw : tabWf s.tracker.entries = true) (hk : tabGet s.tracker.entries tp = some tr)
    {x : Option Track}
    (visit : ∀ u, TillOnly s u → tabGet u.tracker.entries tp = some tr →
      tabGet (trackStep p u (tp, tr)).tracker.entries tp = x) :
    tabGet (deadlineTracks p s).tracker.entries tp = x := by
  rw [deadlineTracks_eq]
  exact foldl_visit hw hk (before := fun u => TillOnly s u ∧ tabGet u.tracker.entries tp = some tr)
    (after := fun u => tabGet u.tracker.entries tp = x)
    (fun u e _ other hu => ⟨hu.1.trans (trackStep_tillOnly p u e), (tabGet_trackStep_ne other).trans hu.2⟩)
    (fun u hu => visit u hu.1 hu.2) (fun u e _ other hu => (tabGet_trackStep_ne other).trans hu) ⟨.refl s, hk⟩

theorem trackStep_due (due : tr.data.period = p) (live : trackFree (lastClosed s) tr = false) (hu : TillOnly s u) :
    trackStep p u (tp, tr) = deadlineTrack tp tr u := if_pos ⟨due, by rw [hu.lastClosed, live]; rfl⟩

section
variable (hw : tabWf s.tracker.entries = true) (hk : tabGet s.tracker.entries tp = some tr)
include hw hk

theorem deadlineTracks_otherPeriod (other : tr.data.period ≠ p) :
    tabGet (deadlineTracks p s).tracker.entries tp = some tr :=
  tabGet_deadlineTracks hw hk fun u _ hu => by rw [trackStep, if_neg fun due => other due.1, hu]

variable (due : tr.data.period = p) (live : trackFree (lastClosed s) tr = false)
include due live

theorem deadlineTracks_stored
    (stored : tr.data.kind = .capture ∨ tr.data.kind = .credit .topup ∨ tr.data.kind = .credit .refund)
    (fresh : tr.orphan = none) : tabGet (deadlineTracks p s).tracker.entries tp = some (orphaned tr) :=
  tabGet_deadlineTracks hw hk fun u only _ => by
    rw [trackStep_due due live only, tabGet_deadlineTrack_stored stored fresh]

theorem deadlineTracks_volatile (volatile : tr.data.kind = .hold ∨ tr.data.kind = .release ∨
    tr.data.kind = .status .enquire ∨ tr.data.kind = .status .freeze) :
    tabGet (deadlineTracks p s).tracker.entries tp = none :=
  tabGet_deadlineTracks hw hk fun u only _ => by
    rw [trackStep_due due live only, tabGet_deadlineTrack_volatile volatile]

end

end

end Sys2Proof.Machine
end

section
/-! The close deadline, the OPEN holds of the period: as many expire as frame slots are free, the rest are held back (R39,
R107). -/
namespace Sys2Proof.Machine

section
variable {s t u : State} {p gp place tag : Nat} {gr g : Grant} {e : Nat × Grant}

/-! ### Work on the holds alone -/

/-- Only the card records, the request table with what goes with it, and the store's scheduler differ. -/
def HoldsOnly (s t : State) : Prop :=
  { t with custody := { t.custody with cards := s.custody.cards }, requests := s.requests, control := s.control } = s

theorem HoldsOnly.refl (s : State) : HoldsOnly s s := rfl

theorem HoldsOnly.trans (h : HoldsOnly s t) (k : HoldsOnly t u) : HoldsOnly s u := by
  unfold HoldsOnly at *
  rw [← h, ← k]

section
variable (h : HoldsOnly s t)
include h

theorem HoldsOnly.ident : t.ident = s.ident := (congrArg State.ident h :)
theorem HoldsOnly.liability : t.custody.liability = s.custody.liability := (congrArg (fun u => u.custody.liability) h :)
theorem HoldsOnly.locks : t.custody.locks = s.custody.locks := (congrArg (fun u => u.custody.locks) h :)
theorem HoldsOnly.positions : t.positions = s.positions := (congrArg State.positions h :)
theorem HoldsOnly.slots : t.slots = s.slots := (congrArg State.slots h :)
theorem HoldsOnly.tracker : t.tracker = s.tracker := (congrArg State.tracker h :)
theorem HoldsOnly.link : t.link = s.link := (congrArg State.link h :)
theorem HoldsOnly.port : t.port = s.port := (congrArg State.port h :)
theorem HoldsOnly.lastClosed : lastClosed t = lastClosed s := by rw [Machine.lastClosed, h.positions, Machine.lastClosed]

end

/-! ### One hold forced to expire (R39, R107) -/

theorem expireEntry_holdsOnly (place : Nat) (g : Grant) (s : State) : HoldsOnly s (expireEntry place g s) := by
  unfold expireEntry endHold acceptFrame
  dsimp only
  split <;> split <;> rfl

theorem forceExpiry_holdsOnly (place : Nat) (g : Grant) (s : State) : HoldsOnly s (forceExpiry place g s) := by
  unfold forceExpiry
  split
  · exact expireEntry_holdsOnly ..
  · rfl

theorem forceExpiry_free (free : 1 ≤ framesFree s) (place : Nat) (g : Grant) :
    forceExpiry place g s = expireEntry place g s := if_pos (framesFree_pos_iff.1 free)

theorem forceExpiry_full (full : framesFree s = 0) (place : Nat) (g : Grant) :
    forceExpiry place g s = holdBack ((grantTag g).getD 0) s :=
  if_neg fun free => by
    have := framesFree_pos_iff.2 free
    omega

theorem framesFree_expireEntry (free : 1 ≤ framesFree s) (place : Nat) (g : Grant) :
    framesFree (expireEntry place g s) = framesFree s - 1 := by
  have free' : frameFree (endHold place g .expired (grantAmount g) s).1 = true := by
    simpa [frameFree] using framesFree_pos_iff.1 free
  rw [expireEntry, framesFree, acceptFrame_control _ _ _ _ free']
  simp [framesFree]
  omega

/-- A forced expiry takes one frame slot, or there was none to take. -/
theorem framesFree_forceExpiry (place : Nat) (g : Grant) (s : State) :
    framesFree (forceExpiry place g s) = framesFree s - 1 := by
  by_cases free : 1 ≤ framesFree s
  · rw [forceExpiry_free free, framesFree_expireEntry free]
  · have full : framesFree s = 0 := by omega
    rw [forceExpiry_full full]
    exact full.trans (by omega)

theorem expireEntry_grants (place : Nat) (g : Grant) (s : State) :
    (expireEntry place g s).requests.grants = tabPut s.requests.grants place (withHoldState g .expired) := by
  rw [expireEntry, (acceptFrame_clerical _ _ _ _ _).requests, endHold_grants]

theorem tabGet_forceExpiry_ne (other : place ≠ gp) (g : Grant) (s : State) :
    tabGet (forceExpiry place g s).requests.grants gp = tabGet s.requests.grants gp := by
  unfold forceExpiry
  split
  · rw [expireEntry_grants, tabGet_tabPut_ne _ _ other.symm]
  · rfl

/-- A hold with this tag is held back with its life spent, and no frame slot is left that could be taken. -/
structure HeldBack (tag : Nat) (s : State) : Prop where
  full : framesFree s = 0
  life : tabGet s.requests.lives tag = some 0
  lapsing : s.requests.lapsing.contains tag = false

theorem heldBack_holdBack (full : framesFree s = 0) (tag : Nat) : HeldBack tag (holdBack tag s) :=
  ⟨full, tabGet_tabPut_self _ _ _, by simp [holdBack]⟩

theorem HeldBack.holdBack (h : HeldBack tag s) (other : Nat) : HeldBack tag (holdBack other s) where
  full := h.full
  life := by
    show tabGet (tabPut s.requests.lives other 0) tag = some 0
    rw [tabGet_tabPut]
    split
    · rfl
    · exact h.life
  lapsing := by
    have out := h.lapsing
    simp only [List.contains_eq_mem, decide_eq_false_iff_not] at out ⊢
    exact fun mem => out (List.mem_filter.1 mem).1

/-! ### The holds of the table in order (R107) -/

/-- An OPEN hold of the period, not free. -/
def dueHold (s : State) (p : Nat) (g : Grant) : Bool := grantOpen g && g.period = p && !grantFree (lastClosed s) g

/-- What the deadline does to one entry of the request table. -/
def forceStep (p : Nat) (s : State) (e : Nat × Grant) : State :=
  if grantOpen e.2 ∧ e.2.period = p ∧ !grantFree (lastClosed s) e.2 then forceExpiry e.1 e.2 s else s

theorem forceExpiries_eq (p : Nat) (s : State) : forceExpiries p s = s.requests.grants.foldl (forceStep p) s := rfl

theorem forceStep_eq (h : HoldsOnly s u) (e : Nat × Grant) :
    forceStep p u e = if dueHold s p e.2 = true then forceExpiry e.1 e.2 u else u := by
  simp [forceStep, dueHold, h.lastClosed, and_assoc]

theorem forceStep_cases (p : Nat) (s : State) (e : Nat × Grant) :
    forceStep p s e = s ∨ forceStep p s e = forceExpiry e.1 e.2 s := (ite_eq_or_eq ..).symm

theorem forceStep_holdsOnly (p : Nat) (s : State) (e : Nat × Grant) : HoldsOnly s (forceStep p s e) := by
  rcases forceStep_cases p s e with same | forced
  · rw [same]
    exact .refl s
  · rw [forced]
    exact forceExpiry_holdsOnly ..

section
variable {l : List (Nat × Grant)}

theorem forceSteps_holdsOnly (p : Nat) (l : List (Nat × Grant)) (s : State) : HoldsOnly s (l.foldl (forceStep p) s) :=
  List.foldlRecOn l _ (.refl s) fun u hu e _ => hu.trans (forceStep_holdsOnly p u e)

theorem tabGet_forceSteps (apart : ∀ e ∈ l, e.1 ≠ gp) (s : State) :
    tabGet (l.foldl (forceStep p) s).requests.grants gp = tabGet s.requests.grants gp := by
  refine List.foldlRecOn l _ (motive := fun u : State => tabGet u.requests.grants gp = tabGet s.requests.grants gp) rfl
    fun u hu e he => ?_
  rcases forceStep_cases p u e with same | forced
  · rw [same, hu]
  · rw [forced, tabGet_forceExpiry_ne (apart e he), hu]

/-- The entries passed take a frame slot each that is due, while there is one. -/
theorem framesFree_forceSteps (h : HoldsOnly s u) (l : List (Nat × Grant)) :
    framesFree (l.foldl (forceStep p) u) = framesFree u - tabCount (dueHold s p) l := by
  induction l generalizing u with
  | nil => rfl
  | cons e l ih =>
    rw [List.foldl_cons, ih (h.trans (forceStep_holdsOnly p u e)), forceStep_eq h, tabCount, tabCount, List.countP_cons]
    split
    · rw [framesFree_forceExpiry]
      omega
    · rfl

theorem HeldBack.forceSteps (h : HeldBack tag s) (p : Nat) (l : List (Nat × Grant)) :
    HeldBack tag (l.foldl (forceStep p) s) := by
  refine List.foldlRecOn l _ h fun u hu e _ => ?_
  rcases forceStep_cases p u e with same | forced
  · rw [same]
    exact hu
  · rw [forced, forceExpiry_full hu.full]
    exact hu.holdBack _

end

section
variable (hw : tabWf s.requests.grants = true) (hk : tabGet s.requests.grants gp = some gr)
include hw hk

/-- The deadline comes to an entry with what the due entries before it have left of the frame area, and passes on. -/
theorem forceExpiries_split (p : Nat) : ∃ (u : State) (later : List (Nat × Grant)),
    forceExpiries p s = later.foldl (forceStep p) (forceStep p u (gp, gr)) ∧ (∀ e ∈ later, e.1 ≠ gp) ∧ HoldsOnly s u ∧
      tabGet u.requests.grants gp = some gr ∧
      framesFree u = framesFree s - tabCount (dueHold s p) (s.requests.grants.filter fun e => e.1 < gp) := by
  obtain ⟨later, split, apart⟩ := tab_split hw hk
  refine ⟨(s.requests.grants.filter fun e => e.1 < gp).foldl (forceStep p) s, later, ?_, apart, forceSteps_holdsOnly ..,
    ?_, framesFree_forceSteps (.refl s) _⟩
  · rw [← List.foldl_cons, ← List.foldl_append, ← split, forceExpiries_eq]
  · refine (tabGet_forceSteps (fun e he => ?_) s).trans hk
    exact (of_decide_eq_true (List.mem_filter.1 he).2).ne

theorem forceExpiries_other (undue : grantOpen gr = false ∨ gr.period ≠ p) :
    tabGet (forceExpiries p s).requests.grants gp = some gr := by
  obtain ⟨u, later, eq, apart, only, stands, -⟩ := forceExpiries_split hw hk p
  have passed : dueHold s p gr = false := by
    rcases undue with ended | other
    · simp [dueHold, ended]
    · simp [dueHold, other]
  rw [eq, tabGet_forceSteps apart, forceStep_eq only, passed, if_neg Bool.false_ne_true, stands]

variable (due : dueHold s p gr = true)
include due

theorem forceExpiries_expired
    (room : tabCount (dueHold s p) (s.requests.grants.filter fun e => e.1 < gp) < framesFree s) :
    tabGet (forceExpiries p s).requests.grants gp = some (withHoldState gr .expired) := by
  obtain ⟨u, later, eq, apart, only, -, left⟩ := forceExpiries_split hw hk p
  rw [eq, tabGet_forceSteps apart, forceStep_eq only, if_pos due, forceExpiry_free (by omega), expireEntry_grants]
  exact tabGet_tabPut_self _ _ _

theorem forceExpiries_heldBack
    (full : framesFree s ≤ tabCount (dueHold s p) (s.requests.grants.filter fun e => e.1 < gp)) :
    tabGet (forceExpiries p s).requests.grants gp = some gr ∧
      ∀ tag, grantTag gr = some tag → HeldBack tag (forceExpiries p s) := by
  obtain ⟨u, later, eq, apart, only, stands, left⟩ := forceExpiries_split hw hk p
  have none_left : framesFree u = 0 := by omega
  rw [eq, forceStep_eq only, if_pos due, forceExpiry_full none_left]
  refine ⟨(tabGet_forceSteps apart _).trans stands, fun tag named => ?_⟩
  rw [named]
  exact (heldBack_holdBack none_left tag).forceSteps p later

end

end

end Sys2Proof.Machine
end

section
/-! The close deadline, the rows: those not settled turn SILENT, and the examination that follows leaves a settled row's state
(R100, R107). -/
namespace Sys2Proof.Machine

section
variable {s t u : State} {j k : Nat}

/-! ### What the examination leaves alone -/

theorem callSendPresent_tracker (j : Nat) (s : State) : (callSendPresent j s).tracker = s.tracker := by
  unfold callSendPresent
  split <;> simp

theorem leavePending_tracker (j : Nat) (s : State) : (leavePending j s).tracker = s.tracker := by
  unfold leavePending
  dsimp only
  split
  · split <;> simp [callSendPresent_tracker]
  · split <;> simp [callSendPresent_tracker]

theorem examineRow_tracker (j : Nat) (s : State) : (examineRow j s).tracker = s.tracker := by
  rcases examineRow_cases j s with same | ⟨v, -, -, final⟩ | ⟨v, -, -, -, leaves⟩ | ⟨v, -, -, marks⟩
  · rw [same]
  · rw [final]
    rfl
  · rw [leaves, leavePending_tracker]
  · rw [marks]
    simp

theorem examineRows_tracker (s : State) : (examineRows s).tracker = s.tracker := by
  unfold examineRows
  exact List.foldlRecOn _ _ (motive := fun u : State => u.tracker = s.tracker) rfl
    fun u hu j _ => (examineRow_tracker j u).trans hu

theorem examineCompletion_tracker (s : State) : (examineCompletion s).tracker = s.tracker := by
  unfold examineCompletion
  split
  · split
    · simp [runCompletion]
    · rfl
  · rfl

/-! ### The state of a closing row (R98) -/

theorem tabGetD_tabPutD_ne {α : Type} [DecidableEq α] (blank : α) (t : Tab α) (v : α) (other : k ≠ j) :
    tabGetD (tabPutD blank t j v) k blank = tabGetD t k blank := by
  unfold tabGetD tabPutD
  split
  · rw [tabGet_tabDel_ne t other]
  · rw [tabGet_tabPut_ne t v other]

/-- The state of a row of the close under way. -/
def rowState (s : State) (j : Nat) : Option RowState := s.positions.view.map fun v => (closeRow v j).state

theorem rowState_congr (h : t.positions = s.positions) (j : Nat) : rowState t j = rowState s j := by
  rw [rowState, h, rowState]

theorem rowState_eq {v : CloseView} (hv : s.positions.view = some v) (j : Nat) : rowState s j = some (closeRow v j).state := by
  rw [rowState, hv]
  rfl

theorem rowState_setCloseRow (j k : Nat) (c : CloseRow) (s : State) :
    rowState (setCloseRow j c s) k = if k = j then (rowState s k).map fun _ => c.state else rowState s k := by
  unfold setCloseRow
  cases hv : s.positions.view with
  | none => simp [rowState, hv]
  | some v =>
    show some (tabGetD (tabPutD CloseRow.blank v.rows j c) k .blank).state = _
    rw [rowState_eq hv]
    split
    · next same =>
      rw [same, tabGetD_tabPutD]
      rfl
    · next other =>
      rw [tabGetD_tabPutD_ne _ _ _ other]
      rfl

/-- The row of a settled state, or the own row, keeps its state when it is examined; so does every other. -/
theorem rowState_examineRow (h : j = ownStation s ∨ (rowState s j).all rowSettled = true) (k : Nat) :
    rowState (examineRow j s) k = rowState s k := by
  rcases examineRow_cases j s with same | ⟨v, -, hv, final⟩ | ⟨v, foreign, hv, pending, -⟩ | ⟨v, -, hv, marks⟩
  · rw [same]
  · rw [final, rowState_eq hv]
    rfl
  · rw [rowState_eq hv, pending] at h
    exact absurd h (by simp [foreign, rowSettled])
  · rw [marks, rowState_setCloseRow]
    split
    · next same => rw [same, rowState_eq hv]; rfl
    · rfl

theorem ownStation_examineRow (j : Nat) (s : State) : ownStation (examineRow j s) = ownStation s := by
  rw [ownStation, (examineRow_clerical j s).ident, ownStation]

theorem rowState_examineRows
    (h : ∀ j ∈ (List.range 63).map (· + 1), j = ownStation s ∨ (rowState s j).all rowSettled = true) (k : Nat) :
    rowState (examineRows s) k = rowState s k := by
  unfold examineRows
  refine (List.foldlRecOn _ _ (motive := fun u : State => ownStation u = ownStation s ∧ ∀ k, rowState u k = rowState s k)
    ⟨rfl, fun _ => rfl⟩ fun u ⟨own, rows⟩ j hj => ⟨(ownStation_examineRow j u).trans own, fun k => ?_⟩).2 k
  rw [rowState_examineRow (by rw [own, rows]; exact h j hj), rows]

theorem rowState_examineCompletion (s : State) (k : Nat) : rowState (examineCompletion s) k = rowState s k := by
  unfold examineCompletion
  split
  · next v hv =>
    split
    · rw [rowState_eq hv]
      rfl
    · rfl
  · rfl

/-! ### Rows that turn SILENT (R107) -/

/-- Only the close view differs. -/
def ViewOnly (s t : State) : Prop := { t with positions := { t.positions with view := s.positions.view } } = s

theorem ViewOnly.refl (s : State) : ViewOnly s s := rfl

theorem ViewOnly.trans (h : ViewOnly s t) (k : ViewOnly t u) : ViewOnly s u := by
  unfold ViewOnly at *
  rw [← h, ← k]

section
variable (h : ViewOnly s t)
include h

theorem ViewOnly.ident : t.ident = s.ident := (congrArg State.ident h :)
theorem ViewOnly.custody : t.custody = s.custody := (congrArg State.custody h :)
theorem ViewOnly.requests : t.requests = s.requests := (congrArg State.requests h :)
theorem ViewOnly.slots : t.slots = s.slots := (congrArg State.slots h :)
theorem ViewOnly.tracker : t.tracker = s.tracker := (congrArg State.tracker h :)
theorem ViewOnly.control : t.control = s.control := (congrArg State.control h :)
theorem ViewOnly.link : t.link = s.link := (congrArg State.link h :)
theorem ViewOnly.port : t.port = s.port := (congrArg State.port h :)
theorem ViewOnly.lastClosed : lastClosed t = lastClosed s := (congrArg (fun u => u.positions.gen.lastClosed) h :)

end

theorem setCloseRow_viewOnly (j : Nat) (c : CloseRow) (s : State) : ViewOnly s (setCloseRow j c s) := by
  unfold setCloseRow
  split <;> rfl

theorem deadlineSpent_viewOnly (s : State) : ViewOnly s (deadlineSpent s) := by
  unfold deadlineSpent
  split <;> rfl

theorem rowState_deadlineSpent (s : State) (k : Nat) : rowState (deadlineSpent s) k = rowState s k := by
  unfold deadlineSpent
  cases hv : s.positions.view with
  | none => rfl
  | some v =>
    rw [rowState_eq hv]
    rfl

/-- What the deadline makes of a row's state. -/
def silenced (st : RowState) : RowState := if rowSettled st then st else .silent

theorem rowSettled_silenced (st : RowState) : rowSettled (silenced st) = true := by cases st <;> rfl

theorem silenced_silenced (st : RowState) : silenced (silenced st) = silenced st := if_pos (rowSettled_silenced st)

/-- What the deadline does to one row. -/
def silenceRow (s : State) (j : Nat) : State :=
  match s.positions.view with
  | some v => if rowSettled (closeRow v j).state then s else setCloseRow j ⟨.silent, (closeRow v j).final⟩ s
  | none => s

theorem silenceRows_eq (s : State) : silenceRows s = (counterparts s).foldl silenceRow s := rfl

theorem silenceRow_viewOnly (s : State) (j : Nat) : ViewOnly s (silenceRow s j) := by
  unfold silenceRow
  split
  · split
    · exact .refl s
    · exact setCloseRow_viewOnly ..
  · exact .refl s

theorem closeClock_silenceRow (s : State) (j : Nat) : closeClock (silenceRow s j) = closeClock s := by
  unfold silenceRow
  split
  · split
    · rfl
    · exact setCloseRow_closeClock ..
  · rfl

theorem rowState_silenceRow (s : State) (j k : Nat) :
    rowState (silenceRow s j) k = if k = j then (rowState s k).map silenced else rowState s k := by
  unfold silenceRow
  cases hv : s.positions.view with
  | none => simp [rowState, hv]
  | some v =>
    dsimp only
    split
    · next settled =>
      split
      · next same =>
        rw [same, rowState_eq hv, Option.map_some, silenced, if_pos settled]
      · rfl
    · next unsettled =>
      rw [rowState_setCloseRow]
      split
      · next same =>
        rw [same, rowState_eq hv, Option.map_some, Option.map_some, silenced, if_neg unsettled]
      · rfl

theorem rowState_foldl_silenceRow (l : List Nat) (s : State) (k : Nat) :
    rowState (l.foldl silenceRow s) k = if k ∈ l then (rowState s k).map silenced else rowState s k := by
  induction l generalizing s with
  | nil => rfl
  | cons j l ih =>
    rw [List.foldl_cons, ih, rowState_silenceRow]
    by_cases same : k = j
    · simp [same, silenced_silenced, Function.comp_def]
    · simp [same]

theorem silenceRows_viewOnly (s : State) : ViewOnly s (silenceRows s) :=
  List.foldlRecOn _ silenceRow (.refl s) fun u hu j _ => hu.trans (silenceRow_viewOnly u j)

theorem closeClock_silenceRows (s : State) : closeClock (silenceRows s) = closeClock s :=
  List.foldlRecOn _ silenceRow (motive := fun u : State => closeClock u = closeClock s) rfl
    fun u hu j _ => (closeClock_silenceRow u j).trans hu

end

section
variable {s : State} {v : CloseView} {j slot tp gp : Nat} {sl : Slot} {r : HoldRef} {tr : Track} {gr : Grant}

/-! ### The deadline's steps one after the other (R107) -/

/-- The state once the rows have turned SILENT. -/
def rowsPassed (s : State) : State := silenceRows (deadlineSpent s)

/-- The state once the slots and the tracker entries have been seen to as well. -/
def tillPassed (s : State) : State := deadlineTracks (closingPeriod s) (lapseSlots (closingPeriod s) (rowsPassed s))

/-- The state once the holds have been forced to expire as well. -/
def holdsPassed (s : State) : State := forceExpiries (closingPeriod s) (tillPassed s)

theorem passDeadline_eq (s : State) : passDeadline s = examineCompletion (examineRows (holdsPassed s)) := rfl

theorem rowsPassed_viewOnly (s : State) : ViewOnly s (rowsPassed s) :=
  (deadlineSpent_viewOnly s).trans (silenceRows_viewOnly _)

theorem tillPassed_tillOnly (s : State) : TillOnly (rowsPassed s) (tillPassed s) :=
  (lapseSlots_tillOnly ..).trans (deadlineTracks_tillOnly ..)

theorem holdsPassed_holdsOnly (s : State) : HoldsOnly (tillPassed s) (holdsPassed s) := forceSteps_holdsOnly ..

theorem passDeadline_clerical (s : State) : Clerical (holdsPassed s) (passDeadline s) :=
  (examineRows_clerical _).trans (examineCompletion_clerical _)

theorem passDeadline_slots (s : State) : (passDeadline s).slots = (tillPassed s).slots := by
  rw [passDeadline_eq, examineCompletion_slots, examineRows_slots, (holdsPassed_holdsOnly s).slots]

theorem passDeadline_tracker (s : State) : (passDeadline s).tracker = (tillPassed s).tracker := by
  rw [passDeadline_eq, examineCompletion_tracker, examineRows_tracker, (holdsPassed_holdsOnly s).tracker]

theorem holdsPassed_positions (s : State) : (holdsPassed s).positions = (rowsPassed s).positions := by
  rw [(holdsPassed_holdsOnly s).positions, (tillPassed_tillOnly s).positions]

theorem ownStation_holdsPassed (s : State) : ownStation (holdsPassed s) = ownStation s := by
  rw [ownStation, (holdsPassed_holdsOnly s).ident, (tillPassed_tillOnly s).ident, (rowsPassed_viewOnly s).ident, ownStation]

/-! ### The rows and the deadline afterwards -/

theorem rowState_rowsPassed (counterpart : j ∈ counterparts s) : rowState (rowsPassed s) j = (rowState s j).map silenced := by
  have same : counterparts (deadlineSpent s) = counterparts s := by
    rw [counterparts, ownStation, (deadlineSpent_viewOnly s).ident, ← ownStation, counterparts]
  rw [rowsPassed, silenceRows_eq, same, rowState_foldl_silenceRow, if_pos counterpart, rowState_deadlineSpent]

theorem rowState_passDeadline (counterpart : j ∈ counterparts s) :
    rowState (passDeadline s) j = (rowState s j).map silenced := by
  have settled : ∀ k ∈ (List.range 63).map (· + 1),
      k = ownStation (holdsPassed s) ∨ (rowState (holdsPassed s) k).all rowSettled = true := by
    intro k hk
    by_cases own : k = ownStation s
    · exact .inl (own.trans (ownStation_holdsPassed s).symm)
    · right
      rw [rowState_congr (holdsPassed_positions s), rowState_rowsPassed (List.mem_filter.2 ⟨hk, decide_eq_true own⟩)]
      cases rowState s k with
      | none => rfl
      | some st => exact rowSettled_silenced st
  rw [passDeadline_eq, rowState_examineCompletion, rowState_examineRows settled, rowState_congr (holdsPassed_positions s),
    rowState_rowsPassed counterpart]

theorem closeClock_passDeadline (hv : s.positions.view = some v) :
    closeClock (passDeadline s) = some (v.completed, some 0) ∨ closeClock (passDeadline s) = some (true, none) := by
  have spent : closeClock (deadlineSpent s) = some (v.completed, some 0) := by
    rw [deadlineSpent, hv]
    rfl
  rw [passDeadline_eq]
  refine (examineCompletion_closeClock _).imp_left fun same => ?_
  rw [same, examineRows_closeClock, closeClock_congr (holdsPassed_positions s), rowsPassed,
    closeClock_silenceRows, spent]

theorem exists_view_passDeadline (hv : s.positions.view = some v) :
    ∃ w, (passDeadline s).positions.view = some w ∧ (w.deadline = none ∨ w.deadline = some 0) := by
  have clock := closeClock_passDeadline hv
  cases hw : (passDeadline s).positions.view with
  | none => simp [closeClock, hw] at clock
  | some w =>
    refine ⟨w, rfl, ?_⟩
    simp only [closeClock, hw, Option.map_some, Option.some.injEq, Prod.mk.injEq] at clock
    exact clock.symm.imp And.right And.right

/-! ### The slots and the entries afterwards -/

/-- The tracker's entries when the deadline comes to them are those of the command's state. -/
theorem lapseSlots_rowsPassed (s : State) (p : Nat) :
    (lapseSlots p (rowsPassed s)).tracker = s.tracker ∧ lastClosed (lapseSlots p (rowsPassed s)) = lastClosed s :=
  ⟨(lapseSlots_tracker ..).trans (rowsPassed_viewOnly s).tracker,
    (lapseSlots_tillOnly ..).lastClosed.trans (rowsPassed_viewOnly s).lastClosed⟩

/-- A slot HELD on a hold of the closing period, that no entry is linked to, has lapsed. -/
theorem getSlot_passDeadline (hw : tabWf s.slots = true) (hs : getSlot s slot = some sl) (held : sl.state = .held)
    (hold : sl.hold = some r) (period : r.period = closingPeriod s)
    (unlinked : (s.tracker.entries.all fun e => e.2.slot ≠ some slot) = true) :
    getSlot (passDeadline s) slot = some (slotOutcome sl (lapsedOutcome s sl)) := by
  have rows := rowsPassed_viewOnly s
  obtain ⟨entries, -⟩ := lapseSlots_rowsPassed s (closingPeriod s)
  rw [getSlot, passDeadline_slots, ← getSlot, tillPassed, getSlot_deadlineTracks _ (by rw [entries]; exact unlinked),
    getSlot_lapseSlots (by rw [rows.slots]; exact hw) (by rw [getSlot, rows.slots]; exact hs) held hold period,
    lapsedOutcome_congr rows.ident rows.custody rows.lastClosed]

section
variable (hw : tabWf s.tracker.entries = true) (hk : tabGet s.tracker.entries tp = some tr)
include hw hk

theorem passDeadline_otherPeriod (other : tr.data.period ≠ closingPeriod s) :
    tabGet (passDeadline s).tracker.entries tp = some tr := by
  obtain ⟨entries, -⟩ := lapseSlots_rowsPassed s (closingPeriod s)
  rw [passDeadline_tracker]
  exact deadlineTracks_otherPeriod (by rwa [entries]) (by rwa [entries]) other

variable (due : tr.data.period = closingPeriod s) (live : trackFree (lastClosed s) tr = false)
include due live

theorem passDeadline_stored
    (stored : tr.data.kind = .capture ∨ tr.data.kind = .credit .topup ∨ tr.data.kind = .credit .refund)
    (fresh : tr.orphan = none) : tabGet (passDeadline s).tracker.entries tp = some (orphaned tr) := by
  obtain ⟨entries, closed⟩ := lapseSlots_rowsPassed s (closingPeriod s)
  rw [passDeadline_tracker]
  exact deadlineTracks_stored (by rwa [entries]) (by rwa [entries]) due (by rwa [closed]) stored fresh

theorem passDeadline_volatile (volatile : tr.data.kind = .hold ∨ tr.data.kind = .release ∨
    tr.data.kind = .status .enquire ∨ tr.data.kind = .status .freeze) :
    tabGet (passDeadline s).tracker.entries tp = none := by
  obtain ⟨entries, closed⟩ := lapseSlots_rowsPassed s (closingPeriod s)
  rw [passDeadline_tracker]
  exact deadlineTracks_volatile (by rwa [entries]) (by rwa [entries]) due (by rwa [closed]) volatile

end

/-! ### The holds afterwards -/

theorem tillPassed_requests (s : State) : (tillPassed s).requests = s.requests :=
  (tillPassed_tillOnly s).requests.trans (rowsPassed_viewOnly s).requests

theorem framesFree_tillPassed (s : State) : framesFree (tillPassed s) = framesFree s := by
  rw [framesFree, (tillPassed_tillOnly s).control, (rowsPassed_viewOnly s).control, framesFree]

theorem dueHold_tillPassed (s : State) (p : Nat) : dueHold (tillPassed s) p = dueHold s p := by
  funext g
  rw [dueHold, (tillPassed_tillOnly s).lastClosed, (rowsPassed_viewOnly s).lastClosed, dueHold]

section
variable (hw : tabWf s.requests.grants = true) (hk : tabGet s.requests.grants gp = some gr)
include hw hk

theorem passDeadline_undue (undue : grantOpen gr = false ∨ gr.period ≠ closingPeriod s) :
    tabGet (passDeadline s).requests.grants gp = some gr := by
  rw [(passDeadline_clerical s).requests]
  exact forceExpiries_other (by rwa [tillPassed_requests]) (by rwa [tillPassed_requests]) undue

variable (due : dueHold s (closingPeriod s) gr = true)
include due

theorem passDeadline_expired
    (room : tabCount (dueHold s (closingPeriod s)) (s.requests.grants.filter fun e => e.1 < gp) < framesFree s) :
    tabGet (passDeadline s).requests.grants gp = some (withHoldState gr .expired) := by
  rw [(passDeadline_clerical s).requests]
  exact forceExpiries_expired (by rwa [tillPassed_requests]) (by rwa [tillPassed_requests]) (by rwa [dueHold_tillPassed])
    (by rwa [tillPassed_requests, framesFree_tillPassed, dueHold_tillPassed])

theorem passDeadline_heldBack
    (full : framesFree s ≤ tabCount (dueHold s (closingPeriod s)) (s.requests.grants.filter fun e => e.1 < gp)) :
    tabGet (passDeadline s).requests.grants gp = some gr ∧ ∀ tag, grantTag gr = some tag →
      tabGet (passDeadline s).requests.lives tag = some 0 ∧ (passDeadline s).requests.lapsing.contains tag = false := by
  obtain ⟨stays, held⟩ := forceExpiries_heldBack (s := tillPassed s) (p := closingPeriod s) (by rwa [tillPassed_requests])
    (by rwa [tillPassed_requests]) (by rwa [dueHold_tillPassed])
    (by rwa [tillPassed_requests, framesFree_tillPassed, dueHold_tillPassed])
  rw [(passDeadline_clerical s).requests]
  refine ⟨stays, fun tag named => ?_⟩
  obtain ⟨-, life, lapsing⟩ := held tag named
  exact ⟨life, lapsing⟩

end

/-! ### The command -/

theorem exec_closeDeadline (s : State) :
    exec .closeDeadline s = .next (if deadlineRuns s = true then passDeadline s else s) := rfl

theorem deadlineRuns_eq (ht : s.station = .trading) (hv : s.positions.view = some v) :
    deadlineRuns s = (!v.completed && v.deadline.any fun ms => ms ≠ 0) := by
  rw [deadlineRuns, isTrading_iff.2 ht, hv]
  rfl

end

end Sys2Proof.Machine

namespace Sys2Proof

open Machine

/-- Settles O50: rows, slots, tracker entries and holds by the deadline's steps, each of which leaves the others' work alone. -/
theorem deadlineForcesTheClose : Obligations.DeadlineForcesTheClose := by
  intro s v _ _ hgrants htracks hslots ht hv
  have runs := deadlineRuns_eq ht hv
  refine ⟨fun stopped => ?_, fun open' running => ?_⟩
  · have off : deadlineRuns s = false := by
      rw [runs]
      rcases stopped with stopped | stopped | stopped <;> simp [stopped]
    rw [exec_closeDeadline, off]
    rfl
  have on : deadlineRuns s = true := by
    rw [runs, open']
    simpa [Nat.one_le_iff_ne_zero] using running
  obtain ⟨w, hw, stopped⟩ := exists_view_passDeadline hv
  have rows := rowsPassed_viewOnly s
  have till := tillPassed_tillOnly s
  have holds := holdsPassed_holdsOnly s
  have last := passDeadline_clerical s
  have comesDue {gr} (isOpen : grantOpen gr = true) (due : gr.period = closingPeriod s)
      (live : grantFree (lastClosed s) gr = false) : dueHold s (closingPeriod s) gr = true := by
    simp [dueHold, isOpen, due, live]
  refine ⟨passDeadline s, by rw [exec_closeDeadline, if_pos on], ?_, ?_, ?_, ?_, ?_, ?_, ?_, ?_,
    fun slot sl h hs held hold period unlinked => ?_, fun tp tr hk live => ⟨passDeadline_otherPeriod htracks hk,
      fun due => ⟨passDeadline_stored htracks hk due live, passDeadline_volatile htracks hk due live⟩⟩,
    fun gp gr hk => ⟨passDeadline_undue hgrants hk, fun isOpen due live =>
      ⟨passDeadline_expired hgrants hk (comesDue isOpen due live),
        passDeadline_heldBack hgrants hk (comesDue isOpen due live)⟩⟩⟩
  · rw [hw]
    refine congrArg some (List.map_congr_left fun j hj => ?_)
    have state := rowState_passDeadline hj
    rw [rowState_eq hw, rowState_eq hv] at state
    exact Option.some.inj state
  · rw [hw]
    simpa using stopped
  · rw [last.custody, holds.liability, till.custody, rows.custody]
  · rw [last.custody, holds.locks, till.custody, rows.custody]
  · rw [last.ident, holds.ident, till.ident, rows.ident]
  · rw [last.port, holds.port, till.port, rows.port]
  · rw [last.rx, holds.link, till.link, rows.link]
  · rw [last.roster, holds.link, till.link, rows.link]
  · rw [getSlot_passDeadline hslots hs held hold period unlinked, lapsedOutcome_eq]

end Sys2Proof
end

section
/-! CLOSE: the close target raised to the open period, and the close it begins (R94 to R97). -/
namespace Sys2Proof.Machine

section
variable {s : State}

/-- A PRESENCE offered changes the link alone (R51). -/
theorem offerPresence_eq (s : State) : offerPresence s = { s with link := (offerPresence s).link } := by
  unfold offerPresence
  dsimp only
  split
  · split
    · rfl
    · split <;> rfl
  · rfl

/-- The close target stands at the open period or above, a raise to it with its PRESENCE offered; no close has begun (R94). -/
def closeAsked (s : State) : State :=
  if s.positions.target < openPeriod s then offerPresence (targeted (openPeriod s) s) else s

/-- Asking for a close changes the target and the link (R94). -/
theorem closeAsked_eq (s : State) :
    closeAsked s = { s with
      positions := { s.positions with target := max s.positions.target (openPeriod s) }
      link := (closeAsked s).link } := by
  unfold closeAsked
  split
  · next below =>
    rw [Nat.max_eq_right below.le]
    exact offerPresence_eq (targeted (openPeriod s) s)
  · next reached => rw [Nat.max_eq_left (Nat.not_lt.1 reached)]

/-- The raise that CLOSE makes is the asking, with close begin examined when the target rises (R94). -/
theorem raiseTarget_openPeriod (ht : s.station = .trading) :
    raiseTarget (openPeriod s) s = if s.positions.target < openPeriod s then examineBegin (closeAsked s) else closeAsked s := by
  unfold raiseTarget closeAsked
  by_cases below : s.positions.target < openPeriod s
  · rw [if_pos ⟨ht, below⟩, if_pos below, if_pos below]
    rfl
  · rw [if_neg fun h => below h.2, if_neg below, if_neg below]

/-- Where no close can begin the asking is all there is. -/
theorem raiseTarget_of_not (ht : s.station = .trading) (no : canBegin (closeAsked s) = false) :
    raiseTarget (openPeriod s) s = closeAsked s := by
  rw [raiseTarget_openPeriod ht, examineBegin_of_not no, ite_self]

/-- Close begin examined again after the raise is close begin examined once (R95, R96). -/
theorem examineBegin_raiseTarget (ht : s.station = .trading) :
    examineBegin (raiseTarget (openPeriod s) s) = examineBegin (closeAsked s) := by
  rw [raiseTarget_openPeriod ht]
  split
  · exact examineBegin_examineBegin _
  · rfl

theorem exec_close (ht : s.station = .trading) :
    exec .close s = .next (if s.positions.gen.closing then refuse .closeBusy (raiseTarget (openPeriod s) s)
      else accepted [] (examineBegin (raiseTarget (openPeriod s) s))) := by
  show execClose s = _
  rw [execClose, hostCommand_taken _ (not_held_of_trading ht), isTrading_iff.2 ht]
  rfl

end

end Sys2Proof.Machine

namespace Sys2Proof

open Machine

/-- Settles O24: what CLOSE asks for is told from the close that begins. -/
theorem closeRaisesTheTargetAndBegins : Obligations.CloseRaisesTheTargetAndBegins := by
  intro s link ht hlink
  have offered : (closeAsked s).link = link := by
    rw [hlink]
    exact apply_ite State.link _ _ _
  have asked := closeAsked_eq s
  rw [offered] at asked
  refine ⟨fun closing => ?_, fun opened => ⟨fun stays => ?_, fun reserve free room => ?_⟩⟩
  · have no : canBegin (closeAsked s) = false := canBegin_of_closing (by rw [asked]; exact closing)
    rw [exec_close ht, if_pos closing, raiseTarget_of_not ht no, asked]
    rfl
  · have no : canBegin (closeAsked s) = false := canBegin_of_no (by rw [asked]; exact .inr (by tauto))
    rw [exec_close ht, opened, examineBegin_raiseTarget ht, examineBegin_of_not no, asked]
    rfl
  · have can : canBegin (closeAsked s) = true := by
      rw [asked]
      exact canBegin_iff.2 ⟨ht, opened, Nat.le_max_right _ _, room, insideReserve_eq_false_iff.2 reserve, free⟩
    rw [exec_close ht, opened, examineBegin_raiseTarget ht, examineBegin_of can, asked]
    exact ⟨_, rfl, rfl, rfl, rfl, rfl⟩

end Sys2Proof
end

section
/-! POSITION: which figures are stored as a row's mirror and compared, and which are answered (R102 to R104). -/
namespace Sys2Proof.Machine

section
variable {s : State} {f : LinkFrame} {rest : List LinkFrame} {period j : Nat} {fig : Figures} {hy : Bool} {v : CloseView}
  {c : CloseRow}

/-! ### The row step (R102, R104) -/

theorem storesMirror_iff {st : RowState} {held : Option Figures} :
    storesMirror st held fig = true ↔ st = .awaiting ∨ held ≠ some fig := by
  simp [storesMirror]

theorem comparedState_eq (st : RowState) (ours received : Figures) :
    comparedState st ours received =
      if st = .pending then .pending
      else if st = .silent then .silent
      else if figuresAgree ours received then .confirmed else .disputed := by
  cases st <;> rfl

/-- A row is announced when the comparison turns it DISPUTED (R104). -/
theorem turnsDisputed_iff {st : RowState} {ours received : Figures} :
    (comparedState st ours received = .disputed ∧ st ≠ .disputed) ↔
      (st = .awaiting ∨ st = .confirmed ∨ st = .empty) ∧ figuresAgree ours received = false := by
  cases st <;> simp [comparedState]

/-- The row with its mirror stored and have-yours set (R102). -/
def mirroredRow (j : Nat) (fig : Figures) (s : State) : Row := { closingRow s j with mirror := some fig, haveYours := true }

/-- With a frame slot free, the mirror is stored with its MIRROR_STORE frame and the row compared (R102, R104). -/
theorem storeMirror_eq (hv : s.positions.view = some v) (free : frameFree s = true) :
    storeMirror j c fig s = { s with
      positions := { (putRow (closingSide s) j (mirroredRow j fig s) s).positions with
        view := some { v with
          rows := tabPutD CloseRow.blank v.rows j ⟨comparedState c.state (closingRow s j).fig fig, c.final⟩ } }
      control := withFrame .mirrorStore [.row (closingSide s) j (mirroredRow j fig s)] []
        (if comparedState c.state (closingRow s j).fig fig = .disputed ∧ c.state ≠ .disputed then
          .notice (disputedNotice s j) else .none) s } := by
  have view : (putRow (closingSide s) j (mirroredRow j fig s) s).positions.view = some v := by
    cases closingSide s <;> exact hv
  have booked : setCloseRow j ⟨comparedState c.state (closingRow s j).fig fig, c.final⟩
      (putRow (closingSide s) j (mirroredRow j fig s) s) = { s with
        positions := { (putRow (closingSide s) j (mirroredRow j fig s) s).positions with
          view := some { v with
            rows := tabPutD CloseRow.blank v.rows j ⟨comparedState c.state (closingRow s j).fig fig, c.final⟩ } } } := by
    rw [setCloseRow_eq view, putRow_eq (s := s) rfl]
  calc storeMirror j c fig s
    _ = acceptFrame .mirrorStore [.row (closingSide s) j (mirroredRow j fig s)] [] _ _ := rfl
    _ = _ := congrArg _ booked
    _ = _ := acceptFrame_eq (s := s) rfl free rfl

/-! ### A POSITION handed over (R102, R103) -/

theorem exec_position (ht : s.station = .trading) (hrx : s.link.rx = f :: rest) (h : raisesNothing f s = true)
    (hp : f.payload = .position period fig hy) :
    exec .position s = .next (takePosition f (extendStamp (openPeriod s) f.stamp) (taken rest s)) :=
  served_eq ht hrx h (by rw [hp]; rfl)

theorem takePosition_noView {x : Int} (hp : f.payload = .position period fig hy) (hv : s.positions.view = none) :
    takePosition f x s = s := by
  rw [takePosition, hp, hv]

/-- With a close view, a POSITION is read for its period and range, then by what the row holds (R102). -/
theorem takePosition_view {x : Int} (hp : f.payload = .position period fig hy) (hv : s.positions.view = some v) :
    takePosition f x s =
      if s.positions.gen.closing = false ∨ period ≠ closingPeriod s ∨ figuresInRange fig = false then s
      else if v.completed = false ∧ storesMirror (closeRow v f.src).state (closingRow s f.src).mirror fig = true then
        if frameFree s = true then
          examineCompletion (replyPosition f.src hy (closeRow v f.src) (storeMirror f.src (closeRow v f.src) fig s))
        else s
      else replyPosition f.src hy (closeRow v f.src) s := by
  rw [takePosition, hp, hv]
  dsimp only
  refine if_congr (by simp) rfl ?_
  cases v.completed <;> simp

/-! ### The answer of a POSITION (R103) -/

theorem replyPosition_quiet (h : hy = true ∨ c.final = false) : replyPosition j hy c s = s := by
  rcases h with h | h <;> simp [replyPosition, h]

theorem sendFrames_eq (hv : s.positions.view = some v) :
    sendFrames j s =
      unstored (fun k => writesRow (closingSide s) j k || (writesGen k && !(v.completed && k.format = .closeEnd))) s := by
  rw [sendFrames, hv]
  rfl

/-- With no send of the row waiting and no frame to wait for, the answer is placed at once (R101, R103). -/
theorem replyPosition_placed (ht : s.station = .trading) (opened : 1 ≤ openPeriod s) (final : c.final = true)
    (idle : sendWaiting s j (closingPeriod s) = false) (quiet : sendFrames j s = []) (room : s.link.tx.length < 16) :
    replyPosition j false c s = { s with link := { s.link with
      tx := s.link.tx ++ [⟨j, stampOf (openPeriod s), 0,
        .position (closingPeriod s) (closingRow s j).fig (closingRow s j).haveYours, 0⟩] } } := by
  have placed : callSend j s = placePosition j (closingPeriod s) s := by simp [callSend, idle, quiet]
  rw [replyPosition, final, if_pos (show (!false && true) = true from rfl), placed, placePosition_closing ht opened, if_pos room]

end

end Sys2Proof.Machine

namespace Sys2Proof

open Machine

/-- Settles O45: the frame is read by its period and range, then stored, refused for room or answered by what the row holds. -/
theorem positionIsComparedAndStored : Obligations.PositionIsComparedAndStored := by
  intro s f rest period fig hy ht hrx hp hraises
  have handed := exec_position ht hrx hraises hp
  refine ⟨fun hv => ?_, fun v hv => ?_⟩
  · exact handed.trans (congrArg _ (takePosition_noView (s := taken rest s) hp hv))
  have read := handed.trans (congrArg _ (takePosition_view (s := taken rest s) hp hv))
  refine ⟨fun unmet => read.trans (congrArg _ (if_pos unmet)), fun closing same range => ?_⟩
  have met : ¬ (s.positions.gen.closing = false ∨ period ≠ closingPeriod s ∨ figuresInRange fig = false) := by
    simp [closing, same, range]
  replace read := read.trans (congrArg _ (if_neg met))
  refine ⟨fun uncompleted news => ?_, fun known => ?_⟩
  · replace read := read.trans (congrArg _ (if_pos ⟨uncompleted, storesMirror_iff.2 news⟩))
    refine ⟨fun full => read.trans (congrArg _ (if_neg (Bool.eq_false_iff.1 full))), fun free => ?_⟩
    subst same
    have stored := storeMirror_eq (s := taken rest s) (j := f.src) (c := closeRow v f.src) (fig := fig) hv free
    rw [putRow_positions (s := s) (t := taken rest s) rfl, if_congr turnsDisputed_iff rfl rfl, comparedState_eq] at stored
    rw [read.trans (congrArg _ (if_pos free)), stored]
    rfl
  · have answered : exec .position s =
        .next (replyPosition f.src hy (closeRow v f.src) (taken rest s)) := by
      refine read.trans (congrArg _ (if_neg fun new => ?_))
      rcases known with completed | ⟨settled, held⟩
      · simp [completed] at new
      · exact (storesMirror_iff.1 new.2).elim settled fun differs => differs held
    refine ⟨answered, fun quiet => answered.trans (congrArg _ (replyPosition_quiet quiet)),
      fun no final idle stored opened room => ?_⟩
    subst same no
    have unwaited : sendFrames f.src (taken rest s) = [] := (sendFrames_eq (s := taken rest s) hv).trans stored
    rw [answered, replyPosition_placed (s := taken rest s) ht opened final idle unwaited room]
    rfl

end Sys2Proof
end

section
/-! The reads of the till port: their layouts (R191, R192), and the bytes on MISO (R184). -/
namespace Sys2Proof.Machine

open Laws.ArgLength (toBytes_length boolByte_length)

section
variable {s t : State}

/-! ### Layouts (R191, R192) -/

theorem statusReply_length (s : State) : (statusReply s).length = 25 := by
  simp [statusReply, toBytes_length, boolByte_length]

/-- The pending frames are the thirteenth byte of STATUS, once recovery has built the working copy (R187, R191). -/
theorem statusReply_framesPending (h : s.station ≠ .recovering) :
    (statusReply s)[12]? = some (BitVec.ofNat 8 (framesPending s)) := by
  simp [statusReply, h, boolByte_length, toBytes]

theorem rosterBytes_length (s : State) (j : Nat) : (rosterBytes s j).length = 8 := by
  simp [rosterBytes, toBytes_length]

theorem rosterReply_length (s : State) : (rosterReply s).length = 504 := by
  simp [rosterReply, rosterBytes_length]

/-! ### The reads (R93, R187) -/

theorem exec_status (h : s.station ≠ .held) (p : Bool) :
    exec (.status p) s =
      .next { s with port := ⟨0 :: statusReply { s with port := { s.port with protectN := p } }, .statusFlag, p⟩ } :=
  hostCommand_taken (fun s => withSession .statusFlag (accepted (statusReply (sampleProtect p s)) (sampleProtect p s))) h

theorem exec_rosterRead (h : s.station ≠ .held) : exec .rosterRead s = .next (accepted (rosterReply s) s) :=
  hostCommand_taken (fun s => accepted (rosterReply s) s) h

theorem exec_badCommand (h : s.station ≠ .held) (op : Nat) : exec (.badCommand op) s = refusedWith 0x01 s :=
  (hostCommand_taken (fun s => refuse .badCommand s) h).trans (refuse_port .badCommand s)

theorem exec_slotRead (slot : Nat) (s : State) :
    exec (.slotRead slot) s = checkedCommand s [(isTrading s, .notTrading), (slotNamed slot, .badArgument)]
      fun s => accepted (slotReply (getSlot s slot)) s := rfl

/-- What POSITION_READ answers a TRADING station for its open or its closing generation (R93, R189). -/
theorem exec_positionRead (ht : s.station = .trading) {g j : Nat} (hg : g ≤ 1) (first : 1 ≤ j) (last : j ≤ 63) :
    exec (.positionRead g j) s =
      if (g = 0 || s.positions.gen.closing) = true then
        .next (accepted (if g = 1 then closingReply s j else openReply s j) s)
      else refusedWith 0x02 s := by
  have passed (o : Option PortStatus) (h : firstFail [((g = 0 || s.positions.gen.closing), PortStatus.badArgument)] = o) :
      firstFail [(isTrading s, .notTrading), (decide (g ≤ 1), .badArgument), ((1 ≤ j && j ≤ 63), .badArgument),
        ((g = 0 || s.positions.gen.closing), .badArgument)] = o :=
    (firstFail_trading ht).trans (firstFail_of_pass (decide_eq_true hg) (firstFail_of_pass (by simp [first, last]) h))
  split
  · next present => exact checkedCommand_run _ (not_held_of_trading ht) (passed _ (firstFail_of_pass present rfl))
  · next absent =>
    exact checkedCommand_refusedWith (not_held_of_trading ht) (passed _ (firstFail_of_fail (Bool.eq_false_iff.2 absent)))

/-! ### A host command's reply on MISO (R184) -/

theorem runStart_station (a : StartArgs) (s : State) : (runStart a s).station = .trading :=
  (runStart_clerical a s).station.trans ((startOffered_clerical a s).station.trans (offerPresence_clerical _).station)

theorem opcodeOf_of_encodeTill {c : Instr} {bytes : List Byte} (h : encodeTill c = some bytes) : (opcodeOf c).isSome = true := by
  obtain ⟨op, named, -⟩ := Option.map_eq_some_iff.1 h
  rw [named]
  rfl

/-- No host command puts the part in reset (R168). -/
theorem not_held_of_hostCommand {c : Instr} (hc : (opcodeOf c).isSome = true) (h : s.station ≠ .held)
    (hx : exec c s = .next t) : t.station ≠ .held := by
  by_cases he : isEvent c
  · cases c with
    | start st ml fr ff ce hl cl =>
      change execStart st ml fr ff ce hl cl s = _ at hx
      rw [execStart, checkedCommand, hostCommand_taken _ h] at hx
      obtain rfl := Host.Outcome.next.inj hx
      split
      · exact h
      · exact not_held_of_trading (runStart_station _ s)
    | frameReceived | programComplete | eraseComplete | reset | resetRelease | recoveryEnd =>
      exact absurd hc Bool.false_ne_true
    | _ => exact he.elim
  · obtain ⟨u, hu, lawful⟩ := exec_lawfully c s he
    obtain rfl := Host.Outcome.next.inj (hx.symm.trans hu)
    rwa [lawful.station]

end

end Sys2Proof.Machine

namespace Sys2Proof

open Machine

/-- Settles O7: the reads by their checks and layouts, MISO by the part not being in reset once a host command is taken. -/
theorem readsAnswerAndChangeOnlyThePort : Obligations.ReadsAnswerAndChangeOnlyThePort := by
  intro s hheld
  refine ⟨exec_status hheld, fun s' => ⟨statusReply_length s', statusReply_framesPending⟩, exec_rosterRead hheld,
    rosterReply_length s, fun ht slot named => ⟨?_, fun free => by rw [free]; rfl⟩, fun ht slot beyond => ?_,
    fun ht j first last => ⟨?_, ?_⟩, exec_badCommand hheld, fun c t bytes spelt hx k => ?_⟩
  · rw [exec_slotRead]
    exact checkedCommand_run _ hheld ((firstFail_trading ht).trans (firstFail_of_pass (slotNamed_iff.2 named) rfl))
  · rw [exec_slotRead]
    exact checkedCommand_refusedWith hheld ((firstFail_trading ht).trans
      (firstFail_of_fail (Bool.eq_false_iff.2 fun named => Nat.not_lt.2 beyond (slotNamed_iff.1 named))))
  · exact exec_positionRead ht (Nat.zero_le 1) first last
  · exact exec_positionRead ht (Nat.le_refl 1) first last
  · have driven := not_held_of_hostCommand (opcodeOf_of_encodeTill spelt) hheld hx
    exact ⟨misoByte_incoming driven, misoByte_reply bytes.length driven, misoByte_after driven⟩

end Sys2Proof
end

section
/-! The clearing arithmetic: the fee (R116 to R119), the row nets (R115), and the statement head's sums (R120, R121). -/
namespace Sys2Proof.Machine

/-! ### The percentage fee (R118) -/

section
variable {basis rate q r : Nat}

/-- R118's table, for any quotient and remainder of the product. -/
theorem percentageFee_of_product (product : basis * rate = 10000 * q + r) (below : r < 10000) :
    percentageFee basis rate =
      if r ≤ 4999 then q else if r = 5000 then (if q % 2 = 0 then q else q + 1) else q + 1 := by
  have quotient : basis * rate / 10000 = q := by omega
  have remainder : basis * rate % 10000 = r := by omega
  have lower : r < 5000 ↔ r ≤ 4999 := by omega
  simp only [percentageFee, quotient, remainder, lower]

/-- R118's table by its rows: a remainder below the half, the half, and one above it. -/
theorem percentageFee_cases (basis rate : Nat) : ∃ q r, basis * rate = 10000 * q + r ∧
    (r ≤ 4999 ∧ percentageFee basis rate = q ∨
      r = 5000 ∧ percentageFee basis rate % 2 = 0 ∧ (percentageFee basis rate = q ∨ percentageFee basis rate = q + 1) ∨
      5000 < r ∧ r < 10000 ∧ percentageFee basis rate = q + 1) := by
  have product : basis * rate = 10000 * (basis * rate / 10000) + basis * rate % 10000 := (Nat.div_add_mod _ _).symm
  have below : basis * rate % 10000 < 10000 := Nat.mod_lt _ (by decide)
  refine ⟨_, _, product, ?_⟩
  rw [percentageFee_of_product product below]
  split
  · next lower => exact .inl ⟨lower, rfl⟩
  · next upper =>
    split
    · next half => split <;> omega
    · next other => exact .inr (.inr ⟨by omega, below, rfl⟩)

/-- The percentage fee lies within half a unit of the exact quotient. -/
theorem percentageFee_nearest (basis rate : Nat) :
    2 * (basis * rate) ≤ 20000 * percentageFee basis rate + 10000 ∧
      20000 * percentageFee basis rate ≤ 2 * (basis * rate) + 10000 := by
  obtain ⟨q, r, product, below | half | above⟩ := percentageFee_cases basis rate <;> omega

/-- A half, on either side, is rounded to the even neighbour. -/
theorem percentageFee_even_of_half
    (half : 2 * (basis * rate) = 20000 * percentageFee basis rate + 10000 ∨
      20000 * percentageFee basis rate = 2 * (basis * rate) + 10000) : percentageFee basis rate % 2 = 0 := by
  obtain ⟨q, r, product, below | ⟨-, even, -⟩ | above⟩ := percentageFee_cases basis rate
  · omega
  · exact even
  · omega

theorem percentageFee_zero_rate (basis : Nat) : percentageFee basis 0 = 0 :=
  percentageFee_of_product (q := 0) (r := 0) (Nat.mul_zero basis) (by decide)

theorem percentageFee_le (largestBasis : basis ≤ 62999999999937) (largestRate : rate ≤ 1000) :
    basis * rate ≤ 62999999999937000 ∧ percentageFee basis rate ≤ 6299999999994 := by
  have product : basis * rate ≤ 62999999999937 * 1000 := Nat.mul_le_mul largestBasis largestRate
  have near := (percentageFee_nearest basis rate).2
  omega

end

/-! ### The fee and its basis (R116, R119) -/

theorem feeOf_le_basis (basis rate count fixedFee : Nat) : feeOf basis rate count fixedFee ≤ basis := Nat.min_le_right _ _

theorem feeOf_zero_basis (rate count fixedFee : Nat) : feeOf 0 rate count fixedFee = 0 := Nat.min_zero _

theorem feeBasis_eq (red ret : Nat) : feeBasis red ret = if ret ≤ red then red - ret else 0 := by
  unfold feeBasis
  split
  · rfl
  · next short => exact Nat.sub_eq_zero_of_le (by omega)

theorem feeBasis_int (red ret : Nat) : (feeBasis red ret : Int) = max 0 ((red : Int) - ret) := by
  unfold feeBasis
  omega

/-! ### Row nets (R104, R115) -/

/-- What the counterpart owes, less what it is owed. -/
theorem rowNet_eq (f : Figures) : rowNet f = ((f.ra + f.ti + f.fi : Int) - (f.ta + f.fa + f.ri)) := by
  unfold rowNet
  omega

theorem figuresAgree_iff {ours mirror : Figures} : figuresAgree ours mirror = true ↔
    ours.ra = mirror.ri ∧ ours.ta = mirror.ti ∧ ours.fa = mirror.fi ∧ ours.ri = mirror.ra ∧ ours.ti = mirror.ta ∧
      ours.fi = mirror.fa := by
  simp only [figuresAgree, Bool.and_eq_true, decide_eq_true_eq, and_assoc]

theorem figuresInRange_iff {f : Figures} : figuresInRange f = true ↔
    f.ra ≤ 999999999999 ∧ f.ta ≤ 999999999999 ∧ f.fa ≤ 999999999999 ∧ f.ri ≤ 999999999999 ∧ f.ti ≤ 999999999999 ∧
      f.fi ≤ 999999999999 := by
  simp only [figuresInRange, Bool.and_eq_true, decide_eq_true_eq, and_assoc]
  rfl

theorem rowNet_opposite {ours theirs : Figures} (agree : figuresAgree ours theirs = true) :
    rowNet ours + rowNet theirs = 0 := by
  obtain ⟨ra, ta, fa, ri, ti, fi⟩ := figuresAgree_iff.1 agree
  simp only [rowNet, ra, ta, fa, ri, ti, fi]
  omega

/-- Three figures on either side bound a net (R115). -/
theorem rowNet_range {f : Figures} (inRange : figuresInRange f = true) :
    -2999999999997 ≤ rowNet f ∧ rowNet f ≤ 2999999999997 := by
  obtain ⟨ra, ta, fa, ri, ti, fi⟩ := figuresInRange_iff.1 inRange
  unfold rowNet
  omega

/-! ### Sums over the counterpart rows (R116, R117, R120) -/

section
variable {s : State}

theorem counterparts_eq (s : State) : counterparts s = (List.range 64).filter fun j => 1 ≤ j ∧ j ≠ ownStation s := by
  rw [List.range_succ_eq_map, List.filter_cons_of_neg (by simp), counterparts]
  refine List.filter_congr fun j hj => ?_
  obtain ⟨i, -, rfl⟩ := List.mem_map.1 hj
  simp

/-- A station of its own leaves 62 counterparts (R91). -/
theorem counterparts_length (first : 1 ≤ ownStation s) (last : ownStation s ≤ 63) : (counterparts s).length = 62 := by
  have distinct : ((List.range 63).map (· + 1)).Nodup := List.nodup_range.map Nat.succ_injective
  have own : ownStation s ∈ (List.range 63).map (· + 1) :=
    List.mem_map.2 ⟨ownStation s - 1, List.mem_range.2 (by omega), by omega⟩
  have erased : counterparts s = ((List.range 63).map (· + 1)).erase (ownStation s) := by
    rw [distinct.erase_eq_filter, counterparts]
    exact List.filter_congr fun j _ => decide_not ..
  rw [erased, List.length_erase_of_mem own, List.length_map, List.length_range]

/-- 62 figures at their limit bound the sum of a figure over the counterpart rows (R116). -/
theorem sumRows_le {figure : Row → Nat} (rows : (counterparts s).length = 62)
    (limit : ∀ j ∈ counterparts s, figure (closingRow s j) ≤ 999999999999) : sumRows s figure ≤ 61999999999938 := by
  have bound := List.sum_le_card_nsmul ((counterparts s).map fun j => figure (closingRow s j)) 999999999999
    (List.forall_mem_map.2 limit)
  rw [List.length_map, rows] at bound
  exact bound

theorem sumNets_eq (s : State) (v : CloseView) (p : RowState → Bool) :
    sumNets s v p = (((counterparts s).filter fun j => p (closeRow v j).state).map fun j =>
      ((closingRow s j).fig.ra + (closingRow s j).fig.ti + (closingRow s j).fig.fi : Int)
        - ((closingRow s j).fig.ta + (closingRow s j).fig.fa + (closingRow s j).fig.ri)).sum := by
  simp only [sumNets, rowNet_eq]

/-- 62 nets at the ends of their range bound a sum of so many at most (R121). -/
theorem sum_rowNet_range {js : List Nat} (few : js.length ≤ 62)
    (inRange : ∀ j ∈ js, figuresInRange (closingRow s j).fig = true) :
    -185999999999814 ≤ (js.map fun j => rowNet (closingRow s j).fig).sum ∧
      (js.map fun j => rowNet (closingRow s j).fig).sum ≤ 185999999999814 := by
  have lower := List.card_nsmul_le_sum (js.map fun j => rowNet (closingRow s j).fig) _
    (List.forall_mem_map.2 fun j hj => (rowNet_range (inRange j hj)).1)
  have upper := List.sum_le_card_nsmul (js.map fun j => rowNet (closingRow s j).fig) _
    (List.forall_mem_map.2 fun j hj => (rowNet_range (inRange j hj)).2)
  rw [List.length_map, nsmul_eq_mul] at lower upper
  omega

theorem sumNets_range (v : CloseView) (p : RowState → Bool) (rows : (counterparts s).length = 62)
    (inRange : ∀ j ∈ counterparts s, figuresInRange (closingRow s j).fig = true) :
    -185999999999814 ≤ sumNets s v p ∧ sumNets s v p ≤ 185999999999814 :=
  sum_rowNet_range (rows ▸ List.length_filter_le _ _) fun j hj => inRange j (List.mem_of_mem_filter hj)

end

/-! ### The statement head (R116, R119, R120, R121) -/

section
variable {s : State}

theorem statementHead_basis (s : State) (v : CloseView) :
    (statementHead s v).basis = feeBasis (sumRows s (·.fig.ra) + (closingRow s (ownStation s)).own.ro)
      (sumRows s (·.fig.fa) + (closingRow s (ownStation s)).own.fo) := rfl

theorem statementHead_payout (s : State) (v : CloseView) :
    (statementHead s v).payout = sumNets s v (fun st => st = .confirmed) - (statementHead s v).fee := rfl

theorem statementHead_withheld (s : State) (v : CloseView) :
    (statementHead s v).withheld = sumNets s v (fun st => st = .disputed ∨ st = .silent) := by
  simp only [Bool.decide_or]
  rfl

theorem statementHead_fee_le_basis (s : State) (v : CloseView) : (statementHead s v).fee ≤ (statementHead s v).basis :=
  feeOf_le_basis _ _ _ _

theorem statementHead_fee {k : StartConf} (started : s.conf = some k) (v : CloseView) :
    (statementHead s v).fee =
      feeOf (statementHead s v).basis k.feeRate (statementHead s v).count k.fixedFee := by
  simp only [statementHead, started, Option.map_some, Option.getD_some]

/-- At most 63 redemption figures are added, and refunds only lower the basis (R116). -/
theorem statementHead_basis_le (v : CloseView) (rows : (counterparts s).length = 62)
    (inRange : ∀ j ∈ counterparts s, figuresInRange (closingRow s j).fig = true)
    (ownRange : (closingRow s (ownStation s)).own.ro ≤ 999999999999) : (statementHead s v).basis ≤ 62999999999937 := by
  have redeemed := sumRows_le (figure := (·.fig.ra)) rows fun j hj => (figuresInRange_iff.1 (inRange j hj)).1
  rw [statementHead_basis, feeBasis]
  omega

/-- R121's ranges of the payout and the withheld sum: the nets', and the payout less a fee within the basis. -/
theorem statementHead_ranges (v : CloseView) (rows : (counterparts s).length = 62)
    (inRange : ∀ j ∈ counterparts s, figuresInRange (closingRow s j).fig = true)
    (ownRange : (closingRow s (ownStation s)).own.ro ≤ 999999999999) :
    -248999999999751 ≤ (statementHead s v).payout ∧ (statementHead s v).payout ≤ 185999999999814 ∧
      -185999999999814 ≤ (statementHead s v).withheld ∧ (statementHead s v).withheld ≤ 185999999999814 := by
  have basis := statementHead_basis_le v rows inRange ownRange
  have fee := statementHead_fee_le_basis s v
  have confirmed := sumNets_range v (fun st => st = .confirmed) rows inRange
  refine ⟨?_, ?_, ?_⟩
  · rw [statementHead_payout]
    omega
  · rw [statementHead_payout]
    omega
  · rw [statementHead_withheld]
    exact sumNets_range v _ rows inRange

end

end Sys2Proof.Machine

namespace Sys2Proof

open Machine

/-- Settles O59: R118's table read as rounding, then the head's fields by the sums they are, and their ranges by 62 rows. -/
theorem clearingArithmetic : Obligations.ClearingArithmetic := by
  intro basis rate count fixedFee
  have ⟨nearBelow, nearAbove⟩ := percentageFee_nearest basis rate
  refine ⟨nearBelow, nearAbove, percentageFee_even_of_half, fun q r => percentageFee_of_product,
    percentageFee_zero_rate basis, percentageFee_le, rfl, feeOf_le_basis _ _ _ _, feeOf_zero_basis _ _ _, feeBasis_eq,
    fun _ _ => rowNet_opposite, fun _ => rowNet_range, fun s v => ⟨?payout, ?withheld, statementHead_fee_le_basis s v, ?basis,
      rfl, fun k started => statementHead_fee started v, counterparts_eq s, fun first last inRange ownRange =>
        statementHead_ranges v (counterparts_length first last) (List.all_eq_true.1 inRange) ownRange⟩⟩
  case payout => rw [statementHead_payout, sumNets_eq]
  case withheld => rw [statementHead_withheld, sumNets_eq]
  case basis =>
    rw [statementHead_basis, feeBasis_int, Nat.cast_add, Nat.cast_add]
    rfl

end Sys2Proof
end

section
/-! Erases of journal blocks: the block that is taken, the erase's end, and the control records that show it (R135, R138 to
R142, R171). -/
namespace Sys2Proof.Machine

section
variable {s : State} {b : Nat} {bk : Block} {ok : Bool}

/-! ### The block that is taken (R138, R139) -/

theorem lt_of_mem_ringAfter {n : Nat} (h : b ∈ ringAfter n) : b < 32 := by
  obtain ⟨i, -, rfl⟩ := List.mem_map.1 h
  exact Nat.mod_lt _ (by decide)

theorem index_lt_of_unlocked (h : unlocked s b = true) {pos : Nat} {e : JournalEntry}
    (hp : tabGet s.control.store.journal pos = some (.whole e)) (inside : pos / 512 = b) : e.index < s.journal.oldest := by
  obtain ⟨entries, -⟩ := Bool.and_eq_true_iff.1 h
  have here : inBlock b pos = true := decide_eq_true inside
  simpa [here] using List.all_eq_true.1 entries _ (mem_of_tabGet hp)

theorem eraseCandidate_spec (h : eraseCandidate s = some b) :
    blockStateOf s.journal.blocks b = .full ∧ b < 32 ∧
      ∀ (pos : Nat) (e : JournalEntry), tabGet s.control.store.journal pos = some (.whole e) → pos / 512 = b →
        e.index < s.journal.oldest := by
  obtain ⟨full, free⟩ := Bool.and_eq_true_iff.1 (List.find?_some (p := fun b => _ && unlocked s b) h)
  exact ⟨of_decide_eq_true full, lt_of_mem_ringAfter (List.mem_of_find?_eq_some h), fun _ _ => index_lt_of_unlocked free⟩

/-! ### ERASE_BEGIN (R139) -/

theorem erases_of_up (up : s.station = .idle ∨ s.station = .trading) : erases s = true := by
  simpa [erases] using up

theorem exec_eraseBegin_none (h : s.journal.erase ≠ none ∨ usableBlocks s.journal.blocks < 4 ∨ eraseCandidate s = none) :
    exec .eraseBegin s = .next s := by
  refine congrArg Host.Outcome.next ?_
  split
  · next begins =>
    obtain ⟨-, idle, usable⟩ := begins
    have none_free : eraseCandidate s = none := (h.resolve_left (not_not.2 idle)).resolve_left (Nat.not_lt.2 usable)
    rw [none_free]
  · rfl

theorem beginErase_eq (b : Nat) (s : State) : beginErase b s =
    marksErase .eraseBegin (setBlockState s.journal.blocks b .erasing) (some ⟨b, .marking⟩) s.control.store s := rfl

theorem exec_eraseBegin_takes (up : s.station = .idle ∨ s.station = .trading) (idle : s.journal.erase = none)
    (usable : 4 ≤ usableBlocks s.journal.blocks) (h : eraseCandidate s = some b) :
    exec .eraseBegin s = .next (beginErase b s) := by
  refine congrArg Host.Outcome.next ?_
  rw [if_pos ⟨erases_of_up up, idle, usable⟩, h]

/-! ### The end of an erase (R139, R141) -/

/-- Two changes of one element are one when they agree on it. -/
theorem modify_congr {α : Type} {l : List α} {n : Nat} {a : α} {f g : α → α} (h : l[n]? = some a) (same : f a = g a) :
    l.modify n f = l.modify n g := by
  refine List.ext_getElem? fun i => ?_
  rw [List.getElem?_modify, List.getElem?_modify]
  by_cases here : n = i
  · subst here
    simp [h, same]
  · simp [here]

/-- A completed erase leaves no slot of its block (R139). -/
theorem eraseSlots_completed (b : Nat) (st : Store) :
    eraseSlots true b st = { st with journal := st.journal.filter fun k => k.1 / 512 ≠ b } := by
  have outside (place : Nat) : (!inBlock b place) = decide (place / 512 ≠ b) := decide_not.symm
  simp only [eraseSlots, outside, if_true]

section
variable (hb : s.journal.blocks[b]? = some bk)
include hb

/-- The block that an erase has left is ERASED or BAD; a BAD one is told of. -/
theorem endErase_eq {f : Block → Block} (left : erasedBlock ok bk = f bk) : endErase ok b s =
    if (f bk).state = .bad then
      { marksErase .eraseEnd (s.journal.blocks.modify b f) none (eraseSlots ok b s.control.store) s with
        notices := postNotice ⟨.blockRetired, .number b, (f bk).eraseCount⟩ s.notices }
    else marksErase .eraseEnd (s.journal.blocks.modify b f) none (eraseSlots ok b s.control.store) s := by
  have found : (s.journal.blocks.modify b f)[b]? = some (f bk) := by simp [hb]
  have state : blockStateOf (s.journal.blocks.modify b f) b = (f bk).state := by rw [blockStateOf, found]; rfl
  unfold endErase
  dsimp only
  rw [modify_congr hb left, state, found]
  rfl

theorem endErase_erased (below : bk.eraseCount + 1 < 100000) : endErase true b s = marksErase .eraseEnd
    (s.journal.blocks.modify b fun k => ⟨.erased, k.eraseCount + 1⟩) none
    { s.control.store with journal := s.control.store.journal.filter fun k => k.1 / 512 ≠ b } s := by
  have left : erasedBlock true bk = ⟨.erased, bk.eraseCount + 1⟩ := if_pos below
  rw [endErase_eq hb (f := fun k => ⟨.erased, k.eraseCount + 1⟩) left, if_neg (by simp), eraseSlots_completed]

theorem endErase_worn (last : bk.eraseCount + 1 = 100000) : endErase true b s = { marksErase .eraseEnd
      (s.journal.blocks.modify b fun k => ⟨.bad, k.eraseCount + 1⟩) none
      { s.control.store with journal := s.control.store.journal.filter fun k => k.1 / 512 ≠ b } s with
    notices := postNotice ⟨.blockRetired, .number b, 100000⟩ s.notices } := by
  have left : erasedBlock true bk = ⟨.bad, bk.eraseCount + 1⟩ := if_neg (Nat.not_lt.2 (Nat.le_of_eq last.symm))
  rw [endErase_eq hb (f := fun k => ⟨.bad, k.eraseCount + 1⟩) left, if_pos rfl, eraseSlots_completed, last]

theorem endErase_failed : endErase false b s = { marksErase .eraseEnd
      (s.journal.blocks.modify b fun k => ⟨.bad, k.eraseCount⟩) none s.control.store s with
    notices := postNotice ⟨.blockRetired, .number b, bk.eraseCount⟩ s.notices } :=
  (endErase_eq hb (f := fun k => ⟨.bad, k.eraseCount⟩) rfl).trans (if_pos rfl)

end

/-! ### ERASE_COMPLETE (R135, R139, R142) -/

theorem clearReserve_outside {n : Nat} (h : 512 < n ∨ freeCount s.journal ≤ 512) : clearReserve n s = s :=
  if_neg fun leaves => h.elim (Nat.not_lt.2 leaves.1) (Nat.not_le.2 leaves.2)

theorem clearReserve_leaves {n : Nat} (inside : n ≤ 512) (leaves : 512 < freeCount s.journal) : clearReserve n s =
    examineBegin { s with notices := postNotice ⟨.journalClear, .none, freeCount s.journal⟩ s.notices } :=
  if_pos ⟨inside, leaves⟩

section
variable {spent : Nat} (running : s.journal.erase = some ⟨b, .running spent⟩) (unsuspended : s.control.queue = [])
include running unsuspended

theorem runningErase_eq : runningErase s = some b := by
  rw [runningErase, running, unsuspended]
  rfl

theorem exec_eraseComplete_recovering (h : s.station = .recovering) :
    exec (.eraseComplete ok) s = .next (endErase ok b s) := by
  refine congrArg Host.Outcome.next ?_
  rw [runningErase_eq running unsuspended, h]

theorem exec_eraseComplete_up (up : s.station = .idle ∨ s.station = .trading) :
    exec (.eraseComplete ok) s = .next (clearReserve (freeCount s.journal) (endErase ok b s)) := by
  refine congrArg Host.Outcome.next ?_
  rw [runningErase_eq running unsuspended]
  rcases up with up | up <;> rw [up]

end

/-- No erase runs while its block is still to be shown ERASING, or while a program suspends it (R139, R140). -/
theorem runningErase_eq_none
    (h : (s.journal.erase.all fun k => k.phase = .marking) = true ∨ s.control.queue ≠ []) : runningErase s = none := by
  unfold runningErase
  split
  · next running =>
    rw [running] at h
    have suspended : s.control.queue ≠ [] := h.resolve_left (by simp)
    exact if_neg (by simpa using suspended)
  · rfl

theorem exec_eraseComplete_none
    (h : (s.journal.erase.all fun k => k.phase = .marking) = true ∨ s.control.queue ≠ []) :
    exec (.eraseComplete ok) s = .next s := by
  refine congrArg Host.Outcome.next ?_
  rw [runningErase_eq_none h]

/-! ### A control record is stored (R139, R141, R171) -/

theorem programWrite_control (st : Store) (copyB : Bool) (c : ControlCopy) (use : ControlUse) :
    programWrite st (.control copyB c use) =
      if copyB then { st with controlB := some (.whole c) } else { st with controlA := some (.whole c) } := by
  cases copyB <;> rfl

/-- What a cursor may not yet see is a matter of the journal and the frames (R145). -/
theorem hiddenFrom_control (st : Store) (copyB : Bool) (c : ControlCopy) (use : ControlUse) :
    hiddenFrom (programWrite st (.control copyB c use)) = hiddenFrom st := by
  cases copyB <;> rfl

section
variable {copyB : Bool} {c : ControlCopy} {use : ControlUse} {prs : List Program}
  (hq : s.control.queue = .control copyB c use :: prs) (up : s.station = .idle ∨ s.station = .trading)
include hq up

theorem exec_controlProgram : exec (.programComplete .completed) s =
    .next (controlStored use { s with control := programmed (.control copyB c use) prs s }) :=
  exec_programComplete_up hq up

theorem exec_controlProgram_begin (eraseBegin : use = .eraseBegin) (marking : s.journal.erase = some ⟨b, .marking⟩) :
    exec (.programComplete .completed) s = .next { s with
      control := programmed (.control copyB c use) prs s
      journal := { s.journal with erase := some ⟨b, .running 0⟩ } } := by
  rw [exec_controlProgram hq up, eraseBegin]
  exact congrArg Host.Outcome.next (startErase_marking marking)

theorem exec_controlProgram_plain (h : use = .frame ∨ (use = .eraseEnd ∧ 4 ≤ usableBlocks s.journal.blocks)) :
    exec (.programComplete .completed) s = .next { s with control := programmed (.control copyB c use) prs s } := by
  rw [exec_controlProgram hq up]
  refine congrArg Host.Outcome.next ?_
  rcases h with rfl | ⟨rfl, usable⟩
  · rfl
  · exact if_neg (Nat.not_lt.2 usable)

theorem exec_controlProgram_worn (eraseEnd : use = .eraseEnd) (few : usableBlocks s.journal.blocks < 4) :
    exec (.programComplete .completed) s = .next { s with
      station := .halted, fault := some .journalWorn, link := haltLink s,
      notices := postNotice ⟨.fault, .none, 3⟩ s.notices,
      journal := { s.journal with erase := none, hidden := hiddenFrom s.control.store },
      control := ⟨(programmed (.control copyB c use) prs s).store, [], s.control.frames.filter (·.stored), [],
        s.control.nextFrame⟩ } := by
  subst eraseEnd
  rw [exec_controlProgram hq up, ← hiddenFrom_control s.control.store copyB c .eraseEnd]
  exact congrArg Host.Outcome.next (if_pos few)

end

end

end Sys2Proof.Machine

namespace Sys2Proof

open Machine

/-- Settles O52: an erase taken and ended by the station's state and the block's count, and its control records by their use. -/
theorem blocksAreErased : Obligations.BlocksAreErased := by
  refine fun s blk => ⟨fun spent bk recovering running unsuspended hb => ?_, fun up =>
    ⟨exec_eraseBegin_none, fun idle usable taken => ?_, fun spent bk running unsuspended hb => ?_,
      fun none_runs ok => exec_eraseComplete_none none_runs, ?_⟩⟩
  · have ends (ok : Bool) := exec_eraseComplete_recovering (ok := ok) running unsuspended recovering
    rw [ends, ends]
    exact ⟨fun below => congrArg _ (endErase_erased hb below), fun last => congrArg _ (endErase_worn hb last),
      congrArg _ (endErase_failed hb)⟩
  · exact ⟨exec_eraseBegin_takes up idle usable taken, eraseCandidate_spec taken⟩
  · have ends (ok : Bool) := exec_eraseComplete_up (ok := ok) running unsuspended up
    have outside (ok : Bool) (free : 512 < freeCount s.journal) :
        exec (.eraseComplete ok) s = .next (endErase ok blk s) :=
      (ends ok).trans (congrArg _ (clearReserve_outside (.inl free)))
    refine ⟨fun below s1 hs1 => ?_, fun free last => ?_, fun free => ?_⟩
    · rw [ends, endErase_erased hb below, ← hs1]
      refine ⟨fun stays => congrArg _ (clearReserve_outside stays), fun inside leaves => ?_⟩
      rw [clearReserve_leaves inside leaves, hs1]
      rfl
    · rw [outside true free, endErase_worn hb last]
    · rw [outside false free, endErase_failed hb]
  · rintro _ prs copyB cc use hq rfl
    exact ⟨programWrite_control .., exec_controlProgram_begin hq up, exec_controlProgram_plain hq up,
      exec_controlProgram_worn hq up⟩

end Sys2Proof
end

section
/-! The cursor commands of the till (R146 to R149), and ARCHIVE_ACK (R155). -/
namespace Sys2Proof.Machine

section
variable {s : State} {n : Nat} {c : Cursor}

/-! ### A part that takes the commands of IDLE, TRADING and HALTED -/

theorem attended_iff : attended s = true ↔ s.station = .idle ∨ s.station = .trading ∨ s.station = .halted := by
  simp [attended, or_assoc]

theorem not_held_of_attended (h : attended s = true) : s.station ≠ .held := by
  rcases attended_iff.1 h with h | h | h <;> simp [h]

/-! ### One cursor rewritten (R144) -/

theorem getCursor_written (t : State) (h : t.cursors.table = tabPutD Cursor.blank s.cursors.table n c) :
    getCursor t n = c := by
  rw [getCursor, h, tabGetD_tabPutD]

theorem getCursor_putCursor (n : Nat) (c : Cursor) (s : State) : getCursor (putCursor n c s) n = c :=
  getCursor_written (putCursor n c s) rfl

/-- A cursor that is not IDLE is listed. -/
theorem putCursor_listed (h : c.state ≠ .idle) (n : Nat) (s : State) :
    putCursor n c s = { s with cursors := ⟨tabPut s.cursors.table n c, s.cursors.mark⟩ } := by
  have standing : c ≠ Cursor.blank := fun blank => h (congrArg Cursor.state blank)
  rw [putCursor, tabPutD, if_neg standing]

/-- A change of state is told of where the cursor's notices are enabled (R154). -/
theorem cursorNotice_eq (n : Nat) (c : Cursor) (kind : NoticeKind) (s : State) :
    cursorNotice n c kind s =
      { s with notices := if c.notice then postNotice ⟨kind, .number n, 0⟩ s.notices else s.notices } := by
  unfold cursorNotice
  split <;> rfl

theorem getCursor_endCursor (n : Nat) (c : Cursor) (s : State) :
    getCursor (endCursor n c s) n = { c with state := .ended } :=
  getCursor_written (s := s) _ (by rw [endCursor, cursorNotice_eq]; rfl)

/-! ### CURSOR_SET (R146, R147) -/

theorem exec_cursorSet {cnt len ad ae am af : Nat} {ch : Direction × EndAction × CursorMode × CursorFilter}
    (att : attended s = true) (named : n ≤ 3) (count : 1 ≤ cnt) (short : 1 ≤ len) (long : len ≤ 64)
    (choices : cursorChoices n ad ae am af = some ch) (idx : Nat) (nb : Bool) :
    exec (.cursorSet n idx cnt len ad ae am af nb) s = .next (runCursorSet n idx cnt len nb ch s) := by
  have good : ¬ (3 < n ∨ cnt = 0 ∨ len < 1 ∨ 64 < len) := by omega
  change execCursorSet n idx cnt len ad ae am af nb s = _
  rw [execCursorSet, hostCommand_taken _ (not_held_of_attended att), att, if_neg (by decide), if_neg good, choices]

theorem runCursorSet_cursor (h : 1 ≤ n) (idx cnt len : Nat) (nb : Bool)
    (ch : Direction × EndAction × CursorMode × CursorFilter) (s : State) :
    let start := clampStart s.journal.oldest (newestStored s) idx
    runCursorSet n idx cnt len nb ch s = accepted
      (toBytes 4 start ++ toBytes 4 s.journal.oldest ++ toBytes 4 ((newestStored s).getD 0))
      { s with cursors := ⟨tabPut s.cursors.table n
        ⟨.ready, start, start, cnt, cnt, len, ch.1, ch.2.1, ch.2.2.1, ch.2.2.2, nb, false, []⟩, s.cursors.mark⟩ } := by
  have other : n ≠ 0 := Nat.one_le_iff_ne_zero.1 h
  dsimp only [runCursorSet]
  rw [startFor, if_neg other, if_neg other, putCursor_listed (by simp)]

theorem runCursorSet_zero (idx cnt len : Nat) (nb : Bool) (ch : Direction × EndAction × CursorMode × CursorFilter)
    (s : State) :
    let start := s.journal.archived + 1
    runCursorSet 0 idx cnt len nb ch s = accepted
      (toBytes 4 start ++ toBytes 4 s.journal.oldest ++ toBytes 4 ((newestStored s).getD 0))
      { s with cursors := ⟨tabPut s.cursors.table 0
          ⟨.ready, start, start, cnt, cnt, len, ch.1, ch.2.1, ch.2.2.1, ch.2.2.2, nb, false, []⟩,
        max s.cursors.mark s.journal.archived⟩ } := by
  dsimp only [runCursorSet]
  rw [startFor, if_pos rfl, if_pos rfl, putCursor_listed (by simp)]

/-! ### CURSOR_READ (R148, R153) -/

theorem exec_cursorRead (n : Nat) (s : State) :
    exec (.cursorRead n) s = checkedCommand s
      [(attended s, .notTrading), (n ≤ 3, .badArgument), ((getCursor s n).state ≠ .idle, .badArgument)]
      (runCursorRead n) := rfl

theorem exec_cursorRead_reads (att : attended s = true) (named : n ≤ 3) (set : (getCursor s n).state ≠ .idle) :
    exec (.cursorRead n) s = .next (runCursorRead n s) := by
  rw [exec_cursorRead]
  exact checkedCommand_run _ (not_held_of_attended att)
    (firstFail_of_pass att (firstFail_of_pass (decide_eq_true named) (firstFail_of_pass (decide_eq_true set) rfl)))

theorem exec_cursorRead_refused (att : attended s = true) (h : 4 ≤ n ∨ (getCursor s n).state = .idle) :
    exec (.cursorRead n) s = refusedWith 0x02 s := by
  rw [exec_cursorRead]
  refine checkedCommand_refusedWith (p := .badArgument) (not_held_of_attended att) (firstFail_of_pass att ?_)
  by_cases named : n ≤ 3
  · have idle : (getCursor s n).state = .idle := h.resolve_left (by omega)
    exact firstFail_of_pass (decide_eq_true named) (firstFail_of_fail (decide_eq_false (not_not.2 idle)))
  · exact firstFail_of_fail (decide_eq_false named)

theorem runCursorRead_eq (n : Nat) (s : State) : runCursorRead n s = { s with
    cursors := ⟨tabPutD Cursor.blank s.cursors.table n (readyCursor (getCursor s n)), s.cursors.mark⟩
    port := { acceptedPort (headerBytes (getCursor s n)) s with
      session := .cursor ⟨n, .header, none, false, 0, false⟩ } } := rfl

theorem getCursor_runCursorRead (n : Nat) (s : State) :
    getCursor (runCursorRead n s) n = readyCursor (getCursor s n) :=
  getCursor_written (s := s) _ (by rw [runCursorRead_eq])

theorem readyCursor_eq (set : c.state ≠ .idle) : readyCursor c =
    { c with
      state := if c.state = .paused then .ready else c.state
      paused := if c.state = .paused then false else c.paused
      buffer := if c.mode = .block ∧ c.state ≠ .ended then [] else c.buffer } := by
  unfold readyCursor
  by_cases paused : c.state = .paused
  · by_cases block : c.mode = .block <;> simp [paused, block]
  · have stands : c.state = .ready ↔ c.state ≠ .ended := by cases h : c.state <;> simp_all
    simp only [if_neg paused, stands]
    split <;> rfl

/-! ### The entry that is chosen (R145, R149) -/

/-- Of the entries that pass a test the one that is better than the rest: the common shape of the scans for the lowest and
for the highest index. -/
def bestEntry (better : JournalEntry → JournalEntry → Bool) (p : JournalEntry → Bool) :
    List JournalEntry → Option JournalEntry
  | [] => none
  | e :: t =>
    match bestEntry better p t with
    | none => if p e then some e else none
    | some b => if p e && better e b then some e else some b

theorem lowestEntry_eq (p : JournalEntry → Bool) (l : List JournalEntry) :
    lowestEntry p l = bestEntry (fun e b => e.index < b.index) p l := by
  induction l with
  | nil => rfl
  | cons e t ih => rw [lowestEntry, ih]; rfl

theorem highestEntry_eq (p : JournalEntry → Bool) (l : List JournalEntry) :
    highestEntry p l = bestEntry (fun e b => b.index < e.index) p l := by
  induction l with
  | nil => rfl
  | cons e t ih => rw [highestEntry, ih]; rfl

section
variable {better : JournalEntry → JournalEntry → Bool} {p : JournalEntry → Bool} {l : List JournalEntry}
  {en : JournalEntry}

theorem bestEntry_mem (h : bestEntry better p l = some en) : en ∈ l ∧ p en = true := by
  induction l with
  | nil => cases h
  | cons e t ih =>
    have head (taken : (if p e then some e else none) = some en) : en ∈ e :: t ∧ p en = true := by
      obtain ⟨pe, same⟩ := Option.ite_none_right_eq_some.1 taken
      cases same
      exact ⟨List.mem_cons_self, pe⟩
    rw [bestEntry] at h
    split at h
    · exact head h
    · next b found =>
      split at h
      · next wins => exact head (by rw [if_pos (Bool.and_eq_true_iff.1 wins).1]; exact h)
      · obtain ⟨hm, hp⟩ := ih (found.trans h)
        exact ⟨List.mem_cons_of_mem _ hm, hp⟩

theorem bestEntry_none (h : ∀ k ∈ l, p k = false) : bestEntry better p l = none := by
  cases found : bestEntry better p l with
  | none => rfl
  | some b =>
    obtain ⟨hm, hp⟩ := bestEntry_mem found
    exact absurd ((h b hm).symm.trans hp) Bool.false_ne_true

theorem bestEntry_of_best (hm : en ∈ l) (hp : p en = true)
    (best : ∀ k ∈ l, p k = true → k = en ∨ (better en k = true ∧ better k en = false)) :
    bestEntry better p l = some en := by
  induction l with
  | nil => cases hm
  | cons e t ih =>
    have rest (k : JournalEntry) (hk : k ∈ t) := best k (List.mem_cons_of_mem _ hk)
    rw [bestEntry]
    rcases List.mem_cons.1 hm with rfl | inside
    · cases found : bestEntry better p t with
      | none => simp [hp]
      | some b =>
        obtain ⟨hb, pb⟩ := bestEntry_mem found
        rcases rest b hb pb with rfl | ⟨wins, -⟩
        · simp
        · simp [hp, wins]
    · rw [ih inside rest]
      by_cases pe : p e = true
      · rcases best e List.mem_cons_self pe with rfl | ⟨-, loses⟩
        · simp
        · simp [loses]
      · simp [pe]

end

theorem oldest_le_of_mem_visible {e : JournalEntry} (h : e ∈ visible s) : s.journal.oldest ≤ e.index := by
  have := (List.mem_filter.1 h).2
  simp only [Bool.and_eq_true, decide_eq_true_eq] at this
  exact this.1

/-- The entries a cursor may still give: visible ones, from where it stands on in its direction, that its filter takes. -/
def givesEntry (c : Cursor) (e : JournalEntry) : Prop :=
  filterAccepts c.filter e.kind = true ∧ match c.direction with
    | .forward => c.current ≤ e.index
    | .backward => e.index ≤ c.current

/-- An entry comes before another in a cursor's direction. -/
def precedes (d : Direction) (e k : JournalEntry) : Prop :=
  match d with
  | .forward => e.index < k.index
  | .backward => k.index < e.index

section
variable {en k : JournalEntry}

theorem forwardTest_iff (dir : c.direction = .forward) (hk : k ∈ visible s) :
    (decide (max c.current s.journal.oldest ≤ k.index) && filterAccepts c.filter k.kind) = true ↔ givesEntry c k := by
  simp [givesEntry, dir, oldest_le_of_mem_visible hk, and_comm]

theorem backwardTest_iff (dir : c.direction = .backward) :
    (decide (k.index ≤ c.current) && filterAccepts c.filter k.kind) = true ↔ givesEntry c k := by
  simp [givesEntry, dir, and_comm]

theorem lookNext_finds (hm : en ∈ visible s) (gives : givesEntry (getCursor s n) en)
    (first : ∀ k ∈ visible s, givesEntry (getCursor s n) k → k = en ∨ precedes (getCursor s n).direction en k) :
    lookNext n s = (some en, putCursor n { getCursor s n with current := en.index } s) := by
  cases dir : (getCursor s n).direction with
  | forward =>
    have found : lowestEntry (fun e => max (getCursor s n).current s.journal.oldest ≤ e.index
        && filterAccepts (getCursor s n).filter e.kind) (visible s) = some en := by
      rw [lowestEntry_eq]
      refine bestEntry_of_best hm ((forwardTest_iff dir hm).2 gives) fun k hk passes => ?_
      refine (first k hk ((forwardTest_iff dir hk).1 passes)).imp_right fun before => ?_
      have lt : en.index < k.index := by simpa only [precedes, dir] using before
      exact ⟨decide_eq_true lt, decide_eq_false lt.le.not_gt⟩
    simp only [lookNext, dir, lookForward, found]
  | backward =>
    have found : highestEntry (fun e => e.index ≤ (getCursor s n).current
        && filterAccepts (getCursor s n).filter e.kind) (visible s) = some en := by
      rw [highestEntry_eq]
      refine bestEntry_of_best hm ((backwardTest_iff dir).2 gives) fun k hk passes => ?_
      refine (first k hk ((backwardTest_iff dir).1 passes)).imp_right fun before => ?_
      have lt : k.index < en.index := by simpa only [precedes, dir] using before
      exact ⟨decide_eq_true lt, decide_eq_false lt.le.not_gt⟩
    simp only [lookNext, dir, lookBackward, found]

/-- A cursor that finds no entry: a FORWARD one stands on, a BACKWARD one has ended (R149). -/
theorem lookNext_finds_none (none_left : ∀ k ∈ visible s, ¬ givesEntry (getCursor s n) k) :
    (lookNext n s).1 = none ∧ (getCursor (lookNext n s).2 n).state =
      if (getCursor s n).direction = .forward then (getCursor s n).state else .ended := by
  cases dir : (getCursor s n).direction with
  | forward =>
    have found : lowestEntry (fun e => max (getCursor s n).current s.journal.oldest ≤ e.index
        && filterAccepts (getCursor s n).filter e.kind) (visible s) = none := by
      rw [lowestEntry_eq]
      exact bestEntry_none fun k hk => Bool.eq_false_iff.2 fun passes => none_left k hk ((forwardTest_iff dir hk).1 passes)
    simp only [lookNext, dir, lookForward, found, getCursor_putCursor, if_true, and_self]
  | backward =>
    have found : highestEntry (fun e => e.index ≤ (getCursor s n).current
        && filterAccepts (getCursor s n).filter e.kind) (visible s) = none := by
      rw [highestEntry_eq]
      exact bestEntry_none fun k hk => Bool.eq_false_iff.2 fun passes => none_left k hk ((backwardTest_iff dir).1 passes)
    simp only [lookNext, dir, lookBackward, found, getCursor_endCursor, true_and]
    rfl

end

/-! ### The records of a read (R148, R149, R151, R153) -/

section
variable {st : CursorStream}

theorem nextRecord_end (h : st.endOnly = true ∨ (getCursor s st.cursor).state = .ended) :
    nextRecord st s = streamOn st .endRecord s := by
  unfold nextRecord
  exact if_pos (by simpa using h)

theorem nextRecord_looks (more : st.endOnly = false) (goes : (getCursor s st.cursor).state ≠ .ended)
    (fresh : st.given = none) (filling : st.complete = false) :
    nextRecord st s = streamLook st (getCursor s st.cursor).mode s := by
  unfold nextRecord
  dsimp only
  rw [if_neg (by simp [more, goes])]
  cases mode : (getCursor s st.cursor).mode <;> simp [fresh, filling]

theorem streamLook_finds {e : JournalEntry} {t : State} (h : lookNext st.cursor s = (some e, t)) (m : CursorMode) :
    streamLook st m s = streamOn st (.entry e) t := by
  rw [streamLook, h]

theorem streamLook_finds_none (h : (lookNext st.cursor s).1 = none) (m : CursorMode) :
    streamLook st m s =
      streamOn { st with endOnly := st.endOnly || m ≠ .successive } .endRecord (lookNext st.cursor s).2 := by
  have look : lookNext st.cursor s = (none, (lookNext st.cursor s).2) := Prod.ext h rfl
  rw [streamLook, look]

theorem exec_cursorRecordChosen (reads : s.port.session = .cursor st)
    (past : st.item = .header ∨ st.item = .endRecord) : exec .cursorRecordChosen s = .next (nextRecord st s) := by
  change execCursorRecordChosen s = _
  rw [execCursorRecordChosen, reads]
  rcases past with h | h <;> simp only [h] <;> rfl

end

/-! ### ARCHIVE_ACK (R155) -/

theorem exec_archiveAck (idx : Nat) (s : State) :
    exec (.archiveAck idx) s = checkedCommand s
      [(s.station = .idle || s.station = .trading, .notTrading), (idx ≤ s.cursors.mark, .badArgument),
        (idx ≤ s.journal.archived || frameFree s, .storeBusy)]
      fun s => accepted [] (if idx ≤ s.journal.archived then s else runArchiveAck idx s) := rfl

theorem runArchiveAck_eq (idx : Nat) (free : frameFree s = true) : runArchiveAck idx s = { s with
    journal := { s.journal with archived := idx, writes := s.journal.writes + 1, lastB := !s.journal.lastB }
    control := withFrame .archiveStore [.control ⟨s.journal.oldest, idx, s.journal.next, s.journal.blocks⟩] [] .none s } :=
  if_pos free

section
variable {idx : Nat}

theorem exec_archiveAck_down (h : s.station = .recovering ∨ s.station = .halted) :
    exec (.archiveAck idx) s = refusedWith 0x03 s := by
  rw [exec_archiveAck]
  refine checkedCommand_refusedWith (p := .notTrading) ?_ (firstFail_of_fail ?_) <;> rcases h with h | h <;> simp [h]

section
variable (up : s.station = .idle ∨ s.station = .trading)
include up

theorem exec_archiveAck_beyond (beyond : s.cursors.mark < idx) : exec (.archiveAck idx) s = refusedWith 0x02 s := by
  rw [exec_archiveAck]
  exact checkedCommand_refusedWith (p := .badArgument) (by rcases up with h | h <;> simp [h])
    (firstFail_of_pass (by simpa using up) (firstFail_of_fail (decide_eq_false (Nat.not_le.2 beyond))))

/-- An index within the mark comes down to whether there is room for the frame it may need. -/
theorem exec_archiveAck_within (within : idx ≤ s.cursors.mark) :
    exec (.archiveAck idx) s = if (idx ≤ s.journal.archived || frameFree s) = true then
        .next (accepted [] (if idx ≤ s.journal.archived then s else runArchiveAck idx s))
      else refusedWith 0x0C s := by
  have awake : s.station ≠ .held := by rcases up with h | h <;> simp [h]
  have passed {cs : List (Bool × PortStatus)} {o : Option PortStatus} (h : firstFail cs = o) :
      firstFail ((decide (s.station = .idle) || decide (s.station = .trading), .notTrading)
        :: (decide (idx ≤ s.cursors.mark), .badArgument) :: cs) = o :=
    firstFail_of_pass (by simpa using up) (firstFail_of_pass (decide_eq_true within) h)
  rw [exec_archiveAck]
  split
  · next room => exact checkedCommand_run _ awake (passed (firstFail_of_pass room rfl))
  · next busy => exact checkedCommand_refusedWith awake (passed (firstFail_of_fail (Bool.eq_false_iff.2 busy)))

end

end

end

end Sys2Proof.Machine

namespace Sys2Proof

open Machine

/-- Settles O29: the two forms of a CURSOR_SET that passes its checks, for a cursor named and for cursor 0. -/
theorem cursorSetReadiesTheCursor : Obligations.CursorSetReadiesTheCursor := by
  intro s cur idx cnt len dir ea mode fil ad ae am af nb taken count short long hea hmode
  have att := attended_iff.2 taken
  refine ⟨fun first last hdir hfil => ?_, ?_⟩
  · have choices : cursorChoices cur ad ae am af = some (dir, ea, mode, fil) := by
      have other : cur ≠ 0 := Nat.one_le_iff_ne_zero.1 first
      simp only [cursorChoices, if_neg other, hdir, hea, hmode, hfil]
    rw [exec_cursorSet att last count short long choices, runCursorSet_cursor first]
    rfl
  · have choices : cursorChoices 0 ad ae am af = some (.forward, ea, mode, .all) := by
      simp only [cursorChoices, if_true, hea, hmode]
    rw [exec_cursorSet att (Nat.zero_le 3) count short long choices, runCursorSet_zero]
    rfl

/-- Settles O30: a read stands on the header, and each record chosen is the first entry left in the cursor's direction. -/
theorem cursorReadChoosesEntries : Obligations.CursorReadChoosesEntries := by
  refine fun s cur => ⟨fun taken => ⟨fun named set => ?_, ?_⟩, fun cs reads past more ready fresh filling => ?_⟩
  · refine ⟨_, exec_cursorRead_reads (attended_iff.2 taken) named set, ?_⟩
    rw [getCursor_runCursorRead, ← readyCursor_eq set, runCursorRead_eq]
    exact ⟨rfl, rfl, rfl, rfl⟩
  · exact exec_cursorRead_refused (attended_iff.2 taken)
  · have goes : (getCursor s cs.cursor).state ≠ .ended := by simp [ready]
    rw [exec_cursorRecordChosen reads past, nextRecord_looks more goes fresh filling]
    refine ⟨fun en seen takes => ?_, fun none_left => ?_⟩
    · refine ⟨fun dir stands first => ?_, fun dir stands first => ?_⟩
      all_goals
        rw [streamLook_finds (lookNext_finds seen (by simp [givesEntry, dir, takes, stands]) fun k hk gives => ?_)]
        simp only [givesEntry, dir] at gives
        simpa only [precedes, dir] using first k hk gives.1 gives.2
    · have nothing : ∀ k ∈ visible s, ¬ givesEntry (getCursor s cs.cursor) k := by
        rintro k hk ⟨takes, stands⟩
        obtain ⟨forward, backward⟩ := none_left k hk takes
        cases dir : (getCursor s cs.cursor).direction <;> simp only [dir] at stands
        · exact Nat.not_lt.2 stands (forward dir)
        · exact Nat.not_lt.2 stands (backward dir)
      obtain ⟨found, state⟩ := lookNext_finds_none nothing
      rw [streamLook_finds_none found]
      exact ⟨_, rfl, rfl, ready ▸ state⟩

/-- Settles O32: the checks in order, then the index stored through its frame or nothing changed. -/
theorem archiveAckStoresTheIndex : Obligations.ArchiveAckStoresTheIndex := by
  refine fun s idx => ⟨exec_archiveAck_down, exec_archiveAck_beyond, fun up within below => ?_,
    fun up within above => ⟨fun full => ?_, fun free => ?_⟩⟩
  all_goals rw [exec_archiveAck_within up within]
  · rw [if_pos (by simp [below]), if_pos below]
    rfl
  · rw [if_neg (by simp [above, full])]
  · rw [if_pos (by simp [free]), if_neg (Nat.not_le.2 above), runArchiveAck_eq idx free]
    exact ⟨_, rfl, rfl, rfl, rfl, rfl⟩

end Sys2Proof
end

section
/-! An entry of a CURSOR_READ clocked out: the cursor moves on, and its end action, its mode and its notices follow (R147, R150
to R154). -/
namespace Sys2Proof.Machine

section
variable {s : State} {st : CursorStream} {n : Nat} {c : Cursor} {en : JournalEntry}

/-! ### The cursor and the mark (R147, R150) -/

theorem putCursor_raiseMark (n : Nat) (c : Cursor) (en : JournalEntry) (s : State) :
    putCursor n c (raiseMark n en s) = { s with cursors := cursorsRead n c en s } := by
  unfold raiseMark cursorsRead
  split <;> rfl

/-- A cursor rewritten for an entry read, and its change of state announced. -/
theorem cursorNotice_raiseMark (n : Nat) (c d : Cursor) (kind : NoticeKind) (en : JournalEntry) (s : State) :
    cursorNotice n d kind (putCursor n c (raiseMark n en s)) = { s with
      cursors := cursorsRead n c en s
      notices := if d.notice then postNotice ⟨kind, .number n, 0⟩ s.notices else s.notices } := by
  rw [putCursor_raiseMark, cursorNotice_eq]

theorem getCursor_cursorsRead {t : State} (h : t.cursors = cursorsRead n c en s) : getCursor t n = c :=
  getCursor_written (s := s) t (congrArg Cursors.table h)

/-! ### The cursor past an entry (R150 to R153) -/

/-- The count goes on: more than one entry was left, or a RELOAD restores it. -/
def countGoesOn (c : Cursor) : Prop := 2 ≤ c.count ∨ (c.count = 1 ∧ c.endAction = .reload)

theorem cursorPast_eq (c : Cursor) (en : JournalEntry) : cursorPast c en = { c with
    count := c.count - 1
    current := if c.direction = .forward then en.index + 1 else en.index - 1
    buffer := if c.mode = .single then [en] else if c.mode = .block then c.buffer ++ [en] else c.buffer } := by
  have current : (cursorPast c en).current = if c.direction = .forward then en.index + 1 else en.index - 1 := by
    cases dir : c.direction <;> simp [cursorPast, dir]
  have buffer : (cursorPast c en).buffer =
      if c.mode = .single then [en] else if c.mode = .block then c.buffer ++ [en] else c.buffer := by
    cases mode : c.mode <;> simp [cursorPast, mode]
  rw [← current, ← buffer]
  rfl

theorem reload_cursorPast (oldest : Nat) (en : JournalEntry) (goes : countGoesOn c) :
    (if (cursorPast c en).count = 0 then reload oldest (cursorPast c en) else cursorPast c en) =
      cursorAfter oldest c en := by
  rw [cursorPast_eq]
  by_cases last : c.count = 1
  · simp only [last, reload, cursorAfter, if_true]
  · have left : c.count - 1 ≠ 0 := by
      rcases goes with many | ⟨one, -⟩
      · omega
      · exact absurd one last
    simp only [if_neg left, if_neg last, cursorAfter]

theorem blockComplete_eq_false_of_mode (h : c.mode ≠ .block) (en : JournalEntry) :
    blockComplete (cursorPast c en) = false := by
  simp [blockComplete, cursorPast_eq, h]

theorem blockComplete_iff (block : c.mode = .block) (counts : 1 ≤ c.count) (en : JournalEntry) :
    blockComplete (cursorPast c en) = true ↔ c.count = 1 ∨ c.blockLen ≤ c.buffer.length + 1 := by
  have runs_out : c.count ≤ 1 ↔ c.count = 1 := by omega
  simp [blockComplete, cursorPast_eq, block, runs_out, Nat.sub_eq_zero_iff_le, or_comm]

/-! ### The read of an entry -/

theorem exec_cursorEntryRead_entry (reads : s.port.session = .cursor st) (here : st.item = .entry en) :
    exec .cursorEntryRead s = .next (entryRead st en s) := by
  change execCursorEntryRead s = _
  rw [execCursorEntryRead, reads]
  simp only [here]
  rfl

theorem exec_cursorEntryRead_again (reads : s.port.session = .cursor st) (here : st.item = .again en) :
    exec .cursorEntryRead s = .next (nextRecord st s) := by
  change execCursorEntryRead s = _
  rw [execCursorEntryRead, reads]
  simp only [here]
  rfl

/-- The last entry of a STOP cursor: it has ended, and END stands (R152, R154). -/
theorem entryRead_stops (last : (getCursor s st.cursor).count = 1) (stop : (getCursor s st.cursor).endAction = .stop) :
    entryRead st en s = streamOn { st with given := some en } .endRecord { s with
      cursors := cursorsRead st.cursor { cursorPast (getCursor s st.cursor) en with state := .ended } en s
      notices := if (getCursor s st.cursor).notice then postNotice ⟨.cursorEnded, .number st.cursor, 0⟩ s.notices
        else s.notices } := by
  have out : (cursorPast (getCursor s st.cursor) en).count = 0 ∧ (cursorPast (getCursor s st.cursor) en).endAction = .stop :=
    ⟨by simp [cursorPast_eq, last], stop⟩
  rw [entryRead, if_pos out, nextRecord_end (.inr (by rw [getCursor_endCursor])), endCursor, cursorNotice_raiseMark]
  rfl

section
variable (goes : countGoesOn (getCursor s st.cursor))
include goes

theorem cursorPast_not_stopped (en : JournalEntry) : ¬ ((cursorPast (getCursor s st.cursor) en).count = 0 ∧
    (cursorPast (getCursor s st.cursor) en).endAction = .stop) := by
  simp only [cursorPast_eq]
  rintro ⟨out, stop⟩
  rcases goes with many | ⟨-, reloads⟩
  · omega
  · simp [reloads] at stop

theorem entryRead_goesOn (filling : blockComplete (cursorPast (getCursor s st.cursor) en) = false) :
    entryRead st en s = nextRecord { st with given := some en } { s with
      cursors := cursorsRead st.cursor (cursorAfter s.journal.oldest (getCursor s st.cursor) en) en s } := by
  rw [entryRead, if_neg (cursorPast_not_stopped goes en)]
  dsimp only
  rw [filling, if_neg Bool.false_ne_true, reload_cursorPast _ en goes, putCursor_raiseMark]

theorem entryRead_completes (full : blockComplete (cursorPast (getCursor s st.cursor) en) = true) :
    entryRead st en s = nextRecord { st with given := some en, complete := true, nextAgain := 0 } { s with
      cursors := cursorsRead st.cursor { cursorAfter s.journal.oldest (getCursor s st.cursor) en with
        state := .paused, paused := true } en s
      notices := if (getCursor s st.cursor).notice then postNotice ⟨.cursorPaused, .number st.cursor, 0⟩ s.notices
        else s.notices } := by
  rw [entryRead, if_neg (cursorPast_not_stopped goes en)]
  dsimp only
  rw [full, if_pos rfl, reload_cursorPast _ en goes, pauseCursor, cursorNotice_raiseMark]
  rfl

end

/-! ### Entries given again (R151, R153) -/

section
variable (more : st.endOnly = false) (goes : (getCursor s st.cursor).state ≠ .ended)
include more goes

theorem nextRecord_single (mode : (getCursor s st.cursor).mode = .single) (given : st.given = some en) :
    nextRecord st s = streamOn st (.again en) s := by
  unfold nextRecord
  dsimp only
  rw [if_neg (by simp [more, goes])]
  simp only [mode, given]

theorem nextRecord_block (mode : (getCursor s st.cursor).mode = .block) (full : st.complete = true)
    (at_next : (getCursor s st.cursor).buffer[st.nextAgain % (getCursor s st.cursor).buffer.length]? = some en) :
    nextRecord st s = streamOn { st with nextAgain := st.nextAgain + 1 } (.again en) s := by
  unfold nextRecord
  dsimp only
  rw [if_neg (by simp [more, goes])]
  simp only [mode, full, if_true, at_next]

end

/-- A read that gives again what it has given changes the port alone. -/
theorem nextRecord_again_port (h : ((getCursor s st.cursor).mode = .single ∧ st.given = some en) ∨
    ((getCursor s st.cursor).mode = .block ∧ st.complete = true)) : { nextRecord st s with port := s.port } = s := by
  by_cases ends : st.endOnly = true ∨ (getCursor s st.cursor).state = .ended
  · rw [nextRecord_end ends]
    rfl
  · obtain ⟨more, goes⟩ := not_or.1 ends
    rcases h with ⟨mode, given⟩ | ⟨mode, full⟩
    · rw [nextRecord_single (Bool.eq_false_iff.2 more) goes mode given]
      rfl
    · have reading : ¬ (st.endOnly || decide ((getCursor s st.cursor).state = .ended)) = true := by simpa using ends
      simp only [nextRecord, mode, full, if_neg reading, if_true]
      split <;> rfl

end

end Sys2Proof.Machine

namespace Sys2Proof

open Machine

/-- Settles O31: by what the count does, the mode, and whether the block is complete. -/
theorem entryReadMovesTheCursor : Obligations.EntryReadMovesTheCursor := by
  refine fun s cs en reads => ⟨fun here => ?_, fun here => ?_⟩
  · rw [exec_cursorEntryRead_entry reads here]
    refine ⟨fun last stop => ⟨_, congrArg _ (entryRead_stops last stop), ?_⟩, fun goes => ⟨fun mode => ?_,
      fun mode up more => ?_, fun mode many short => ?_, fun first others mode more buffer complete => ?_⟩⟩
    · rw [getCursor_cursorsRead (s := s) (en := en) rfl, cursorPast_eq]
      exact ⟨rfl, by simp [last], rfl, rfl, rfl, rfl, rfl⟩
    · rw [entryRead_goesOn goes (blockComplete_eq_false_of_mode (by simp [mode]) en)]
    · rw [entryRead_goesOn goes (blockComplete_eq_false_of_mode (by simp [mode]) en)]
      refine congrArg _ (nextRecord_single (en := en) more ?_ ?_ rfl) <;>
        rw [getCursor_cursorsRead (s := s) (en := en) rfl]
      · exact up
      · exact mode
    · have filling : blockComplete (cursorPast (getCursor s cs.cursor) en) = false := by
        rw [Bool.eq_false_iff, Ne, blockComplete_iff mode (by omega)]
        omega
      rw [entryRead_goesOn goes filling]
    · have counts : 1 ≤ (getCursor s cs.cursor).count := goes.elim (by omega) fun one => one.1.ge
      have filled : (cursorAfter s.journal.oldest (getCursor s cs.cursor) en).buffer = first :: others := by
        simp [cursorAfter, mode, buffer]
      rw [entryRead_completes goes ((blockComplete_iff mode counts en).2 complete)]
      refine congrArg _ (nextRecord_block (en := first) more ?_ ?_ rfl ?_) <;>
        rw [getCursor_cursorsRead (s := s) (en := en) rfl]
      · simp
      · exact mode
      · simp [filled]
  · exact ⟨_, exec_cursorEntryRead_again reads here, fun mode given => nextRecord_again_port (.inl ⟨mode, given⟩),
      fun mode full => nextRecord_again_port (en := en) (.inr ⟨mode, full⟩)⟩

end Sys2Proof
end

section
/-! A step and the front command, and what the till port's commands do in a station state that does not take them (R167, R168,
R184, R185). -/
namespace Sys2Proof.Machine

section
variable {s : State}

/-! ### Held in reset (R168, R184) -/

theorem checkedCommand_held (held : s.station = .held) {cs : List (Bool × PortStatus)} {f : State → State} :
    checkedCommand s cs f = .next (reply [] s) :=
  hostCommand_held _ held

/-- Every host command goes through the port's gate, with or without a list of checks behind it. -/
theorem exec_held {c : Instr} (host : (opcodeOf c).isSome = true) (held : s.station = .held) :
    exec c s = .next (reply [] s) := by
  cases c with
  | start | issue | redeem | complete | cancel | topup | refund | enquire | freeze | slotRead | slotFree | takeNotice
  | setMask | positionRead | cursorRead | archiveAck =>
    dsimp only [exec]
    exact checkedCommand_held held
  | status | close | rosterRead | unfreeze | rangeLock | cursorSet | badCommand =>
    dsimp only [exec]
    exact hostCommand_held _ held
  | _ => exact absurd host Bool.false_ne_true

/-! ### Refused NOT_TRADING (R185) -/

theorem exec_takeNotice (s : State) : exec .takeNotice s = checkedCommand s [(attended s, .notTrading)] runTakeNotice := rfl

theorem exec_setMask (m : Nat) (s : State) :
    exec (.setMask m) s = checkedCommand s [(attended s, .notTrading), (m ≤ 7, .badArgument)]
      fun s => accepted [] { s with notices := { s.notices with mask := m } } := rfl

theorem exec_positionRead_checks (g j : Nat) (s : State) :
    exec (.positionRead g j) s = checkedCommand s
      [(isTrading s, .notTrading), (g ≤ 1, .badArgument), (1 ≤ j && j ≤ 63, .badArgument),
        (g = 0 || s.positions.gen.closing, .badArgument)]
      fun s => accepted (if g = 1 then closingReply s j else openReply s j) s := rfl

section
variable (awake : s.station ≠ .held)
include awake

/-- A command whose first check is of the station state is refused NOT_TRADING where that check fails. -/
theorem checkedCommand_notTrading {b : Bool} (h : b = false) {cs : List (Bool × PortStatus)} {f : State → State} :
    checkedCommand s ((b, .notTrading) :: cs) f = refusedWith 0x03 s :=
  checkedCommand_refusedWith (p := .notTrading) awake (firstFail_of_fail h)

theorem exec_close_notTrading (h : isTrading s = false) : exec .close s = refusedWith 0x03 s := by
  show execClose s = _
  rw [execClose, hostCommand_taken _ awake, h]
  exact refuse_port .notTrading s

theorem exec_cursorSet_notTrading (h : attended s = false) (c i n b d e m f : Nat) (nt : Bool) :
    exec (.cursorSet c i n b d e m f nt) s = refusedWith 0x03 s := by
  show execCursorSet c i n b d e m f nt s = _
  rw [execCursorSet, hostCommand_taken _ awake, h]
  exact refuse_port .notTrading s

end

end

end Sys2Proof.Machine

namespace Sys2Proof

open Machine

/-- Settles O1: the queue's front is the command the step matches on, its rest what the state keeps. -/
theorem stepRunsTheFrontCommand : Obligations.StepRunsTheFrontCommand :=
  fun _ _ => rfl

/-- Settles O4: every host command goes through the port's gate, which empties the reply. -/
theorem heldInResetDiscardsSelectPeriods : Obligations.HeldInResetDiscardsSelectPeriods :=
  fun _ _ host held => ⟨exec_held host held, fun n k => misoByte_held n k held⟩

/-- Settles O5: each command's first check is of the station state. -/
theorem stationStateIsCheckedFirst : Obligations.StationStateIsCheckedFirst := by
  refine fun s awake => ⟨fun away => ?_, fun away => ?_, fun recovering => ?_, fun down idx => exec_archiveAck_down down⟩
  · have first : isTrading s = false := decide_eq_false away
    have sampled (p : Bool) : isTrading (sampleProtect p s) = false := first
    exact ⟨exec_close_notTrading awake first,
      fun _ _ _ _ => (exec_issue _ _ _ _ s).trans (checkedCommand_notTrading awake first),
      fun _ _ _ _ _ => (exec_redeem _ _ _ _ _ s).trans (checkedCommand_notTrading awake first),
      fun _ _ => (exec_complete _ _ s).trans (checkedCommand_notTrading awake first),
      fun _ => (exec_cancel _ s).trans (checkedCommand_notTrading awake first),
      fun _ _ _ _ => (exec_creditCommand .topup _ _ _ _ s).trans (checkedCommand_notTrading awake first),
      fun _ _ _ _ => (exec_creditCommand .refund _ _ _ _ s).trans (checkedCommand_notTrading awake first),
      fun _ _ => (exec_enquire _ _ s).trans (checkedCommand_notTrading awake first),
      fun _ _ => (exec_freeze _ _ s).trans (checkedCommand_notTrading awake first),
      fun _ _ _ p => exec_unfreeze_refused (p := .notTrading) awake (firstFail_of_fail (sampled p)),
      fun _ _ _ _ p => exec_rangeLock_refused (p := .notTrading) awake (firstFail_of_fail (sampled p)),
      fun _ => (exec_slotRead _ s).trans (checkedCommand_notTrading awake first),
      fun _ => (exec_slotFree _ s).trans (checkedCommand_notTrading awake first),
      fun _ _ => (exec_positionRead_checks _ _ s).trans (checkedCommand_notTrading awake first)⟩
  · exact fun _ _ _ _ _ _ _ => (exec_start _ _ _ _ _ _ _ s).trans (checkedCommand_notTrading awake (decide_eq_false away))
  · have first : attended s = false := by simp [attended, recovering]
    exact ⟨(exec_takeNotice s).trans (checkedCommand_notTrading awake first),
      fun _ => (exec_setMask _ s).trans (checkedCommand_notTrading awake first),
      exec_cursorSet_notTrading awake first,
      fun _ => (exec_cursorRead _ s).trans (checkedCommand_notTrading awake first)⟩

end Sys2Proof
end

section
/-! TAKE_NOTICE and the line NOTICE_N (R168, R178 to R180). -/
namespace Sys2Proof.Machine

section
variable {s : State} {mask : Nat} {nt k : Notice} {l ln rn : List Notice}

/-! ### The notice that is chosen (R180) -/

theorem chosenNotice_spec (h : chosenNotice mask l = some nt) : nt ∈ l ∧ eligible mask nt = true := by
  induction l with
  | nil => exact absurd h nofun
  | cons k l ih =>
    unfold chosenNotice at h
    split at h
    · split at h
      · next high => exact Option.some.inj h ▸ ⟨List.mem_cons_self, high⟩
      · exact absurd h nofun
    · next b later =>
      split at h
      · next wins => exact Option.some.inj h ▸ ⟨List.mem_cons_self, (Bool.and_eq_true_iff.1 wins).1⟩
      · exact (ih (Option.some.inj h ▸ later)).imp_left (List.mem_cons_of_mem k)

theorem chosenNotice_none (h : (l.any fun k => eligible mask k) = false) : chosenNotice mask l = none :=
  Option.eq_none_iff_forall_ne_some.2 fun _ chosen =>
    List.any_eq_false.1 h _ (chosenNotice_spec chosen).1 (chosenNotice_spec chosen).2

/-- An eligible notice is chosen before later ones of its level or a lower one. -/
theorem chosenNotice_first (high : eligible mask nt = true)
    (later : (rn.all fun k => !eligible mask k || levelOf k ≤ levelOf nt) = true) :
    chosenNotice mask (nt :: rn) = some nt := by
  unfold chosenNotice
  split
  · exact if_pos high
  · next b chosen =>
    obtain ⟨among, rival⟩ := chosenNotice_spec chosen
    have below : levelOf b ≤ levelOf nt := by simpa [rival] using List.all_eq_true.1 later b among
    exact if_pos (by simp [high, below])

/-- A notice that is chosen is so behind earlier ones that are not eligible or of a lower level. -/
theorem chosenNotice_append (chosen : chosenNotice mask l = some nt)
    (earlier : (ln.all fun k => !eligible mask k || levelOf k < levelOf nt) = true) :
    chosenNotice mask (ln ++ l) = some nt := by
  induction ln with
  | nil => exact chosen
  | cons k ln ih =>
    obtain ⟨low, rest⟩ := Bool.and_eq_true_iff.1 earlier
    have passed : ¬ (eligible mask k && decide (levelOf nt ≤ levelOf k)) = true := by
      simp only [Bool.or_eq_true, Bool.not_eq_true', decide_eq_true_eq] at low
      rcases low with out | below
      · simp [out]
      · simp [below]
    simp only [List.cons_append, chosenNotice, ih rest]
    exact if_neg passed

/-! ### TAKE_NOTICE and the record clocked out (R180) -/

theorem exec_takeNotice_run (att : attended s = true) : exec .takeNotice s = .next (runTakeNotice s) :=
  (exec_takeNotice s).trans (checkedCommand_run _ (not_held_of_attended att) (firstFail_of_pass att rfl))

theorem runTakeNotice_chosen (h : chosenNotice s.notices.mask s.notices.queue = some nt) :
    runTakeNotice s = { s with
      port := { s.port with reply := 0 :: noticeBytes nt.data, session := .notice nt.seq } } := by
  rw [runTakeNotice, h]
  rfl

theorem runTakeNotice_spurious (h : chosenNotice s.notices.mask s.notices.queue = none) :
    runTakeNotice s = { s with
      port := { s.port with reply := [0, 0, 0xFF] ++ List.replicate 12 0, session := .none } } := by
  rw [runTakeNotice, h]
  rfl

/-- The state with the notice of a number gone from the queue, its record clocked out. -/
def noticeClocked (n : Nat) (s : State) : State :=
  { s with
    notices := { s.notices with queue := s.notices.queue.filter fun k => k.seq ≠ n }
    port := { s.port with session := .none } }

theorem exec_noticeRecordClocked {n : Nat} (reads : s.port.session = .notice n) :
    exec .noticeRecordClocked s = .next (noticeClocked n s) := by
  show execNoticeRecordClocked s = _
  rw [execNoticeRecordClocked, reads]
  rfl

theorem exec_noticeRecordClocked_idle (h : s.port.session = .none ∨ s.port.session = .statusFlag) :
    exec .noticeRecordClocked s = .next s := by
  show execNoticeRecordClocked s = _
  rcases h with h | h <;> rw [execNoticeRecordClocked, h] <;> rfl

/-! ### NOTICE_N (R168, R179) -/

theorem eligible_iff : eligible mask k = true ↔ mask < levelOf k ∨ levelOf k = 7 := by simp [eligible]

theorem noticeLow_iff : noticeLow s = true ↔
    s.station ≠ .held ∧ ∃ k ∈ s.notices.queue, s.notices.mask < levelOf k ∨ levelOf k = 7 := by
  simp only [noticeLow, Bool.and_eq_true, decide_eq_true_eq, List.any_eq_true, eligible_iff]

/-- With no other eligible notice queued, NOTICE_N goes high as the notice's record is clocked out. -/
theorem noticeLow_noticeClocked (queued : s.notices.queue = ln ++ nt :: rn)
    (last : ((ln ++ rn).any fun k => eligible s.notices.mask k) = false) : noticeLow (noticeClocked nt.seq s) = false := by
  refine Bool.eq_false_iff.2 fun low => ?_
  obtain ⟨-, k, left, high⟩ := noticeLow_iff.1 low
  obtain ⟨stood, other⟩ := List.mem_filter.1 left
  have among : k ∈ ln ++ rn := by
    rw [queued, List.mem_append, List.mem_cons] at stood
    rcases stood with before | rfl | after
    · exact List.mem_append_left rn before
    · exact absurd rfl (of_decide_eq_true other)
    · exact List.mem_append_right ln after
  exact List.any_eq_false.1 last k among (eligible_iff.2 high)

end

end Sys2Proof.Machine

namespace Sys2Proof

open Machine

/-- Settles O27: the choice looks from the newest notice to the oldest, and an earlier one of the same level wins. -/
theorem noticesAreTakenByLevel : Obligations.NoticesAreTakenByLevel := by
  refine fun s => ⟨fun attending => ⟨fun ln nt rn queued high before after => ?_, fun none_high => ?_⟩,
    fun n reads => exec_noticeRecordClocked reads, exec_noticeRecordClocked_idle, noticeLow_iff,
    fun ln nt rn queued reads last =>
      ⟨_, exec_noticeRecordClocked reads, noticeLow_noticeClocked queued last⟩⟩
  · have chosen := chosenNotice_append (chosenNotice_first high after) before
    rw [← queued] at chosen
    rw [exec_takeNotice_run (attended_iff.2 attending), runTakeNotice_chosen chosen]
  · rw [exec_takeNotice_run (attended_iff.2 attending), runTakeNotice_spurious (chosenNotice_none none_high)]

end Sys2Proof
end

section
/-! The queue of commands under the shared operations: what the clearing unit, the slots, the tracker, the home and the cards do
leaves it alone (R167). -/
namespace Sys2Proof.Machine

/-- What each step of a fold leaves alone, the fold does. -/
theorem foldl_pending {α : Type} {f : State → α → State} (h : ∀ t a, (f t a).pending = t.pending) (l : List α) (s : State) :
    (l.foldl f s).pending = s.pending :=
  List.foldlRecOn (motive := fun t => t.pending = s.pending) l f rfl fun t ht a _ => (h t a).trans ht

/-! ### Work that keeps the records -/

@[simp] theorem examineCompletion_pending (s : State) : (examineCompletion s).pending = s.pending :=
  (examineCompletion_clerical s).pending

@[simp] theorem reexamine_pending (j : Nat) (s : State) : (reexamine j s).pending = s.pending :=
  (reexamine_clerical j s).pending

@[simp] theorem rosterDown_pending (j : Nat) (s : State) : (rosterDown j s).pending = s.pending :=
  (rosterDown_clerical j s).pending

@[simp] theorem examineBegin_pending (s : State) : (examineBegin s).pending = s.pending := (examineBegin_clerical s).pending

@[simp] theorem raiseTarget_pending (p : Nat) (s : State) : (raiseTarget p s).pending = s.pending :=
  (raiseTarget_clerical p s).pending

@[simp] theorem raiseByStamp_pending (x : Int) (s : State) : (raiseByStamp x s).pending = s.pending :=
  (raiseByStamp_clerical x s).pending

@[simp] theorem setOutcome_pending (n : Nat) (o : OutcomeRec) (s : State) : (setOutcome n o s).pending = s.pending :=
  (setOutcome_clerical n o s).pending

@[simp] theorem dropTrack_pending (p : Nat) (tr : Track) (s : State) : (dropTrack p tr s).pending = s.pending :=
  (dropTrack_clerical p tr s).pending

@[simp] theorem releaseWaits_pending (n : Nat) (s : State) : (releaseWaits n s).pending = s.pending :=
  (releaseWaits_clerical n s).pending

@[simp] theorem outcomeAfter_pending (ns : List Nat) (n : Nat) (o : OutcomeRec) (s : State) :
    (outcomeAfter ns n o s).pending = s.pending := (outcomeAfter_clerical ns n o s).pending

@[simp] theorem passDeadline_pending (s : State) : (passDeadline s).pending = s.pending := by
  have forced (p : Nat) (u : State) : (forceExpiries p u).pending = u.pending := foldl_pending (fun t e => by
    split
    · exact (congrArg State.pending (forceExpiry_holdsOnly e.1 e.2 t) :)
    · rfl) _ u
  unfold passDeadline
  simp [forced, (examineRows_clerical _).pending, (deadlineTracks_clerical _ _).pending,
    (lapseSlots_clerical _ _).pending, (silenceRows_clerical _).pending, (deadlineSpent_clerical _).pending]

/-! ### The tracker and the home's records -/

@[simp] theorem startVolatile_pending (p : Nat) (d : TrackRec) (slot : Option Nat) (part : Bool) (s : State) :
    (startVolatile p d slot part s).pending = s.pending := by simp [startVolatile]

@[simp] theorem startStored_pending (p : Nat) (d : TrackRec) (slot : Option Nat) (s : State) :
    (startStored p d slot s).pending = s.pending := by simp [startStored]

@[simp] theorem captureHold_pending (p : Nat) (g : Grant) (c : Nat) (own : Bool) (d : Draft) (k : Continuation) (s : State) :
    (captureHold p g c own d k s).pending = s.pending := by simp [captureHold]

@[simp] theorem releaseHold_pending (p : Nat) (g : Grant) (k : Continuation) (s : State) :
    (releaseHold p g k s).pending = s.pending := by simp [releaseHold]

@[simp] theorem expireHold_pending (p : Nat) (g : Grant) (s : State) : (expireHold p g s).pending = s.pending := by
  simp [expireHold]

/-! ### START and the till's card commands -/

theorem runStart_pending (a : StartArgs) (s : State) : (runStart a s).pending = s.pending := by
  have identified : (writeIdentity a s).pending = s.pending := by
    unfold writeIdentity
    split <;> simp
  calc (runStart a s).pending = (startOffered a s).pending := (runStart_clerical a s).pending
    _ = (startedOn a s).pending := ((offerPresence_clerical _).trans (startOffered_clerical a s)).pending
    _ = s.pending := identified

theorem runIssue_pending (slot amount : Nat) (rel : Bool) (ref : Option Nat) (s : State) :
    (runIssue slot amount rel ref s).pending = s.pending := by
  unfold runIssue
  split
  · rfl
  · simp

theorem runRedeem_pending (slot : Nat) (card : CardId) (amount : Nat) (part : Bool) (ref : Option Nat) (s : State) :
    (runRedeem slot card amount part ref s).pending = s.pending := by
  have own (u : State) : (decideOwnRedeem slot card amount part u).pending = u.pending := by
    unfold decideOwnRedeem
    split
    · simp
    · simp
    · split <;> simp
  unfold runRedeem
  dsimp only
  split <;> simp [own]

theorem runComplete_pending (slot amount : Nat) (s : State) : (runComplete slot amount s).pending = s.pending := by
  have own (sl : Slot) (h : HoldRef) (u : State) : (completeOwn slot sl h amount u).pending = u.pending := by
    unfold completeOwn
    split
    · simp
    · split <;> simp
  unfold runComplete
  split
  · rfl
  · dsimp only
    split <;> simp [own]

theorem runCancel_pending (slot : Nat) (s : State) : (runCancel slot s).pending = s.pending := by
  have own (sl : Slot) (h : HoldRef) (u : State) : (cancelOwn slot sl h u).pending = u.pending := by
    unfold cancelOwn
    split
    · simp
    · split <;> simp
  unfold runCancel
  split
  · rfl
  · dsimp only
    split <;> simp [own]

theorem runCredit_pending (kind : CreditKind) (slot : Nat) (card : CardId) (amount : Nat) (ref : Option Nat) (s : State) :
    (runCredit kind slot card amount ref s).pending = s.pending := by
  have own (u : State) : (decideOwnCredit kind slot card amount ref u).pending = u.pending := by
    unfold decideOwnCredit
    split <;> simp
  unfold runCredit
  dsimp only
  split <;> simp [own]

theorem runEnquire_pending (slot : Nat) (card : CardId) (s : State) : (runEnquire slot card s).pending = s.pending := by
  unfold runEnquire
  dsimp only
  split <;> simp

theorem runFreeze_pending (slot : Nat) (card : CardId) (s : State) : (runFreeze slot card s).pending = s.pending := by
  have own (u : State) : (decideOwnFreeze slot card u).pending = u.pending := by
    unfold decideOwnFreeze
    split <;> simp
  unfold runFreeze
  dsimp only
  split <;> simp [own]

theorem runUnfreeze_pending (slot : Nat) (card : CardId) (ref : Option Nat) (s : State) :
    (runUnfreeze slot card ref s).pending = s.pending := by
  unfold runUnfreeze decideUnfreeze
  split
  · simp
  · split <;> simp

theorem runRangeLock_pending (n low high : Nat) (active : Bool) (s : State) :
    (runRangeLock n low high active s).pending = s.pending := by simp [runRangeLock]

theorem runSlotFree_pending (slot : Nat) (s : State) : (runSlotFree slot s).pending = s.pending := by
  have own (h : HoldRef) (serial : Nat) (u : State) : (releaseFreed h serial u).pending = u.pending := by
    unfold releaseFreed
    split
    · rfl
    · split
      · split <;> simp
      · rfl
  have foreign (sl : Slot) (h : HoldRef) (u : State) : (releaseDetached sl h u).pending = u.pending := by
    unfold releaseDetached
    split <;> simp
  unfold runSlotFree
  split
  · rfl
  · unfold freedEffect
    split
    · split <;> simp
    · split
      · split <;> simp [own, foreign]
      · simp
    · split <;> simp
    all_goals simp

/-! ### Cursors -/

@[simp] theorem cursorNotice_pending (n : Nat) (c : Cursor) (kind : NoticeKind) (s : State) :
    (cursorNotice n c kind s).pending = s.pending := by
  unfold cursorNotice
  split <;> simp

@[simp] theorem lookNext_pending (n : Nat) (s : State) : (lookNext n s).2.pending = s.pending := by
  unfold lookNext
  dsimp only
  split
  · unfold lookForward
    dsimp only
    split <;> simp
  · unfold lookBackward endCursor
    split <;> simp

theorem streamLook_pending (st : CursorStream) (mode : CursorMode) (s : State) :
    (streamLook st mode s).pending = s.pending := by
  have looked := lookNext_pending st.cursor s
  unfold streamLook
  split <;> next found => simpa [found] using looked

@[simp] theorem nextRecord_pending (st : CursorStream) (s : State) : (nextRecord st s).pending = s.pending := by
  unfold nextRecord
  dsimp only
  split
  · simp
  · split
    · exact streamLook_pending _ _ s
    · split
      · simp
      · exact streamLook_pending _ _ s
    · split
      · split <;> simp
      · exact streamLook_pending _ _ s

theorem entryRead_pending (st : CursorStream) (e : JournalEntry) (s : State) : (entryRead st e s).pending = s.pending := by
  have marked : (raiseMark st.cursor e s).pending = s.pending := by
    unfold raiseMark
    split <;> rfl
  unfold entryRead endCursor pauseCursor
  dsimp only
  split
  · simp [marked]
  · split <;> simp [marked]

theorem runCursorSet_pending (n i cnt len : Nat) (nb : Bool) (ch : Direction × EndAction × CursorMode × CursorFilter)
    (s : State) : (runCursorSet n i cnt len nb ch s).pending = s.pending := by
  unfold runCursorSet
  dsimp only
  split <;> simp

theorem runCursorRead_pending (n : Nat) (s : State) : (runCursorRead n s).pending = s.pending := by simp [runCursorRead]

theorem runTakeNotice_pending (s : State) : (runTakeNotice s).pending = s.pending := by
  unfold runTakeNotice
  split <;> simp

end Sys2Proof.Machine
end

section
/-! The queue of commands under the events: frames handed over, the link, the store's programs, recovery; and every command (R167,
R185). -/
namespace Sys2Proof.Machine

/-! ### Frames handed over -/

theorem takePresence_pending (f : LinkFrame) (s : State) : (takePresence f s).pending = s.pending := by
  have noted (j : Nat) (halted : Bool) (p g : Nat) : (noteStation j halted p g s).pending = s.pending := by
    unfold noteStation
    extract_lets e st noted
    split <;> rfl
  unfold takePresence
  split
  · dsimp only
    split
    · split
      · simp [noted]
      · simp [noted, (resendPosition_clerical _ _ _ _).pending, (resendInDoubt_clerical _ _).pending,
          (presenceRaises_clerical _ _ _).pending]
    · exact noted _ _ _ _
  · rfl

theorem serveHoldReq_pending (f : LinkFrame) (x : Int) (s : State) : (serveHoldReq f x s).pending = s.pending := by
  have decided (serial amount : Nat) (part : Bool) (u : State) :
      (decideHold f serial amount part u).pending = u.pending := by
    unfold decideHold declineHold
    split
    · simp
    · simp
    · split <;> simp
  have admitted (serial amount : Nat) (part : Bool) (u : State) :
      (admitHold f x serial amount part u).pending = u.pending := by
    unfold admitHold declineHold
    split
    · simp
    · split <;> simp [decided]
  unfold serveHoldReq
  split
  · split
    · rfl
    · exact (admitted _ _ _ _).trans (periodCheck_clerical x s).pending
  · rfl

theorem serveSettleReq_pending (f : LinkFrame) (x : Int) (s : State) : (serveSettleReq f x s).pending = s.pending := by
  have captured (p : Nat) (g : Grant) (a : Nat) : (serveCapture f p g a s).pending = s.pending := by
    unfold serveCapture settleAnswer
    split
    · split <;> simp
    · simp
    · simp
  have released (p : Nat) (g : Grant) : (serveRelease f p g s).pending = s.pending := by
    unfold serveRelease settleAnswer
    split
    · split <;> simp
    · simp
  unfold serveSettleReq
  split
  · split
    · rfl
    · split
      · simp
      · exact captured _ _ _
  · split
    · simp
    · exact released _ _
  · rfl

theorem serveCreditReq_pending (f : LinkFrame) (x : Int) (s : State) : (serveCreditReq f x s).pending = s.pending := by
  have decided (kind : CreditKind) (serial amount : Nat) (u : State) :
      (decideCredit f kind serial amount u).pending = u.pending := by
    unfold decideCredit declineCredit
    split <;> simp
  have admitted (kind : CreditKind) (serial amount : Nat) (u : State) :
      (admitCredit f x kind serial amount u).pending = u.pending := by
    unfold admitCredit declineCredit
    split
    · simp
    · split <;> simp [decided]
  unfold serveCreditReq
  split
  · split
    · rfl
    · exact (admitted _ _ _ _).trans (periodCheck_clerical x s).pending
  · rfl

theorem serveStatusReq_pending (f : LinkFrame) (x : Int) (s : State) : (serveStatusReq f x s).pending = s.pending := by
  unfold serveStatusReq reportCard
  split
  · simp
  · split <;> simp
  · rfl

theorem takeHoldAns_pending (f : LinkFrame) (x : Int) (s : State) : (takeHoldAns f x s).pending = s.pending := by
  have abandoned (p : Nat) (tr : Track) (tag : Nat) : (releaseAbandoned p tr tag s).pending = s.pending := by
    unfold releaseAbandoned
    split <;> simp
  unfold takeHoldAns
  split
  · split
    · simp
    · exact (takeDecline_clerical _ _ _ s).pending
  · split
    · exact abandoned _ _ _
    · exact (takeGrant_clerical _ _ _ _ _ s).pending
  · rfl

/-! ### The link -/

/-- A frame that has passed the tests of the receiver (R52, R54). -/
theorem frameReceived_pending (f : LinkFrame) (s : State) :
    (if f.src = ownStation s then stationClash s else receiveFrame f s).pending = s.pending := by
  split
  · unfold stationClash
    split <;> rfl
  · unfold receiveFrame
    dsimp only
    split <;> simp

@[simp] theorem headGone_pending (s : State) : (headGone s).pending = s.pending := by
  unfold headGone
  split
  · dsimp only
    split <;> simp
  · simp

theorem collide_pending (draw : Nat) (s : State) : (collide draw s).pending = s.pending := by
  unfold collide
  split
  · split <;> simp
  · simp

theorem placeNextOwed_pending (s : State) : (placeNextOwed s).pending = s.pending := by
  unfold placeNextOwed
  split
  · rfl
  · split
    · exact (offerOwed_clerical _ _).pending
    · rfl

/-! ### The store's programs -/

@[simp] theorem startErase_pending (s : State) : (startErase s).pending = s.pending := by
  unfold startErase
  split <;> rfl

theorem storedEffect_pending (f : Frame) (s : State) : (storedEffect f s).pending = s.pending := by
  unfold storedEffect closeEndStored archiveStored
  split
  · split <;> simp
  · split <;> simp
  · rfl

theorem announce_pending (freed : Bool) (c : Continuation) (s : State) : (announce freed c s).pending = s.pending := by
  have unshown (h : HoldRef) (serial : Nat) : (releaseUnshown h serial s).pending = s.pending := by
    unfold releaseUnshown
    split
    · rfl
    · split
      · rfl
      · split <;> simp
  unfold announce announceOutcome
  split
  · rfl
  · simp
  · simp
  · split <;> simp [unshown]
  · simp

theorem frameStored_pending (p : PendingFrame) (s : State) : (frameStored p s).pending = s.pending := by
  have announced : (announce p.slotFreed p.frame.continuation
      (storedEffect p.frame (markStored p.frame.number s))).pending = s.pending := by
    simp [announce_pending, storedEffect_pending]
  unfold frameStored
  dsimp only
  split <;> split <;> simp [announced]

theorem programDone_pending (p : Program) (s : State) : (programDone p s).pending = s.pending := by
  unfold programDone controlStored
  split
  · split
    · exact frameStored_pending _ s
    · rfl
  · simp
  · split
    · simp
    · split <;> rfl
    · rfl
  all_goals rfl

@[simp] theorem scanAndComplete_pending (s : State) : (scanAndComplete s).pending = s.pending :=
  (congrArg State.pending (scanAndComplete_recovers s).rest :)

theorem recoveryProgramDone_pending (p : Program) (s : State) : (recoveryProgramDone p s).pending = s.pending := by
  unfold recoveryProgramDone
  split <;> simp

theorem endProgram_pending (p : Program) (rest : List Program) (result : ProgramResult) (s : State) :
    (endProgram p rest result s).pending = s.pending := by
  unfold endProgram
  dsimp only
  split
  · split
    · exact programDone_pending _ _
    · rfl
  · split
    · exact programDone_pending _ _
    · rfl
  · split
    · exact recoveryProgramDone_pending _ _
    · rfl
  · rfl
  · rfl

theorem endErase_pending (ok : Bool) (b : Nat) (s : State) : (endErase ok b s).pending = s.pending := by
  unfold endErase
  dsimp only
  split <;> rfl

theorem clearReserve_pending (before : Nat) (s : State) : (clearReserve before s).pending = s.pending := by
  unfold clearReserve
  split <;> simp

/-! ### Recovery -/

theorem beginRecovery_pending (s : State) : (beginRecovery s).pending = s.pending := by
  unfold beginRecovery
  dsimp only
  split
  · rfl
  · simp

theorem endRecovery_pending (owed : List Continuation) (s : State) : (endRecovery owed s).pending = s.pending := by
  rw [endRecovery_eq]

/-! ### Every command -/

/-- A command ends in a next state with the queue as it was. -/
def LeavesQueue (s : State) (o : Host.Outcome State Fault Refusal) : Prop := ∃ t, o = .next t ∧ t.pending = s.pending

section
variable {s t : State}

theorem answer_leavesQueue (h : t.pending = s.pending) : LeavesQueue s (answer t) := ⟨t, rfl, h⟩

theorem accepted_pending (h : t.pending = s.pending) (fields : List Byte) : (accepted fields t).pending = s.pending := h

theorem hostCommand_leavesQueue {f : State → State} (h : ∀ u, (f u).pending = u.pending) :
    LeavesQueue s (hostCommand s f) := by
  unfold hostCommand
  split
  · exact answer_leavesQueue rfl
  · exact answer_leavesQueue (h s)

theorem checkedCommand_leavesQueue {cs : List (Bool × PortStatus)} {f : State → State}
    (h : ∀ u, (f u).pending = u.pending) : LeavesQueue s (checkedCommand s cs f) := by
  refine hostCommand_leavesQueue fun u => ?_
  split
  · rfl
  · exact h u

/-- A host command that samples PROTECT_N before its checks. -/
theorem protectedCommand_leavesQueue {level : Bool} {cs : State → List (Bool × PortStatus)} {f : State → State}
    (h : ∀ u, (f u).pending = u.pending) : LeavesQueue s (hostCommand s fun s =>
      let s := sampleProtect level s
      match firstFail (cs s) with
      | some p => refuse p s
      | none => f s) := by
  refine hostCommand_leavesQueue fun u => ?_
  dsimp only
  split
  · rfl
  · exact h (sampleProtect level u)

theorem execClose_leavesQueue (s : State) : LeavesQueue s (execClose s) := by
  refine hostCommand_leavesQueue fun u => ?_
  split
  · rfl
  · split <;> simp

theorem execCursorSet_leavesQueue (c i n b d e m f : Nat) (nt : Bool) (s : State) :
    LeavesQueue s (execCursorSet c i n b d e m f nt s) := by
  refine hostCommand_leavesQueue fun u => ?_
  split
  · rfl
  · split
    · rfl
    · split
      · rfl
      · exact runCursorSet_pending _ _ _ _ _ _ u

theorem handOver_leavesQueue {kind : Payload → Bool} {take : LinkFrame → State → State}
    (h : ∀ f u, (take f u).pending = u.pending) : LeavesQueue s (handOver kind take s) := by
  refine answer_leavesQueue ?_
  split
  · split
    · exact h _ _
    · rfl
  · rfl

theorem traded_leavesQueue {kind : Payload → Bool} {serve : LinkFrame → Int → State → State}
    (h : ∀ f x u, (serve f x u).pending = u.pending) : LeavesQueue s (handOver kind (traded serve) s) := by
  refine handOver_leavesQueue fun f u => ?_
  unfold traded
  split
  · exact (h f _ _).trans (raiseByStamp_pending _ u)
  · rfl

theorem exec_leavesQueue (c : Instr) (s : State) : LeavesQueue s (exec c s) := by
  cases c with
  | status level =>
    show LeavesQueue s (execStatus level s)
    exact hostCommand_leavesQueue fun _ => rfl
  | start => exact checkedCommand_leavesQueue fun u => accepted_pending (runStart_pending _ u) _
  | close => exact execClose_leavesQueue s
  | rosterRead => exact hostCommand_leavesQueue fun _ => accepted_pending rfl _
  | issue => exact checkedCommand_leavesQueue fun u => accepted_pending (runIssue_pending _ _ _ _ u) _
  | redeem => exact checkedCommand_leavesQueue fun u => accepted_pending (runRedeem_pending _ _ _ _ _ u) _
  | complete => exact checkedCommand_leavesQueue fun u => accepted_pending (runComplete_pending _ _ u) _
  | cancel => exact checkedCommand_leavesQueue fun u => accepted_pending (runCancel_pending _ u) _
  | topup => exact checkedCommand_leavesQueue fun u => accepted_pending (runCredit_pending .topup _ _ _ _ u) _
  | refund => exact checkedCommand_leavesQueue fun u => accepted_pending (runCredit_pending .refund _ _ _ _ u) _
  | enquire => exact checkedCommand_leavesQueue fun u => accepted_pending (runEnquire_pending _ _ u) _
  | freeze => exact checkedCommand_leavesQueue fun u => accepted_pending (runFreeze_pending _ _ u) _
  | unfreeze slot card ref p =>
    exact protectedCommand_leavesQueue (cs := unfreezeChecks slot card p) fun u =>
      accepted_pending (runUnfreeze_pending slot card ref u) _
  | rangeLock n low high active p =>
    exact protectedCommand_leavesQueue (cs := rangeLockChecks n low high active p) fun u =>
      accepted_pending (runRangeLock_pending n low high active u) _
  | slotRead => exact checkedCommand_leavesQueue fun _ => accepted_pending rfl _
  | slotFree => exact checkedCommand_leavesQueue fun u => accepted_pending (runSlotFree_pending _ u) _
  | takeNotice => exact checkedCommand_leavesQueue runTakeNotice_pending
  | setMask m =>
    show LeavesQueue s (execSetMask m s)
    exact checkedCommand_leavesQueue fun _ => rfl
  | positionRead => exact checkedCommand_leavesQueue fun _ => accepted_pending rfl _
  | cursorSet => exact execCursorSet_leavesQueue _ _ _ _ _ _ _ _ _ s
  | cursorRead => exact checkedCommand_leavesQueue (runCursorRead_pending _)
  | archiveAck i =>
    show LeavesQueue s (execArchiveAck i s)
    refine checkedCommand_leavesQueue fun u => accepted_pending ?_ _
    split
    · rfl
    · exact (runArchiveAck_clerical i u).pending
  | badCommand => exact hostCommand_leavesQueue fun _ => rfl
  | cursorEntryRead =>
    refine answer_leavesQueue ?_
    split
    · split
      · exact entryRead_pending _ _ s
      all_goals simp
    · rfl
  | cursorRecordChosen =>
    refine answer_leavesQueue ?_
    split
    · split <;> simp
    · rfl
  | noticeRecordClocked =>
    refine answer_leavesQueue ?_
    split <;> rfl
  | noticesLostCleared =>
    refine answer_leavesQueue ?_
    split <;> rfl
  | frameReceived =>
    refine answer_leavesQueue ?_
    split
    · split
      · rfl
      · exact frameReceived_pending _ s
    · rfl
  | presence => exact handOver_leavesQueue takePresence_pending
  | holdReq => exact traded_leavesQueue serveHoldReq_pending
  | settleReq => exact traded_leavesQueue serveSettleReq_pending
  | creditReq => exact traded_leavesQueue serveCreditReq_pending
  | statusReq => exact traded_leavesQueue serveStatusReq_pending
  | holdAns => exact traded_leavesQueue takeHoldAns_pending
  | settleAns => exact traded_leavesQueue fun f x u => (takeSettleAns_clerical f x u).pending
  | creditAns => exact traded_leavesQueue fun f x u => (takeCreditAns_clerical f x u).pending
  | statusAns => exact traded_leavesQueue fun f x u => (takeStatusAns_clerical f x u).pending
  | position => exact traded_leavesQueue fun f x u => (takePosition_clerical f x u).pending
  | attemptBegin =>
    refine answer_leavesQueue ?_
    split
    · split <;> rfl
    · rfl
  | attemptIntact =>
    refine answer_leavesQueue ?_
    split <;> simp
  | attemptCollided draw =>
    refine answer_leavesQueue ?_
    split <;> simp [collide_pending]
  | backoffEnd =>
    refine answer_leavesQueue ?_
    split <;> rfl
  | presenceTimer => exact answer_leavesQueue (by simp)
  | owedFramePlaced =>
    refine answer_leavesQueue ?_
    split
    · exact placeNextOwed_pending s
    · rfl
  | silenceTimeout =>
    refine answer_leavesQueue ?_
    unfold goAbsent
    split <;> simp
  | holdExpiry =>
    refine answer_leavesQueue ?_
    split
    · split
      · split <;> simp
      · rfl
    · rfl
  | heldBackExpiry =>
    refine answer_leavesQueue ?_
    split
    · split <;> simp
    · rfl
  | holdTimerExpiry =>
    refine answer_leavesQueue ?_
    split
    · split <;> simp
    · rfl
  | answerWaitExpiry =>
    refine answer_leavesQueue ?_
    split
    · next found =>
      split
      · exact (waitOver_clerical _ (.inr (findTrack_mem found))).pending
      · rfl
    · rfl
  | inDoubtMove =>
    refine answer_leavesQueue ?_
    split
    · split <;> simp
    · rfl
  | deferredRelease =>
    refine answer_leavesQueue ?_
    split
    · split
      · split <;> simp
      · simp
    · rfl
  | counterStep =>
    refine answer_leavesQueue ?_
    split <;> simp
  | closeBegin => exact answer_leavesQueue (examineBegin_pending s)
  | closeDeadline =>
    refine answer_leavesQueue ?_
    split <;> simp
  | closeCompletion => exact answer_leavesQueue (examineCompletion_pending s)
  | programComplete =>
    refine answer_leavesQueue ?_
    split
    · exact endProgram_pending _ _ _ s
    · rfl
  | eraseBegin =>
    refine answer_leavesQueue ?_
    split
    · split <;> rfl
    · rfl
  | eraseComplete =>
    refine answer_leavesQueue ?_
    split
    · split <;> simp [clearReserve_pending, endErase_pending]
    · rfl
  | reset => exact answer_leavesQueue rfl
  | resetRelease =>
    refine answer_leavesQueue ?_
    split
    · exact beginRecovery_pending s
    · rfl
  | recoveryEnd =>
    refine answer_leavesQueue ?_
    split
    · dsimp only
      split
      · rfl
      · exact endRecovery_pending _ _
    · rfl

end

end Sys2Proof.Machine

namespace Sys2Proof

open Machine

/-- Settles O2, command by command: no operation that a command is made of touches the queue. -/
theorem commandsEndAndLeaveTheQueue : Obligations.CommandsEndAndLeaveTheQueue := exec_leavesQueue

end Sys2Proof
end

section
/-! SET_MASK and the notices-lost flag (R178, R182), and a notice posted to a full queue (R177, R181). -/
namespace Sys2Proof.Machine

section
variable {s : State} {level m : Nat} {v : Notice} {l q r : List Notice}

/-! ### SET_MASK (R178) -/

theorem exec_setMask_replaces (att : attended s = true) (small : m ≤ 7) :
    exec (.setMask m) s =
      .next { s with notices := { s.notices with mask := m }, port := acceptedPort [] s } :=
  (exec_setMask m s).trans (checkedCommand_run _ (not_held_of_attended att)
    (firstFail_of_pass att (firstFail_of_pass (decide_eq_true small) rfl)))

theorem exec_setMask_badArgument (att : attended s = true) (large : 7 < m) :
    exec (.setMask m) s = refusedWith 0x02 s :=
  (exec_setMask m s).trans (checkedCommand_refusedWith (p := .badArgument) (not_held_of_attended att)
    (firstFail_of_pass att (firstFail_of_fail (decide_eq_false (Nat.not_le.2 large)))))

theorem exec_setMask_recovering (recovering : s.station = .recovering) : exec (.setMask m) s = refusedWith 0x03 s :=
  (exec_setMask m s).trans (checkedCommand_notTrading (by simp [recovering]) (by simp [attended, recovering]))

/-! ### The notices-lost flag (R182) -/

theorem exec_noticesLostCleared_read (awake : s.station ≠ .held) (reads : s.port.session = .statusFlag) :
    exec .noticesLostCleared s =
      .next { s with notices := { s.notices with lost := false }, port := { s.port with session := .none } } :=
  congrArg Host.Outcome.next (if_pos ⟨awake, reads⟩)

theorem exec_noticesLostCleared_idle (h : s.port.session ≠ .statusFlag) : exec .noticesLostCleared s = .next s :=
  congrArg Host.Outcome.next (if_neg fun both => h both.2)

/-! ### The notice an overflow drops (R181) -/

theorem victim_eq_none (above : ∀ k ∈ q, level ≤ levelOf k) : victim level q = none :=
  Option.eq_none_iff_forall_ne_some.2 fun _ found =>
    have ⟨among, below⟩ := victim_mem found
    Nat.not_le.2 below (above _ among)

/-- A notice below the level is dropped before later ones of its level or a higher one. -/
theorem victim_first (below : levelOf v < level) (later : ∀ k ∈ r, levelOf v ≤ levelOf k) :
    victim level (v :: r) = some v := by
  unfold victim
  split
  · exact if_pos below
  · next w found => exact if_pos ⟨below, later w (victim_mem found).1⟩

/-- A notice that is dropped is so behind earlier ones of a higher level. -/
theorem victim_append (found : victim level q = some v) (earlier : ∀ k ∈ l, levelOf v < levelOf k) :
    victim level (l ++ q) = some v := by
  induction l with
  | nil => exact found
  | cons k l ih =>
    obtain ⟨above, rest⟩ := List.forall_mem_cons.1 earlier
    simp only [List.cons_append, victim, ih rest]
    exact if_neg fun both => Nat.not_le.2 above both.2

/-- Dropping by sequence number takes out the one notice that has it. -/
theorem eraseP_seq (other : ∀ k ∈ l, k.seq ≠ v.seq) :
    (l ++ v :: r).eraseP (fun x => x.seq = v.seq) = l ++ r := by
  rw [List.eraseP_append_right _ fun k among => by simpa using other k among, List.eraseP_cons_of_pos (by simp)]

/-! ### A notice posted (R177, R181, R182) -/

section
variable (n : NoticeRec) {u : Notices}

theorem postNotice_room (room : u.queue.length < 32) :
    postNotice n u = { u with queue := u.queue ++ [⟨u.nextSeq, n⟩], nextSeq := u.nextSeq + 1 } :=
  if_pos room

theorem postNotice_full_none (full : 32 ≤ u.queue.length) (h : victim (noticeLevel n.kind) u.queue = none) :
    postNotice n u = { u with lost := true, nextSeq := u.nextSeq + 1 } := by
  unfold postNotice
  rw [h]
  exact if_neg (Nat.not_lt.2 full)

theorem postNotice_full_some (full : 32 ≤ u.queue.length) (h : victim (noticeLevel n.kind) u.queue = some v) :
    postNotice n u = { u with
      queue := u.queue.eraseP (fun x => x.seq = v.seq) ++ [⟨u.nextSeq, n⟩], lost := true, nextSeq := u.nextSeq + 1 } := by
  unfold postNotice
  rw [h]
  exact if_neg (Nat.not_lt.2 full)

end

end

end Sys2Proof.Machine

namespace Sys2Proof

open Machine

/-- Settles O28: the drop looks from the newest notice to the oldest, and an earlier one of the same level is dropped first. -/
theorem overflowDropsTheLowest : Obligations.OverflowDropsTheLowest := by
  refine fun n u => ⟨postNotice_room n, fun full above => postNotice_full_none n full (victim_eq_none above),
    fun l v r full queued distinct below before after => ?_⟩
  have found : victim (noticeLevel n.kind) u.queue = some v := queued ▸ victim_append (victim_first below after) before
  have left : u.queue.eraseP (fun x => x.seq = v.seq) = l ++ r :=
    queued ▸ eraseP_seq fun k among => distinct k (List.mem_append_left r among)
  rw [postNotice_full_some n full found, left]

/-- Settles O26: SET_MASK by its two checks, the flag by the one occasion that clears it. -/
theorem maskAndLostFlag : Obligations.MaskAndLostFlag :=
  fun _ _ _ => ⟨eligible_iff, rfl, exec_setMask_recovering,
    fun attending => ⟨exec_setMask_replaces (attended_iff.2 attending), exec_setMask_badArgument (attended_iff.2 attending)⟩,
    exec_noticesLostCleared_read, exec_noticesLostCleared_idle⟩

end Sys2Proof
end

section
/-! Host commands as bytes: flags, identifiers and references read back from what the encoder writes, and the select period that
carries them (R184, R186, R188, R190). -/
namespace Sys2Proof

open Machine
open Laws.ArgLength (toBytes_length idBytes_length)

/-! ### Arguments -/

section
variable {bs rest : List Byte} {k : Nat} (h : bs.length ≤ k)
include h

/-- An identifier further on. -/
theorem cardAt_skip : cardAt (bs ++ rest) k = cardAt rest (k - bs.length) := by
  have serial : k + 1 - bs.length = k - bs.length + 1 := by omega
  have check : k + 5 - bs.length = k - bs.length + 5 := by omega
  rw [cardAt, fieldAt_skip bs rest 1 h, fieldAt_skip bs rest 4 (by omega), fieldAt_skip bs rest 1 (by omega), serial, check,
    cardAt]

/-- A flag further on. -/
theorem flagAt_skip (b : Nat) : flagAt (bs ++ rest) k b = flagAt rest (k - bs.length) b := by
  rw [flagAt, fieldAt_skip bs rest 1 h, flagAt]

/-- A till reference further on. -/
theorem refAt_skip : refAt (bs ++ rest) k = refAt rest (k - bs.length) := by
  have number : k + 1 - bs.length = k - bs.length + 1 := by omega
  rw [refAt, flagAt_skip h, fieldAt_skip bs rest 4 (by omega), number, refAt]

/-- A yes-or-no argument further on. -/
theorem yesAt_skip : yesAt (bs ++ rest) k = yesAt rest (k - bs.length) := by
  rw [yesAt, fieldAt_skip bs rest 1 h, yesAt]

end

/-- An identifier whose fields fit reads back (R186). -/
theorem cardAt_idBytes {c : CardId} (h : c.fits = true) (rest : List Byte) : cardAt (idBytes c ++ rest) 0 = c := by
  simp [CardId.fits, Sys2Proof.fits] at h
  simp [cardAt, idBytes, toBytes_length, h]

theorem cardAt_idBytes_alone {c : CardId} (h : c.fits = true) : cardAt (idBytes c) 0 = c := by
  simpa using cardAt_idBytes h []

/-- The flag beside the reference's own reads back (R190). -/
theorem flagAt_refBytes (b : Bool) (r : Option Nat) : flagAt (refBytes b r) 0 0 = b := by
  cases b <;> cases r <;> simp [flagAt, refBytes]

/-- A till reference that fits reads back, whatever the flag beside its own (R188). -/
theorem refAt_refBytes {r : Option Nat} (h : refFits r = true) (b : Bool) : refAt (refBytes b r) 0 = r := by
  cases r with
  | none => cases b <;> simp [refAt, flagAt, refBytes]
  | some v =>
    simp [refFits, Sys2Proof.fits] at h
    cases b <;> simp [refAt, flagAt, refBytes, toBytes_length, h]

/-- A yes-or-no argument reads back (R186). -/
theorem yesAt_boolByte (b : Bool) : yesAt (boolByte b) 0 = b := fieldAt_boolByte b

/-! ### Commands and their layouts (R190) -/

section
variable {c : Instr} {op k : Nat}

/-- An opcode without a layout names no command (R184). -/
theorem eq_badCommand_of_argBytes (named : opcodeOf c = some op) (layout : argBytes op = none) : c = .badCommand op := by
  cases c with
  | badCommand => rw [Option.some.inj named]
  | status | start | close | rosterRead | issue | redeem | complete | cancel | topup | refund | enquire | freeze | unfreeze
  | rangeLock | slotRead | slotFree | takeNotice | setMask | positionRead | cursorSet | cursorRead | archiveAck =>
    obtain rfl := Option.some.inj named
    exact absurd layout (by decide)
  | _ => cases named

/-- An opcode with a layout names a command (R187 to R190). -/
theorem knownOpcodes_of_argBytes (layout : argBytes op = some k) : knownOpcodes.contains op = true := by
  by_contra unknown
  simp [knownOpcodes] at unknown
  simp [argBytes, unknown] at layout

/-- A command that an opcode names has as many argument bytes as the opcode's layout (R190). -/
theorem argBytes_of_named (named : opcodeOf c = some op) (known : ∀ o, c ≠ .badCommand o) :
    argBytes op = some (argumentBytes c).length := by
  cases layout : argBytes op with
  | none => exact absurd (eq_badCommand_of_argBytes named layout) (known op)
  | some k => rw [Laws.ArgLength.of_bytes c op k named layout (known op)]

/-- An opcode that names no command has no layout (R184). -/
theorem argBytes_badCommand (fit : (Instr.badCommand op).wellFormed = true) : argBytes op = none := by
  rw [Instr.wellFormed, Bool.and_eq_true, Bool.not_eq_true'] at fit
  cases layout : argBytes op with
  | none => rfl
  | some k => exact absurd (knownOpcodes_of_argBytes layout) (Bool.eq_false_iff.1 fit.2)

/-- The opcode of a well-formed command fits its byte (R184). -/
theorem opcodeOf_lt (fit : c.wellFormed = true) (named : opcodeOf c = some op) : op < 256 := by
  cases layout : argBytes op with
  | none =>
    obtain rfl := eq_badCommand_of_argBytes named layout
    rw [Instr.wellFormed, Bool.and_eq_true] at fit
    exact of_decide_eq_true fit.1
  | some k =>
    have small : ∀ o ∈ knownOpcodes, o < 256 := by decide
    exact small op (List.contains_iff_mem.1 (knownOpcodes_of_argBytes layout))

/-- Each argument of a well-formed command is read at the place its layout gives it (R190). -/
theorem commandOf_argumentBytes (fit : c.wellFormed = true) (named : opcodeOf c = some op) (known : ∀ o, c ≠ .badCommand o) :
    commandOf (protectLevel c) op (argumentBytes c) = c := by
  cases c with
  | badCommand o => exact absurd rfl (known o)
  | status | start | close | rosterRead | issue | redeem | complete | cancel | topup | refund | enquire | freeze | unfreeze
  | rangeLock | slotRead | slotFree | takeNotice | setMask | positionRead | cursorSet | cursorRead | archiveAck =>
    obtain rfl := Option.some.inj named
    simp [Instr.wellFormed, Sys2Proof.fits] at fit
    simp [commandOf, argumentBytes, protectLevel, fit, toBytes_length, idBytes_length, cardAt_skip, cardAt_idBytes,
      cardAt_idBytes_alone, flagAt_skip, flagAt_refBytes, refAt_skip, refAt_refBytes, yesAt_skip, yesAt_boolByte]
  | _ => cases named

/-! ### The select period (R184) -/

section
variable (level : Bool) (small : op < 256)
include small

/-- A select period with an opcode that names no command gives BAD_COMMAND at that byte (R184). -/
theorem decodeTill_unknown (layout : argBytes op = none) (rest : List Byte) :
    decodeTill level (toBytes 1 op ++ rest) = some (.badCommand op) := by
  simp [toBytes, decodeTill, Nat.mod_eq_of_lt small, layout]

/-- Bytes behind the last argument byte are ignored (R184). -/
theorem decodeTill_whole {args : List Byte} (layout : argBytes op = some args.length) (more : List Byte) :
    decodeTill level (toBytes 1 op ++ args ++ more) = some (commandOf level op args) := by
  simp [toBytes, decodeTill, Nat.mod_eq_of_lt small, layout]

/-- A select period that ends before the last argument byte gives no command (R184). -/
theorem decodeTill_cut {args : List Byte} (layout : argBytes op = some args.length)
    (short : k < (toBytes 1 op ++ args).length) : decodeTill level ((toBytes 1 op ++ args).take k) = none := by
  cases k with
  | zero => rfl
  | succ j =>
    have missing : j < args.length := by simpa [toBytes, Nat.succ_lt_succ_iff] using short
    simp [toBytes, decodeTill, Nat.mod_eq_of_lt small, layout, missing]

end

end

/-- Settles O8: a command that an opcode names by its layout, BAD_COMMAND by its opcode having none. -/
theorem tillCommandsRoundTrip : Obligations.TillCommandsRoundTrip := by
  intro c bytes fit spelt
  obtain ⟨op, named, rfl⟩ := Option.map_eq_some_iff.1 spelt
  have small := opcodeOf_lt fit named
  by_cases known : ∀ o, c ≠ .badCommand o
  · have layout := argBytes_of_named named known
    refine ⟨fun more => ?_, fun k level short => decodeTill_cut level small layout short⟩
    rw [decodeTill_whole _ small layout, commandOf_argumentBytes fit named known]
  · obtain ⟨o, rfl⟩ := not_forall_not.1 known
    obtain rfl := Option.some.inj named
    refine ⟨fun more => decodeTill_unknown _ small (argBytes_badCommand fit) more, fun k level short => ?_⟩
    obtain rfl : k = 0 := Nat.lt_one_iff.1 short
    rfl

end Sys2Proof
end

section
/-! What a refused host command leaves alone (R184, R185), and what CLOSE does beyond it (R94, R95). -/
namespace Sys2Proof.Machine

section
variable {s t : State}

/-! ### Refused alone (R184, R185) -/

/-- `t` answers a host command taken in `s` as R185 has it: a reply that does not begin with ACCEPTED is a port status alone, and
nothing but the port differs. -/
def RefusesAlone (s t : State) : Prop :=
  ∀ b rest, t.port.reply = b :: rest → b ≠ 0 → rest = [] ∧ { t with port := s.port } = s

theorem refusesAlone_of_accepted (accepts : t.port.reply.head? = some 0) : RefusesAlone s t := by
  intro b rest replied refused
  rw [replied] at accepts
  exact absurd (Option.some.inj accepts) refused

theorem refusesAlone_accepted (fields : List Byte) (t : State) : RefusesAlone s (accepted fields t) :=
  refusesAlone_of_accepted rfl

/-- A refusal of a state whose port alone differs, as one that has sampled PROTECT_N (R184). -/
theorem refusesAlone_refuse (p : PortStatus) (same : { t with port := s.port } = s) : RefusesAlone s (refuse p t) :=
  fun _ _ replied _ => ⟨(List.cons.inj replied).2.symm, same⟩

/-- A host command ends in a next state that refuses alone. -/
def RefusesOnly (s : State) (o : Host.Outcome State Fault Refusal) : Prop := ∃ t, o = .next t ∧ RefusesAlone s t

theorem hostCommand_refusesOnly {f : State → State} (taken : ∀ u, RefusesAlone u (f u)) : RefusesOnly s (hostCommand s f) := by
  by_cases held : s.station = .held
  · exact ⟨_, hostCommand_held f held, fun _ _ replied => nomatch replied⟩
  · exact ⟨_, hostCommand_taken f held, taken s⟩

theorem checkedCommand_refusesOnly {cs : List (Bool × PortStatus)} {f : State → State} (run : ∀ u, RefusesAlone u (f u)) :
    RefusesOnly s (checkedCommand s cs f) := by
  refine hostCommand_refusesOnly fun u => ?_
  split
  · exact refusesAlone_refuse _ rfl
  · exact run u

/-- A host command that samples PROTECT_N before its checks. -/
theorem protectedCommand_refusesOnly {level : Bool} {cs : State → List (Bool × PortStatus)} {f : State → State}
    (run : ∀ u v, RefusesAlone u (f v)) :
    RefusesOnly s (hostCommand s fun s =>
      let s := sampleProtect level s
      match firstFail (cs s) with
      | some p => refuse p s
      | none => f s) := by
  refine hostCommand_refusesOnly fun u => ?_
  dsimp only
  split
  · exact refusesAlone_refuse _ rfl
  · exact run u _

theorem execCursorSet_refusesOnly (c i n b d e m f : Nat) (nt : Bool) (s : State) :
    RefusesOnly s (execCursorSet c i n b d e m f nt s) := by
  refine hostCommand_refusesOnly fun u => ?_
  split
  · exact refusesAlone_refuse _ rfl
  · split
    · exact refusesAlone_refuse _ rfl
    · split
      · exact refusesAlone_refuse _ rfl
      · exact refusesAlone_accepted _ _

theorem runTakeNotice_accepts (s : State) : (runTakeNotice s).port.reply.head? = some 0 := by
  unfold runTakeNotice
  split <;> rfl

/-- Every host command but CLOSE, whose refusal CLOSE_BUSY raises the target. -/
theorem exec_refusesOnly {c : Instr} (host : (opcodeOf c).isSome = true) (other : c ≠ .close) (s : State) :
    RefusesOnly s (exec c s) := by
  cases c with
  | close => exact absurd rfl other
  | status level =>
    show RefusesOnly s (execStatus level s)
    exact hostCommand_refusesOnly fun _ => refusesAlone_of_accepted rfl
  | rosterRead => exact hostCommand_refusesOnly fun u => refusesAlone_accepted _ u
  | badCommand op => exact hostCommand_refusesOnly fun _ => refusesAlone_refuse .badCommand rfl
  | unfreeze slot card ref level =>
    exact protectedCommand_refusesOnly (cs := unfreezeChecks slot card level) fun _ _ => refusesAlone_accepted _ _
  | rangeLock n low high active level =>
    exact protectedCommand_refusesOnly (cs := rangeLockChecks n low high active level) fun _ _ => refusesAlone_accepted _ _
  | cursorSet => exact execCursorSet_refusesOnly _ _ _ _ _ _ _ _ _ s
  | takeNotice => exact checkedCommand_refusesOnly fun u => refusesAlone_of_accepted (runTakeNotice_accepts u)
  | cursorRead => exact checkedCommand_refusesOnly fun _ => refusesAlone_of_accepted rfl
  | start | issue | redeem | complete | cancel | topup | refund | enquire | freeze | slotRead | slotFree | setMask
  | positionRead | archiveAck => exact checkedCommand_refusesOnly fun _ => refusesAlone_accepted _ _
  | _ => exact absurd host Bool.false_ne_true

/-! ### CLOSE (R94, R95) -/

/-- CLOSE is refused NOT_TRADING outside TRADING, and otherwise only while a closing generation exists (R95). -/
theorem exec_close_refused {b : Byte} {rest : List Byte} (hx : exec .close s = .next t) (replied : t.port.reply = b :: rest)
    (refused : b ≠ 0) :
    exec .close s = refusedWith 0x03 s ∨ s.station = .trading ∧ s.positions.gen.closing = true := by
  by_cases trading : s.station = .trading
  · cases closing : s.positions.gen.closing with
    | true => exact .inr ⟨trading, rfl⟩
    | false =>
      rw [exec_close trading, closing] at hx
      obtain rfl := Host.Outcome.next.inj hx
      exact absurd (List.cons.inj replied).1.symm refused
  · by_cases held : s.station = .held
    · rw [exec_held rfl held] at hx
      obtain rfl := Host.Outcome.next.inj hx
      exact nomatch replied
    · exact .inl (exec_close_notTrading held (decide_eq_false trading))

end

end Sys2Proof.Machine

namespace Sys2Proof

open Machine

/-- Settles O6: every command but CLOSE refuses alone; a CLOSE refused while a closing generation exists only asks (O24). -/
theorem refusedCommandsChangeNothing : Obligations.RefusedCommandsChangeNothing := by
  intro c s t host hx b rest replied refused
  by_cases other : c ≠ .close
  · obtain ⟨u, hu, alone⟩ := exec_refusesOnly host other s
    obtain rfl := Host.Outcome.next.inj (hx.symm.trans hu)
    obtain ⟨single, same⟩ := alone b rest replied refused
    exact ⟨single, fun _ => same, fun close => absurd close other⟩
  · obtain rfl := not_not.1 other
    rcases exec_close_refused hx replied refused with away | ⟨trading, closing⟩
    · obtain rfl := Host.Outcome.next.inj (hx.symm.trans away)
      obtain ⟨rfl, rfl⟩ := List.cons.inj replied
      exact ⟨rfl, fun _ => rfl, fun _ busy => absurd busy (by decide)⟩
    · have asked := (closeRaisesTheTargetAndBegins s _ trading rfl).1 closing
      obtain rfl := Host.Outcome.next.inj (hx.symm.trans asked)
      obtain ⟨rfl, rfl⟩ := List.cons.inj replied
      exact ⟨rfl, fun unlike => absurd unlike (by decide), fun _ _ => ⟨trading, closing, rfl, rfl, rfl⟩⟩

end Sys2Proof
end
